-- ==== Sys2Proof/Word.lean ====
section
/-! DEFINITION. The words of the TJ-418: what the manual treats as bits is a bit vector, numbers are `Nat`. -/

namespace Sys2Proof

/-- A factory serial: 32 bits, compared and copied, never calculated with (03 R48). -/
abbrev Serial := BitVec 32

/-- A set of positions 1 to 32: position p is bit p − 1 (11 R185, the ECHO's applied set). -/
abbrev PosSet := BitVec 32

/-- A set of the eight leaf inputs: LEAF-n is bit n − 1 (11 R186). -/
abbrev LeafSet := BitVec 8

/-- A set of the twelve notice kinds: kind code 0x40 + b is bit b (11 R186). -/
abbrev NoticeSet := BitVec 12

/-- A timer of the part (10 R180): `none` stopped, `some e` running with `e` ticks counted since its start. -/
abbrev Timer := Option Nat

end Sys2Proof
end

