-- ==== Sys2Proof/Syntax.lean ====
section
/-! DEFINITION. The commands the TJ-418 takes: one constructor of `Instr` per row of spec/opcode_table.json, and the
data they carry. Numbers that a frame or a message carries in one byte are `Nat`; WellFormed.lean bounds them. -/

namespace Sys2Proof

/-- A coupler port: CP1 serves end 1, CP2 serves end 2 (00 section 3). Also names a coupler end. -/
inductive PortId where
  | p1 | p2
  deriving DecidableEq, Repr

/-- One of the two redundant line pairs of a port (00 section 3). -/
inductive PairId where
  | a | b
  deriving DecidableEq, Repr

/-- How a coach faces (00 section 4.2). -/
inductive Orientation where
  | forward | reversed
  deriving DecidableEq, Repr

/-- The five transmit classes, in the order the arbiter prefers them (02 R40, R41). -/
inductive Cls where
  | control | door | grant | sweep | beat
  deriving DecidableEq, Repr

/-- Why a pair ended a bad frame (01 R2). -/
inductive BadCause where
  | crc | framing | length
  deriving DecidableEq, Repr

/-- The two causes whose release RESET_RELEASE names: the supply, or the RESET_N pin (10 R181). -/
inductive ResetLine where
  | power | pin
  deriving DecidableEq, Repr

/-- The payload of a BEAT (03 R48, 11 section 11.2), each field as the line carries it. -/
structure BeatBody where
  serial  : Serial
  port    : Nat
  node    : Nat
  lead    : Bool
  maxRate : Nat
  rate    : Nat
  deriving DecidableEq, Repr

/-- A consist table entry (04 R70), with the ranges its eight bytes allow (11 section 11.2). -/
structure Entry where
  serial      : Serial
  position    : Nat
  orientation : Orientation
  cls         : Nat
  leaves1     : Nat
  leaves2     : Nat
  stepPower   : Nat
  lead        : Bool
  deriving DecidableEq, Repr

/-- An entry as a NODE and a CONFIRM carry it: the entry, and bits 7 and 6 of the byte that packs class, orientation and lead
flag, which no field names (11 section 11.2) and which a node that passes the frame on leaves as they arrived (02 R30, 05 R94; log
entry 33). -/
structure LineEntry where
  entry : Entry
  spare : Nat
  deriving DecidableEq, Repr

/-- A command of the block: one constructor per row of the opcode table. The commands that stand for a good frame
ended by a pair carry the port, the pair, the frame's link sequence, its generation and its payload fields. The
request commands carry the tag and the payload bytes of the request message. -/
inductive Instr where
  -- resets, start-up and clock
  | powerOnReset
  | hardReset
  | resetRelease (line : ResetLine) (ratesel : Bool)
  | startupEnd
  | hostTxMarkSettled
  | refclkLoss (stopped : Bool)
  -- discrete inputs
  | coupledInputChange (p : PortId) (coupled : Bool)
  | couplerSenseDebounce (p : PortId)
  | leafInputChange (n : Nat) (closed : Bool)
  | leafDebounce (n : Nat)
  | openTimerBoost
  -- pair receivers and alignment
  | falseStart (p : PortId) (q : PairId)
  | strayCharacterFramingError (p : PortId) (q : PairId)
  | lineIdleAbandon (p : PortId) (q : PairId)
  | badFrame (p : PortId) (q : PairId) (cause : BadCause)
  | patternRepetition (p : PortId) (q : PairId) (sampled : BitVec 32)
  | pattern (p : PortId) (q : PairId) (ready : Bool) (rate : Nat)
  | patternTimer (p : PortId)
  | attemptTimerExpiry (p : PortId)
  | retryTimerExpiry (p : PortId)
  | pairBreak (p : PortId) (q : PairId)
  | breakEnd (p : PortId) (q : PairId)
  | silenceTimerExpiry (p : PortId) (q : PairId)
  | heldCopyTimerExpiry (p : PortId)
  -- transmit side and relaying
  | transmitEnd (p : PortId)
  | headFrameAging (p : PortId) (c : Cls)
  | malformedFrame (p : PortId) (q : PairId) (seq gen kind direction : Nat) (payload : List Nat)
  -- neighbours
  | beatTimerExpiry (p : PortId)
  | beat (p : PortId) (q : PairId) (seq gen : Nat) (body : BeatBody)
  | neighbourTimeout (p : PortId)
  -- inauguration
  | walk (p : PortId) (q : PairId) (seq gen : Nat) (leader : Serial) (next : Nat)
  | node (p : PortId) (q : PairId) (seq gen : Nat) (line : LineEntry)
  | tail (p : PortId) (q : PairId) (seq gen : Nat) (flags last : Nat) (serial : Serial)
  | clash (p : PortId) (q : PairId) (seq gen : Nat) (claimant leader : Serial)
  | call (p : PortId) (q : PairId) (seq gen : Nat) (serial : Serial) (position cause port : Nat)
  | settleTimerExpiry
  | walkTimerExpiry
  | confirm (p : PortId) (q : PairId) (seq gen : Nat) (n reason : Nat) (entries : List LineEntry)
  | confirmTimerExpiry
  | sweepSilenceTimerExpiry
  -- status sweep
  | intervalTimerExpiry
  | sweep (p : PortId) (q : PairId) (seq gen : Nat) (number flags n : Nat) (list : List Nat)
  | sweepReturn (p : PortId) (q : PairId) (seq gen : Nat) (number flags n : Nat) (list : List Nat)
  | sweepTimeout
  -- doors
  | door (p : PortId) (q : PairId) (seq gen : Nat) (id action side first last : Nat)
  | echo (p : PortId) (q : PairId) (seq gen : Nat) (id : Nat) (applied : PosSet)
  | echoTimerExpiry
  -- heating
  | grant (p : PortId) (q : PairId) (seq gen : Nat) (cause number n : Nat) (grants : List Nat)
  | grantWatchdogExpiry
  | holdOffExpiry
  | tripEntryRemoval
  -- host requests
  | getIdentity (tag : Nat) (payload : List Nat)
  | setCoach (tag : Nat) (payload : List Nat)
  | claimLead (tag : Nat) (payload : List Nat)
  | dropLead (tag : Nat) (payload : List Nat)
  | startInauguration (tag : Nat) (payload : List Nat)
  | getConsist (tag : Nat) (payload : List Nat)
  | getNode (tag : Nat) (payload : List Nat)
  | setWindow (tag : Nat) (payload : List Nat)
  | doorCommand (tag : Nat) (payload : List Nat)
  | getDoorResults (tag : Nat) (payload : List Nat)
  | setStandstill (tag : Nat) (payload : List Nat)
  | setHeatLevel (tag : Nat) (payload : List Nat)
  | setSupply (tag : Nat) (payload : List Nat)
  | supplyTrip (tag : Nat) (payload : List Nat)
  | getHeating (tag : Nat) (payload : List Nat)
  | setSweepInterval (tag : Nat) (payload : List Nat)
  | setPortMaximumRate (tag : Nat) (payload : List Nat)
  | setPortLoopMode (tag : Nat) (payload : List Nat)
  | setPortForceRealign (tag : Nat) (payload : List Nat)
  | getPort (tag : Nat) (payload : List Nat)
  | isolateLeaves (tag : Nat) (payload : List Nat)
  | enterIsolation (tag : Nat) (payload : List Nat)
  | leaveIsolation (tag : Nat) (payload : List Nat)
  | setNotices (tag : Nat) (payload : List Nat)
  | softReset (tag : Nat) (payload : List Nat)
  | softResetEffect (ratesel : Bool)
  | unknownRequest (kind tag : Nat) (payload : List Nat)
  -- host link
  | hostCharacterFramingError
  | hostFrameOverlength
  | hostFrameCrcError
  | frameTimerExpiry
  | hostMessageSent
  | pairCharacterTaken (p : PortId) (q : PairId) (char : Nat)
  | hostSyncByte
  deriving DecidableEq, Repr

end Sys2Proof
end

