-- ==== Sys2Proof/Config.lean ====
section
/-! DEFINITION. What the manual leaves open as a value. -/

namespace Sys2Proof

/-- FREE VALUE (log entry 6). The demand, 0 to 7, that a leader takes from a received full record whose demand byte
is above 7 (11 R185 gives the field as 0–7 and does not say what a greater value stands for). It is applied to the
model's counter of free values, to the position and to the byte received; nothing constrains it. -/
opaque Config.openDemand : Nat → Nat → Nat → Fin 8

/-- FREE VALUE (log entry 27). The level of the RATESEL pin, true for high, that is read when HOST_MESSAGE_SENT is the end of a
Soft Reset reply (09 R167): the command does not name it. It is applied to the model's counter of free values; nothing
constrains it. -/
opaque Config.openRatesel : Nat → Bool

end Sys2Proof
end

