-- ==== Sys2Proof/Machine/State.lean ====
section
/-! DEFINITION. The state of one TJ-418, as plain data: every piece of state the manual gives the part, block by
block, the queue of commands that are waiting, and the state right after a power-on reset. -/

namespace Sys2Proof.Machine

/-! ### Line frames (02 section 2.1, 11 section 11.2) -/

/-- What a line frame carries, by kind. `raw` is a frame whose kind, direction or payload length fits no kind. -/
inductive Body where
  | pattern (ready : Bool) (rate : Nat)
  | beat (b : BeatBody)
  | walk (leader : Serial) (next : Nat)
  | node (e : LineEntry)
  | tail (flags last : Nat) (serial : Serial)
  | clash (claimant leader : Serial)
  | confirm (n reason : Nat) (entries : List LineEntry)
  | call (serial : Serial) (position cause port : Nat)
  | door (id action side first last : Nat)
  | echo (id : Nat) (applied : PosSet)
  | sweep (number flags n : Nat) (list : List Nat)
  | ret (number flags n : Nat) (list : List Nat)
  | grant (cause number n : Nat) (grants : List Nat)
  | raw (kind direction : Nat) (payload : List Nat)
  deriving DecidableEq, Repr

/-- A line frame: its generation and its body. Its link sequence belongs to one coupling and is given to it by the
transmitting port (02 R30). -/
structure Frame where
  gen  : Nat
  body : Body
  deriving DecidableEq, Repr

/-! ### Coupler port (01) -/

/-- The five port states (01 section 1.2). -/
inductive PortState where
  | open | aligning | linked | faulted | loop
  deriving DecidableEq, Repr

/-- The loop modes (01 R24). -/
inductive LoopMode where
  | normal | localLoop | remoteEcho
  deriving DecidableEq, Repr

/-- The step state with its target rate code (01 R5). -/
inductive Step where
  | none
  | pending (target : Nat)
  | inProgress (target : Nat)
  deriving DecidableEq, Repr

/-- Why a port last entered OPEN (01 R6). -/
inductive OpenCause where
  | decoupled | hold | break | timeout | realign | loop | reset
  deriving DecidableEq, Repr

/-- The pair states (01 R5). -/
inductive PairState where
  | idle | scanning | aligned | failed | inService
  deriving DecidableEq, Repr

/-- One line pair of a port (01 R5, R19, R27). -/
structure Pair where
  st             : PairState
  /-- the outcomes of the scan positions checked so far, position 0 first; its length is the scan position (R9) -/
  passes         : List Bool
  phase          : Nat
  score          : Nat
  degraded       : Bool
  brk            : Bool
  lastGood       : Option Nat
  badSince       : Nat
  silence        : Timer
  /-- the port made a delivery since the silence timer last started (R19) -/
  deliveredSince : Bool
  /-- link sequences delivered from this pair's copies that the other pair has not passed yet (R19, log entry 15) -/
  copies         : List Nat
  /-- a frame is open in the receiver (R2) -/
  inFrame        : Bool
  falseStarts    : Nat
  framingErrors  : Nat
  crcErrors      : Nat
  breaks         : Nat
  deriving DecidableEq, Repr

/-- The held copy: a frame with its link sequence and the pair it came from (01 R22). -/
structure Held where
  seq   : Nat
  pair  : PairId
  frame : Frame
  deriving DecidableEq, Repr

/-- Coupler port state (01 R5), the timers of R4, R7 and R8, and the PATTERN bookkeeping of R11 and R13. -/
structure Coupler where
  st              : PortState
  rate            : Nat
  stagedMax       : Nat
  activeMax       : Nat
  rateCapped      : Bool
  loopMode        : LoopMode
  step            : Step
  failCount       : Nat
  ready           : Bool
  rateSettled     : Bool
  txSeq           : Nat
  lastDelivered   : Option Nat
  held            : Option Held
  heldTimer       : Timer
  openCause       : OpenCause
  lostFrames      : Nat
  aligningDiscards : Nat
  attemptTimer    : Timer
  retryTimer      : Timer
  patternTimer    : Timer
  /-- a PATTERN frame is due and goes out ahead of the arbiter's next choice (R4, R41) -/
  patternDue      : Bool
  /-- running for 10 ms from the start of a PATTERN frame's transmission (R13, log entry 18) -/
  answerGuard     : Timer
  pairA           : Pair
  pairB           : Pair
  deriving DecidableEq, Repr

/-! ### Line Relay of a port (02) -/

/-- A class queue: its frames, head first, how many milliseconds its head has spent at the head while the port was LINKED, and
by how many levels that has improved its level so far (02 R37, R40). -/
structure ClassQueue where
  frames : List Frame
  waited : Nat
  aged   : Nat
  deriving DecidableEq, Repr

/-- The frame a port's transmitter is sending: a PATTERN frame of CP, or a frame the arbiter handed it with the link
sequence it took (01 R4) and whether it started while a rate step was pending (01 R15). -/
inductive LineTx where
  | pattern (ready : Bool) (rate : Nat)
  | frame (c : Cls) (seq : Nat) (f : Frame) (underStep : Bool)
  deriving DecidableEq, Repr

/-- The Line Relay's state for one port (02 R37 to R46). -/
structure Relay where
  control   : ClassQueue
  door      : ClassQueue
  grant     : ClassQueue
  sweep     : ClassQueue
  beat      : ClassQueue
  slot      : Option (Cls × Frame)
  tx        : Option LineTx
  overrun   : Nat
  misroute  : Nat
  malformed : Nat
  dropped   : Nat
  stale     : Nat
  deriving DecidableEq, Repr

/-! ### Neighbour Monitor of a port (03) -/

/-- Neighbour status (03 R49). -/
inductive NbrStatus where
  | absent | present | echoSeen
  deriving DecidableEq, Repr

/-- The node states (04 section 4.1). -/
inductive NodeState where
  | detached | provisional | operational | suspended | isolated
  deriving DecidableEq, Repr

/-- A neighbour or candidate record (03 R49). -/
structure NbrRecord where
  serial  : Serial
  farPort : PortId
  farNode : NodeState
  farLead : Bool
  farGen  : Nat
  deriving DecidableEq, Repr

/-- The Neighbour Monitor's state for one port (03 R49, R57). -/
structure Nbr where
  status       : NbrStatus
  record       : Option NbrRecord
  candidate    : Option NbrRecord
  beatTimer    : Timer
  timeout      : Timer
  invalidBeats : Nat
  changes      : Nat
  /-- raw level of COUPLED-n: true is coupled -/
  raw          : Bool
  /-- debounced coupler sense: true is coupled -/
  sense        : Bool
  stab         : Timer
  deriving DecidableEq, Repr

/-- One port with the three blocks' state for it. -/
structure Port where
  cp : Coupler
  lr : Relay
  nm : Nbr
  deriving DecidableEq, Repr

/-! ### Consist Controller (04, 05) -/

/-- Why the node last left OPERATIONAL, or PROVISIONAL for SUSPENDED or ISOLATED (04 R60). -/
inductive ExitCause where
  | none | walk | neighbour | coach | claim | drop | conflict | confirmTimeout | mismatch | silence | isolation
  deriving DecidableEq, Repr

/-- The TRUNCATED reason of a table (04 R70). -/
inductive Reason where
  | none | timeout | overlength
  deriving DecidableEq, Repr

/-- A consist table; N is the number of its entries, and it is empty when it has none (04 R70, R71). -/
structure Table where
  gen     : Nat
  reason  : Reason
  entries : List Entry
  deriving DecidableEq, Repr

/-- The coach record (04 R74). -/
structure Coach where
  cls       : Nat
  leaves1   : Nat
  leaves2   : Nat
  stepPower : Nat
  deriving DecidableEq, Repr

/-- Walk engine states (05 section 5.1). -/
inductive WalkState where
  | idle | settling | walkFirst | walkSecond
  deriving DecidableEq, Repr

/-- Why the lead claim last changed (05 R78). -/
inductive LeadCause where
  | none | claimed | dropped | cabEnd | conflict | isolation
  deriving DecidableEq, Repr

/-- Consist Controller state (04 R60, 05 R78). -/
structure Consist where
  node         : NodeState
  claim        : Option PortId
  gen          : Nat
  position     : Option Nat
  orientation  : Option Orientation
  front        : Option PortId
  table        : Table
  confirmTimer : Timer
  silenceTimer : Timer
  lastExit     : ExitCause
  coach        : Coach
  walk         : WalkState
  settleTimer  : Timer
  walkTimer    : Timer
  /-- collected records, by rising position -/
  records      : List Entry
  callHeld     : Bool
  confirmCheck : Bool
  leadCause    : LeadCause
  deriving DecidableEq, Repr

/-! ### Sweep Engine (06) -/

/-- A full record (06 R108, 11 section 11.2). Leaf n of a train side is bit n − 1 of its set. -/
structure Record where
  position    : Nat
  operational : Bool
  closed      : Bool
  relLeft     : Bool
  relRight    : Bool
  boost       : Bool
  gap         : Bool
  degraded    : Bool
  demand      : Nat
  openLeft    : BitVec 4
  openRight   : BitVec 4
  isoLeft     : BitVec 4
  isoRight    : BitVec 4
  deriving DecidableEq, Repr

/-- An element of a sweep's list (06 section 6.3). -/
inductive Element where
  | full (r : Record)
  | nil
  | nilRun (k : Nat)
  deriving DecidableEq, Repr

/-- One position of the summary (06 R117). -/
structure SummaryFlags where
  operational : Bool
  closed      : Bool
  relLeft     : Bool
  relRight    : Bool
  deriving DecidableEq, Repr

/-- The last completed sweep summary (06 R117); `flags` runs over positions 1 to N. -/
structure Summary where
  gen    : Nat
  number : Nat
  flags  : List SummaryFlags
  deriving DecidableEq, Repr

/-- How a sweep was lost (06 R119). -/
inductive LossCause where
  | timeout | coverage
  deriving DecidableEq, Repr

/-- The last lost sweep, for the SWEEP_LOST notice (06 R119). -/
structure LostSweep where
  gen    : Nat
  number : Nat
  cause  : LossCause
  deriving DecidableEq, Repr

/-- Sweep Engine state (06 R101, R102). -/
structure SweepState where
  interval         : Nat
  intervalTimer    : Timer
  /-- the period the interval timer was last started with (R106) -/
  intervalPeriod   : Nat
  timeout          : Timer
  launchDue        : Bool
  lastLaunched     : Option Nat
  outstanding      : Option Nat
  refresh          : Bool
  lostRow          : Nat
  /-- last-full-record table, positions 1 to 32 -/
  lastFull         : List (Option Record)
  /-- demand table, positions 1 to 32 -/
  demand           : List Nat
  summary          : Option Summary
  lostSweeps       : Nat
  coverageFailures : Nat
  staleReturns     : Nat
  lastLost         : Option LostSweep
  lastSeen         : Option Nat
  gap              : Bool
  lastSent         : Option Record
  deriving DecidableEq, Repr

/-! ### Door Control Unit (07) -/

/-- One leaf input: raw and debounced level (true is closed) and its stability timer (07 R120). -/
structure Leaf where
  raw    : Bool
  closed : Bool
  stab   : Timer
  deriving DecidableEq, Repr

/-- The last door record (07 R120). -/
structure DoorRecord where
  gen     : Nat
  id      : Nat
  applied : Bool
  deriving DecidableEq, Repr

/-- Window anchors (07 R125). -/
inductive Anchor where
  | front | rear
  deriving DecidableEq, Repr

/-- A window (07 R125). -/
structure Window where
  anchor  : Anchor
  offset  : Nat
  count   : Nat
  enabled : Bool
  deriving DecidableEq, Repr

/-- Door actions (07 R125). -/
inductive Action where
  | release | close
  deriving DecidableEq, Repr

/-- Train sides of a door command (07 R125). -/
inductive TrainSide where
  | left | right | both
  deriving DecidableEq, Repr

/-- A command of the door queue (07 R125). -/
structure DoorCmd where
  id        : Nat
  action    : Action
  side      : TrainSide
  window    : Nat
  automatic : Bool
  deriving DecidableEq, Repr

/-- What is kept of the command in flight beside its queue entry (07 R125, R130). -/
structure InFlight where
  first    : Nat
  last     : Nat
  expected : PosSet
  applied  : PosSet
  deriving DecidableEq, Repr

/-- How a door command ended (07 section 7). -/
inductive Ending where
  | complete | partialEnd | timeout | empty | aborted
  deriving DecidableEq, Repr

/-- A result of the result list (07 R138). -/
structure DoorResult where
  cmd     : DoorCmd
  /-- first and last as resolved at dispatch -/
  range   : Option (Nat × Nat)
  ending  : Ending
  applied : Option PosSet
  deriving DecidableEq, Repr

/-- Door Control Unit state (07 R120, R125). -/
structure Doors where
  /-- LEAF-1 to LEAF-8 -/
  leaves      : List Leaf
  isolated    : LeafSet
  openTimer   : Timer
  boost       : Bool
  release1    : Bool
  release2    : Bool
  lastDoor    : Option DoorRecord
  /-- windows 1 to 4 -/
  windows     : List Window
  queue       : List DoorCmd
  inFlight    : Option InFlight
  echoTimer   : Timer
  lastId      : Nat
  results     : List DoorResult
  standstill  : Bool
  trainClosed : Bool
  fence       : Bool
  lateEchoes  : Nat
  deriving DecidableEq, Repr

/-! ### Heating Allocator (08) -/

/-- Causes of a GRANT (08 section 8.2). -/
inductive GrantCause where
  | allocation | held | shed | trip
  deriving DecidableEq, Repr

/-- The last GRANT taken (08 R145). -/
structure GrantTaken where
  gen    : Nat
  cause  : GrantCause
  number : Option Nat
  deriving DecidableEq, Repr

/-- Heating Allocator state (08 R145, R151). -/
structure Heating where
  level      : Nat
  held       : Nat
  watchdog   : Timer
  lastTaken  : Option GrantTaken
  capacity   : Nat
  ramp       : Nat
  /-- grant table, positions 1 to 32 -/
  grants     : List Nat
  rotation   : Nat
  holdOff    : Timer
  lockout    : Bool
  /-- times of recent trips on the timebase, oldest first -/
  trips      : List Nat
  lastIssued : Option (GrantCause × Option Nat)
  deriving DecidableEq, Repr

/-! ### Host Link (09) -/

/-- Status codes of replies (09 R171). -/
inductive Status where
  | ok | busy | unknown | length | range | state | notLead | queueFull | notStandstill | lockedOut
  deriving DecidableEq, Repr

/-- The notice kinds, in the fixed order of 09 R178. -/
inductive Notice where
  | consist | lead | neighbour | port | closed | doorResult | release | supply | grant | sweepLost | leaf | start
  deriving DecidableEq, Repr

/-- A reply: the kind and tag of its request, its status, and the payload bytes after the status (09 R171). -/
structure Reply where
  kind   : Nat
  tag    : Nat
  status : Status
  fields : List Nat
  deriving DecidableEq, Repr

/-- A request held in a slot (09 R170). -/
structure Request where
  kind    : Nat
  tag     : Nat
  payload : List Nat
  deriving DecidableEq, Repr

/-- The message in transmission: the BUSY reply of the refusal slot, the reply at the head of the reply queue, or a
notice with the payload taken when it started (09 R172, R178). -/
inductive HostTx where
  | busy
  | reply
  | notice (k : Notice) (payload : List Nat)
  deriving DecidableEq, Repr

/-- Host Link state (09 R168, 10 R184). -/
structure HostLink where
  /-- RATESEL as last read: true is 460800 baud -/
  rateHigh      : Bool
  /-- the receive assembler: none is HUNT; IN FRAME it holds the bytes taken so far, the sync byte first (log entry 9) -/
  assembler     : Option (List Nat)
  frameTimer    : Timer
  /-- the requests that hold a slot, oldest first; at most four -/
  slots         : List Request
  replies       : List Reply
  refusal       : Option Reply
  tx            : Option HostTx
  notices       : NoticeSet
  mask          : NoticeSet
  resetPending  : Bool
  /-- HOST-TX has not yet been at mark for 10 bit times after the initialisation (10 R184) -/
  txHold        : Bool
  frameTimeouts : Nat
  crcErrors     : Nat
  charFraming   : Nat
  overlength    : Nat
  droppedReqs   : Nat
  deriving DecidableEq, Repr

/-! ### Reset and Timebase (10) -/

/-- The reset causes (00 section 4.8). -/
inductive ResetCause where
  | power | pin | soft
  deriving DecidableEq, Repr

/-- Reset, start-up and Timebase state (10 R180 to R182), the RATESEL pin and the factory serial. -/
structure Sys where
  porAsserted    : Bool
  pinAsserted    : Bool
  cause          : ResetCause
  init           : Timer
  refclkStopped  : Bool
  ticks          : Nat
  ratesel        : Bool
  serial         : Serial
  /-- the MODEL's own: counts the free values taken (log entry 6) -/
  freeCount      : Nat
  deriving DecidableEq, Repr

/-- The whole part, and the queue of the commands that are waiting, first in first out. -/
structure State where
  sys     : Sys
  port1   : Port
  port2   : Port
  cc      : Consist
  se      : SweepState
  dcu     : Doors
  ha      : Heating
  hl      : HostLink
  pending : List Instr
  deriving DecidableEq, Repr

/-- No command faults: the manual names no condition that stops the part, and gives every command an effect. -/
inductive Fault where
  deriving DecidableEq, Repr

/-- Why a command is refused. -/
inductive Refusal where
  /-- Raised by `exec` for a command that has no meaning yet, with its mnemonic; no arm uses it. Safe: the model stops. -/
  | notModelled (mnemonic : String)
  deriving DecidableEq, Repr

/-! ### After reset -/

/-- A pair after any reset (01 R5). -/
def Pair.reset : Pair :=
  { st := .idle, passes := [], phase := 0, score := 0, degraded := false, brk := false, lastGood := none,
    badSince := 0, silence := none, deliveredSince := false, copies := [], inFrame := false,
    falseStarts := 0, framingErrors := 0, crcErrors := 0, breaks := 0 }

/-- A coupler port after power-on or hard reset (01 R5). -/
def Coupler.reset : Coupler :=
  { st := .open, rate := 0, stagedMax := 2, activeMax := 2, rateCapped := false, loopMode := .normal,
    step := .none, failCount := 0, ready := false, rateSettled := false, txSeq := 0, lastDelivered := none,
    held := none, heldTimer := none, openCause := .reset, lostFrames := 0, aligningDiscards := 0,
    attemptTimer := none, retryTimer := none, patternTimer := none, patternDue := false,
    answerGuard := none, pairA := Pair.reset, pairB := Pair.reset }

/-- An empty class queue. -/
def ClassQueue.empty : ClassQueue := { frames := [], waited := 0, aged := 0 }

/-- A port's Line Relay after any reset (02 R46). -/
def Relay.reset : Relay :=
  { control := .empty, door := .empty, grant := .empty, sweep := .empty, beat := .empty, slot := none,
    tx := none, overrun := 0, misroute := 0, malformed := 0, dropped := 0, stale := 0 }

/-- A port's Neighbour Monitor after power-on or hard reset, the raw input at its pull-down level (03 R49, R57). -/
def Nbr.reset : Nbr :=
  { status := .absent, record := none, candidate := none, beatTimer := none, timeout := none,
    invalidBeats := 0, changes := 0, raw := false, sense := false, stab := none }

/-- A port after power-on or hard reset. -/
def Port.reset : Port := { cp := .reset, lr := .reset, nm := .reset }

/-- The empty consist table: N 0, generation 0, reason none (04 R71). -/
def Table.empty : Table := { gen := 0, reason := .none, entries := [] }

/-- The default coach record (04 R74). -/
def Coach.default : Coach := { cls := 0, leaves1 := 2, leaves2 := 2, stepPower := 8 }

/-- The Consist Controller after power-on or hard reset (04 R60, 05 R78). -/
def Consist.reset : Consist :=
  { node := .detached, claim := none, gen := 0, position := none, orientation := none, front := none,
    table := .empty, confirmTimer := none, silenceTimer := none, lastExit := .none, coach := .default,
    walk := .idle, settleTimer := none, walkTimer := none, records := [], callHeld := false,
    confirmCheck := false, leadCause := .none }

/-- The Sweep Engine after power-on or hard reset (06 R101, R102). -/
def SweepState.reset : SweepState :=
  { interval := 200, intervalTimer := none, intervalPeriod := 200, timeout := none, launchDue := false,
    lastLaunched := none, outstanding := none, refresh := false, lostRow := 0,
    lastFull := List.replicate 32 none, demand := List.replicate 32 0, summary := none, lostSweeps := 0,
    coverageFailures := 0, staleReturns := 0, lastLost := none, lastSeen := none, gap := false,
    lastSent := none }

/-- A window after power-on or hard reset (07 R125). -/
def Window.default : Window := { anchor := .front, offset := 0, count := 1, enabled := false }

/-- A leaf input in power-on reset, at its pull-down level: open (10 section 10.5). -/
def Leaf.reset : Leaf := { raw := false, closed := false, stab := none }

/-- The Door Control Unit after power-on or hard reset (07 R120, R125). -/
def Doors.reset : Doors :=
  { leaves := List.replicate 8 Leaf.reset, isolated := 0, openTimer := none, boost := false,
    release1 := false, release2 := false, lastDoor := none, windows := List.replicate 4 Window.default,
    queue := [], inFlight := none, echoTimer := none, lastId := 15, results := [], standstill := false,
    trainClosed := false, fence := false, lateEchoes := 0 }

/-- The Heating Allocator after power-on or hard reset (08 R145, R151). -/
def Heating.reset : Heating :=
  { level := 0, held := 0, watchdog := none, lastTaken := none, capacity := 0, ramp := 40,
    grants := List.replicate 32 0, rotation := 1, holdOff := none, lockout := false, trips := [],
    lastIssued := none }

/-- The Host Link after power-on or hard reset, before RATESEL is read (09 R168). -/
def HostLink.reset : HostLink :=
  { rateHigh := false, assembler := none, frameTimer := none, slots := [], replies := [], refusal := none,
    tx := none, notices := 0, mask := BitVec.allOnes 12, resetPending := false, txHold := false,
    frameTimeouts := 0, crcErrors := 0, charFraming := 0, overlength := 0, droppedReqs := 0 }

/-- The part held in power-on reset (10 R181). DESIGN CHOICE, unsafe: the serial (log entry 4); the input pins at
their pull-down levels (log entry 5). -/
def Sys.reset : Sys :=
  { porAsserted := true, pinAsserted := false, cause := .power, init := none, refclkStopped := false,
    ticks := 0, ratesel := false, serial := 0x00104A21#32, freeCount := 0 }

/-- The machine right after reset: held in power-on reset, every block at its power-on values (log entry 1 says how it
comes to run from here). -/
def State.reset : State :=
  { sys := .reset, port1 := .reset, port2 := .reset, cc := .reset, se := .reset, dcu := .reset,
    ha := .reset, hl := .reset, pending := [] }

end Sys2Proof.Machine
end

