-- ==== Sys2Proof/Machine/Flags.lean ====
section
/-! DEFINITION. Reading and writing the parts of the state, saturating counters, notice flags, and every indication and
output pin that the manual says is formed from other state. -/

namespace Sys2Proof.Machine

/-! ### Ports and pairs -/

/-- The port at the other coupler end. -/
def other : PortId → PortId
  | .p1 => .p2
  | .p2 => .p1

/-- The other pair of a port. -/
def otherPair : PairId → PairId
  | .a => .b
  | .b => .a

/-- The number of a port or coupler end, 1 or 2. -/
def portNumber : PortId → Nat
  | .p1 => 1
  | .p2 => 2

/-- The port or coupler end that a number names. -/
def portOfNumber : Nat → Option PortId
  | 1 => some .p1
  | 2 => some .p2
  | _ => none

/-- The state of one port. -/
def State.port (s : State) : PortId → Port
  | .p1 => s.port1
  | .p2 => s.port2

/-- Replace the state of one port. -/
def State.setPort (s : State) (p : PortId) (x : Port) : State :=
  match p with
  | .p1 => { s with port1 := x }
  | .p2 => { s with port2 := x }

/-- The coupler port part of a port. -/
def State.cp (s : State) (p : PortId) : Coupler := (s.port p).cp

/-- The Line Relay part of a port. -/
def State.lr (s : State) (p : PortId) : Relay := (s.port p).lr

/-- The Neighbour Monitor part of a port. -/
def State.nm (s : State) (p : PortId) : Nbr := (s.port p).nm

/-- Change the coupler port part of a port. -/
def State.modCp (s : State) (p : PortId) (f : Coupler → Coupler) : State :=
  s.setPort p { s.port p with cp := f (s.port p).cp }

/-- Change the Line Relay part of a port. -/
def State.modLr (s : State) (p : PortId) (f : Relay → Relay) : State :=
  s.setPort p { s.port p with lr := f (s.port p).lr }

/-- Change the Neighbour Monitor part of a port. -/
def State.modNm (s : State) (p : PortId) (f : Nbr → Nbr) : State :=
  s.setPort p { s.port p with nm := f (s.port p).nm }

/-- One pair of a coupler port. -/
def Coupler.pair (c : Coupler) : PairId → Pair
  | .a => c.pairA
  | .b => c.pairB

/-- Change one pair of a coupler port. -/
def Coupler.modPair (c : Coupler) (q : PairId) (f : Pair → Pair) : Coupler :=
  match q with
  | .a => { c with pairA := f c.pairA }
  | .b => { c with pairB := f c.pairB }

/-- Change both pairs of a coupler port. -/
def Coupler.bothPairs (c : Coupler) (f : Pair → Pair) : Coupler :=
  { c with pairA := f c.pairA, pairB := f c.pairB }

/-! ### Blocks -/

/-- Change the Consist Controller. -/
def State.modCc (s : State) (f : Consist → Consist) : State := { s with cc := f s.cc }

/-- Change the Sweep Engine. -/
def State.modSe (s : State) (f : SweepState → SweepState) : State := { s with se := f s.se }

/-- Change the Door Control Unit. -/
def State.modDcu (s : State) (f : Doors → Doors) : State := { s with dcu := f s.dcu }

/-- Change the Heating Allocator. -/
def State.modHa (s : State) (f : Heating → Heating) : State := { s with ha := f s.ha }

/-- Change the Host Link. -/
def State.modHl (s : State) (f : HostLink → HostLink) : State := { s with hl := f s.hl }

/-! ### Counters -/

/-- A counter of 0–65535 that stops at its maximum (00 section 4.4). -/
def inc16 (n : Nat) : Nat := min 65535 (n + 1)

/-- A counter of 0–255 that stops at its maximum. -/
def inc8 (n : Nat) : Nat := min 255 (n + 1)

/-! ### Notices (09 R177) -/

/-- The bit of a notice kind in the mask and in the pending set: its place in the order of 09 R178. -/
def noticeBit : Notice → Nat
  | .consist => 0
  | .lead => 1
  | .neighbour => 2
  | .port => 3
  | .closed => 4
  | .doorResult => 5
  | .release => 6
  | .supply => 7
  | .grant => 8
  | .sweepLost => 9
  | .leaf => 10
  | .start => 11

/-- The set that holds one notice kind. -/
def noticeSet (k : Notice) : NoticeSet := BitVec.ofNat 12 (2 ^ noticeBit k)

/-- The pending set after a kind is raised: set if the kind is in the mask, suppressed otherwise (09 R177). -/
def HostLink.raise (h : HostLink) (k : Notice) : HostLink :=
  { h with notices := h.notices ||| (noticeSet k &&& h.mask) }

/-- A block raises a notice kind. -/
def State.raise (s : State) (k : Notice) : State := { s with hl := s.hl.raise k }

/-- A block raises a notice kind if a condition holds. -/
def State.raiseIf (s : State) (c : Bool) (k : Notice) : State := if c then s.raise k else s

/-! ### Phases of the part (10 R181, R182) -/

/-- A power-on or hard reset is asserted (10 R181). -/
def State.inReset (s : State) : Bool := s.sys.porAsserted || s.sys.pinAsserted

/-- The start-up initialisation is over: the part runs (10 R182). -/
def State.running (s : State) : Bool := !s.inReset && s.sys.init.isNone

/-- REFCLK runs: line and host characters can be sent and sampled, and ticks come (10 R180). -/
def State.clocked (s : State) : Bool := !s.sys.refclkStopped

/-- The Timebase ticks: no reset is asserted and REFCLK runs (10 R180). -/
def State.ticking (s : State) : Bool := !s.inReset && s.clocked

/-- A timer has counted its period. -/
def timerDue (t : Timer) (period : Nat) : Bool :=
  match t with
  | none => false
  | some e => decide (period ≤ e)

/-- A timer of the part expires: the Timebase ticks, and the timer has counted its period (10 R180, log entry 3). -/
def State.expires (s : State) (t : Timer) (period : Nat) : Bool := s.ticking && timerDue t period

/-- The host link receiver takes characters: the part runs, REFCLK runs and no soft reset is pending (09 R167, R173). -/
def State.hostListening (s : State) : Bool := s.running && s.clocked && !s.hl.resetPending

/-- The receive assembler is IN FRAME (09 R168). -/
def HostLink.inFrame (h : HostLink) : Bool := h.assembler.isSome

/-- A frame that ends now ends in the assembler: the receiver takes characters, and it is IN FRAME (09 R169). -/
def State.hostFraming (s : State) : Bool := s.hostListening && s.hl.inFrame

/-! ### Coupler port indications (01) -/

/-- The preferred pair (01 R20). -/
def Coupler.preferred (c : Coupler) : PairId :=
  if c.pairA.degraded && !c.pairB.degraded then .b else .a

/-- DEGRADED-PAIR: at least one pair is DEGRADED (01 R20). -/
def Coupler.degradedPair (c : Coupler) : Bool := c.pairA.degraded || c.pairB.degraded

/-- IMPAIRED: both pairs are DEGRADED (01 R20). -/
def Coupler.impaired (c : Coupler) : Bool := c.pairA.degraded && c.pairB.degraded

/-- The advertised maximum rate code (01 R14). -/
def Coupler.advertised (c : Coupler) : Nat := if c.rateCapped then c.rate else c.activeMax

/-- The port is in LOOP with loop mode LOCAL LOOP (01 R25). -/
def Coupler.localLoop (c : Coupler) : Bool := c.st == .loop && c.loopMode == .localLoop

/-- The pair frames characters (01 R1): ALIGNED during an attempt, or its port LINKED or in LOOP with LOCAL LOOP. -/
def Coupler.framing (c : Coupler) (q : PairId) : Bool :=
  match c.st with
  | .linked => true
  | .aligning => (c.pair q).st == .aligned
  | .loop => c.loopMode == .localLoop
  | .open => false
  | .faulted => false

/-- The pair takes characters from a line that is being sampled (01 R1, 10 R180). -/
def State.framing (s : State) (p : PortId) (q : PairId) : Bool := s.clocked && (s.cp p).framing q

/-! ### Node indications (02, 04) -/

/-- The front port for routing: a claim's cab end, else the one the Consist Controller holds (02 R31). -/
def State.front (s : State) : Option PortId :=
  match s.cc.claim with
  | some e => some e
  | none => s.cc.front

/-- The rear port: the port other than the front port (02 R31). -/
def State.rear (s : State) : Option PortId := s.front.map other

/-- The port has a neighbour: its status is PRESENT (03 R49). -/
def State.hasNeighbour (s : State) (p : PortId) : Bool := (s.nm p).status == .present

/-- The rear port has a neighbour. -/
def State.rearPresent (s : State) : Bool :=
  match s.rear with
  | some r => s.hasNeighbour r
  | none => false

/-- The node is an OPERATIONAL leader. -/
def State.operationalLeader (s : State) : Bool := s.cc.claim.isSome && s.cc.node == .operational

/-- N of the consist table, 0 when it is empty (04 R70, R71). -/
def State.consistN (s : State) : Nat := s.cc.table.entries.length

/-! ### Door indications (07) -/

/-- LEAF input i + 1 is considered: its number lies within the coach record's leaf count of its side (07 R122). -/
def Coach.considers (c : Coach) (i : Nat) : Bool :=
  if i < 4 then decide (i < c.leaves1) else decide (i - 4 < c.leaves2)

/-- LEAF input i + 1 counts as open: considered, not isolated, debounced open (07 R123). -/
def State.leafOpen (s : State) (i : Nat) : Bool :=
  s.cc.coach.considers i && !s.dcu.isolated.getLsbD i && !(s.dcu.leaves.getD i Leaf.reset).closed

/-- LEAF input i + 1 is reported isolated: considered and in the isolation set (06 R108). -/
def State.leafIsolated (s : State) (i : Nat) : Bool :=
  s.cc.coach.considers i && s.dcu.isolated.getLsbD i

/-- Some considered leaf that is not isolated is open (07 R123). -/
def State.anyLeafOpen (s : State) : Bool := (List.range 8).any s.leafOpen

/-- The local closed condition (07 R123). -/
def State.localClosed (s : State) : Bool := !s.anyLeafOpen && !s.dcu.release1 && !s.dcu.release2

/-- The node's demand: its heat level, plus 1 with the boost flag set, at most 7 (08 R146). -/
def State.nodeDemand (s : State) : Nat := if s.dcu.boost then min 7 (s.ha.level + 1) else s.ha.level

/-! ### Output pins (10 R183) -/

/-- RELEASE-1 (07 R124). -/
def State.release1Out (s : State) : Bool := s.running && s.dcu.release1

/-- RELEASE-2 (07 R124). -/
def State.release2Out (s : State) : Bool := s.running && s.dcu.release2

/-- HEAT-ENABLE: OPERATIONAL, held grant above 0, watchdog running (08 R147). -/
def State.heatEnable (s : State) : Bool :=
  s.running && s.cc.node == .operational && decide (0 < s.ha.held) && s.ha.watchdog.isSome

/-- SUPPLY-ENABLE: an OPERATIONAL leader, C above 0, neither hold-off nor lockout (08 R153). -/
def State.supplyEnable (s : State) : Bool :=
  s.running && s.operationalLeader && decide (0 < s.ha.capacity) && s.ha.holdOff.isNone && !s.ha.lockout

/-- TRAIN-CLOSED (07 R142). -/
def State.trainClosedOut (s : State) : Bool := s.running && s.dcu.trainClosed

/-- THRU-HOLD: low in reset, in the initialisation and in ISOLATED, high otherwise (03 R58). -/
def State.thruHold (s : State) : Bool := s.running && !(s.cc.node == .isolated)

/-- HOST-TX: low in reset and initialisation, afterwards at mark or sending (10 R184). -/
def State.hostTxDriven (s : State) : Bool := s.running

end Sys2Proof.Machine
end

