-- ==== Sys2Proof/Machine/Operands.lean ====
section
/-! DEFINITION. Operand forms: the codes of the enumerated sets (11 R185; log entry 11 says which list each set's codes
are read from), numbers as bytes, and the layouts of line frames, entries and sweep lists (11 section 11.2). -/

namespace Sys2Proof.Machine

/-! ### Codes (11 R185) -/

def flagCode (b : Bool) : Nat := if b then 1 else 0

/-- In the order of the table of 01 section 1.1, the first list that names every port state (01 R4). -/
def portStateCode : PortState → Nat
  | .open => 0
  | .faulted => 1
  | .aligning => 2
  | .linked => 3
  | .loop => 4

def loopModeCode : LoopMode → Nat
  | .normal => 0
  | .localLoop => 1
  | .remoteEcho => 2

def stepCode : Step → Nat
  | .none => 0
  | .pending _ => 1
  | .inProgress _ => 2

def openCauseCode : OpenCause → Nat
  | .decoupled => 0
  | .hold => 1
  | .break => 2
  | .timeout => 3
  | .realign => 4
  | .loop => 5
  | .reset => 6

def pairStateCode : PairState → Nat
  | .idle => 0
  | .scanning => 1
  | .aligned => 2
  | .failed => 3
  | .inService => 4

def pairCode : PairId → Nat
  | .a => 0
  | .b => 1

def nbrStatusCode : NbrStatus → Nat
  | .absent => 0
  | .present => 1
  | .echoSeen => 2

def nodeStateCode : NodeState → Nat
  | .detached => 0
  | .provisional => 1
  | .operational => 2
  | .suspended => 3
  | .isolated => 4

def orientationCode : Option Orientation → Nat
  | none => 0
  | some .forward => 1
  | some .reversed => 2

def reasonCode : Reason → Nat
  | .none => 0
  | .timeout => 1
  | .overlength => 2

def exitCauseCode : ExitCause → Nat
  | .none => 0
  | .walk => 1
  | .neighbour => 2
  | .coach => 3
  | .claim => 4
  | .drop => 5
  | .conflict => 6
  | .confirmTimeout => 7
  | .mismatch => 8
  | .silence => 9
  | .isolation => 10

def walkStateCode : WalkState → Nat
  | .idle => 0
  | .settling => 1
  | .walkFirst => 2
  | .walkSecond => 3

def leadCauseCode : LeadCause → Nat
  | .none => 0
  | .claimed => 1
  | .dropped => 2
  | .cabEnd => 3
  | .conflict => 4
  | .isolation => 5

/-- Causes of a CALL, in the order of the table of 04 R68. -/
def callNeighbour : Nat := 0
def callJoin : Nat := 1
def callCoach : Nat := 2
def callMismatch : Nat := 3

def lossCauseCode : LossCause → Nat
  | .timeout => 0
  | .coverage => 1

def anchorCode : Anchor → Nat
  | .front => 0
  | .rear => 1

def actionCode : Action → Nat
  | .release => 0
  | .close => 1

def trainSideCode : TrainSide → Nat
  | .left => 0
  | .right => 1
  | .both => 2

def endingCode : Ending → Nat
  | .complete => 0
  | .partialEnd => 1
  | .timeout => 2
  | .empty => 3
  | .aborted => 4

def grantCauseCode : GrantCause → Nat
  | .allocation => 0
  | .held => 1
  | .shed => 2
  | .trip => 3

def resetCauseCode : ResetCause → Nat
  | .power => 0
  | .pin => 1
  | .soft => 2

/-- Status codes (11 R186). -/
def statusCode : Status → Nat
  | .ok => 0
  | .busy => 1
  | .unknown => 2
  | .length => 3
  | .range => 4
  | .state => 5
  | .notLead => 6
  | .queueFull => 7
  | .notStandstill => 8
  | .lockedOut => 9

/-- Notice kind codes 0x40 to 0x4B (11 R186). -/
def noticeCode (k : Notice) : Nat := 0x40 + noticeBit k

/-- A flag that stands alone in a byte. -/
def flagOfCode : Nat → Option Bool
  | 0 => some false
  | 1 => some true
  | _ => none

/-- The value of Set Standstill, true for on: "on or off" is the first list that names both (07 R140). -/
def standstillOfCode : Nat → Option Bool
  | 0 => some true
  | 1 => some false
  | _ => none

def loopModeOfCode : Nat → Option LoopMode
  | 0 => some .normal
  | 1 => some .localLoop
  | 2 => some .remoteEcho
  | _ => none

def anchorOfCode : Nat → Option Anchor
  | 0 => some .front
  | 1 => some .rear
  | _ => none

def actionOfCode : Nat → Option Action
  | 0 => some .release
  | 1 => some .close
  | _ => none

def trainSideOfCode : Nat → Option TrainSide
  | 0 => some .left
  | 1 => some .right
  | 2 => some .both
  | _ => none

def nodeStateOfCode : Nat → Option NodeState
  | 0 => some .detached
  | 1 => some .provisional
  | 2 => some .operational
  | 3 => some .suspended
  | 4 => some .isolated
  | _ => none

def reasonOfCode : Nat → Option Reason
  | 0 => some .none
  | 1 => some .timeout
  | 2 => some .overlength
  | _ => none

def grantCauseOfCode : Nat → Option GrantCause
  | 0 => some .allocation
  | 1 => some .held
  | 2 => some .shed
  | 3 => some .trip
  | _ => none

/-- A sweep number, or 0xFF for none; the outer `none` is a byte that is neither (08 R149). -/
def sweepNumberOfCode (b : Nat) : Option (Option Nat) :=
  if b = 0xFF then some none else if b ≤ 15 then some (some b) else none

/-! ### Numbers as bytes, most-significant first (11 R185) -/

def byte1 (n : Nat) : List Nat := [n % 256]
def byte2 (n : Nat) : List Nat := [n / 256 % 256, n % 256]
def byte4 (n : Nat) : List Nat := [n / 16777216 % 256, n / 65536 % 256, n / 256 % 256, n % 256]

def serialBytes (v : Serial) : List Nat := byte4 v.toNat
def posSetBytes (v : PosSet) : List Nat := byte4 v.toNat

/-- The number that four bytes spell. -/
def number4 (a b c d : Nat) : Nat := a * 16777216 + b * 65536 + c * 256 + d

/-- An optional number of one byte: none is 0xFF (11 R185). -/
def optByte : Option Nat → List Nat
  | none => [0xFF]
  | some n => byte1 n

/-- An optional port or cab end: none is 0xFF. -/
def optPort (p : Option PortId) : List Nat := optByte (p.map portNumber)

/-- An elapsed time takes two bytes; above 65 535 ms it is sent as 65 535 (11 R186). DESIGN CHOICE: that of a stopped timer is
sent as 0 (log entry 39). -/
def elapsedBytes (t : Timer) : List Nat := byte2 (min 65535 (t.getD 0))

/-! ### Entries (11 section 11.2) -/

/-- An entry as the part writes it: the bits that no field names are 0 (11 section 11.1). -/
def plainEntry (e : Entry) : LineEntry := { entry := e, spare := 0 }

/-- The eight bytes of an entry on a line, the two bits that no field names as they stand (02 R30). -/
def lineEntryBytes (x : LineEntry) : List Nat :=
  let e := x.entry
  serialBytes e.serial ++
    [e.position % 256,
     e.cls % 16 + (if e.orientation = .reversed then 16 else 0) + (if e.lead then 32 else 0) + x.spare % 4 * 64,
     e.leaves1 % 16 * 16 + e.leaves2 % 16,
     e.stepPower % 256]

/-- An entry's eight bytes as the part writes them. -/
def entryBytes (e : Entry) : List Nat := lineEntryBytes (plainEntry e)

/-- An entry read from its eight bytes, its unnamed bits not examined. -/
def entryOfBytes : List Nat → Option Entry
  | [a, b, c, d, pos, f, l, sp] =>
    some { serial := BitVec.ofNat 32 (number4 a b c d), position := pos, cls := f % 16,
           orientation := if f / 16 % 2 = 1 then .reversed else .forward, lead := f / 32 % 2 = 1,
           leaves1 := l / 16 % 16, leaves2 := l % 16, stepPower := sp }
  | _ => none

/-- An entry on a line read from its eight bytes, the two unnamed bits among them. -/
def lineEntryOfBytes (pl : List Nat) : Option LineEntry :=
  (entryOfBytes pl).map fun entry => { entry, spare := pl.getD 5 0 / 64 % 4 }

/-- A run of entries, eight bytes each. -/
def entriesOfBytes : List Nat → Option (List LineEntry)
  | [] => some []
  | a :: b :: c :: d :: e :: f :: g :: h :: rest =>
    match lineEntryOfBytes [a, b, c, d, e, f, g, h], entriesOfBytes rest with
    | some x, some xs => some (x :: xs)
    | _, _ => none
  | _ => none

/-- The fields of an entry lie in the ranges of a consist table entry, its serial not zero (04 R70). -/
def entryInRange (e : Entry) : Bool :=
  e.serial != 0 && decide (e.cls ≤ 15) && decide (e.leaves1 ≤ 4) && decide (e.leaves2 ≤ 4) &&
    decide (1 ≤ e.stepPower) && decide (e.stepPower ≤ 40)

/-! ### Full records and lists of a sweep (11 section 11.2) -/

/-- The flags byte of a full record. -/
def Record.flags (r : Record) : Nat :=
  flagCode r.operational + 2 * flagCode r.closed + 4 * flagCode r.relLeft + 8 * flagCode r.relRight +
    16 * flagCode r.boost + 32 * flagCode r.gap + 64 * flagCode r.degraded

/-- The six bytes of a full record. -/
def Record.bytes (r : Record) : List Nat :=
  [r.position % 64, r.flags, r.demand % 256, r.openLeft.toNat, r.openRight.toNat,
   r.isoLeft.toNat + 16 * r.isoRight.toNat]

/-- Six bytes read as a full record; the type bits of the first byte are not looked at here. -/
def recordOfBytes (b0 b1 b2 b3 b4 b5 : Nat) : Record :=
  { position := b0 % 64, operational := b1 % 2 = 1, closed := b1 / 2 % 2 = 1, relLeft := b1 / 4 % 2 = 1,
    relRight := b1 / 8 % 2 = 1, boost := b1 / 16 % 2 = 1, gap := b1 / 32 % 2 = 1, degraded := b1 / 64 % 2 = 1,
    demand := b2, openLeft := BitVec.ofNat 4 b3, openRight := BitVec.ofNat 4 b4,
    isoLeft := BitVec.ofNat 4 b5, isoRight := BitVec.ofNat 4 (b5 / 16) }

def Element.bytes : Element → List Nat
  | .full r => r.bytes
  | .nil => [0x40]
  | .nilRun k => [0x80, k % 256]

def listBytes (l : List Element) : List Nat := l.flatMap Element.bytes

/-- A list read element by element; `none` where it does not decode: an element of type 11, one cut short, a full
record whose position lies outside 1 to 32. -/
def decodeList : List Nat → Option (List Element)
  | [] => some []
  | b0 :: rest =>
    match b0 / 64 % 4, rest with
    | 0, b1 :: b2 :: b3 :: b4 :: b5 :: rest' =>
      if 1 ≤ b0 % 64 ∧ b0 % 64 ≤ 32 then
        (decodeList rest').map (Element.full (recordOfBytes b0 b1 b2 b3 b4 b5) :: ·)
      else none
    | 1, rest' => (decodeList rest').map (Element.nil :: ·)
    | 2, k :: rest' => (decodeList rest').map (Element.nilRun k :: ·)
    | _, _ => none

/-- How many positions an element covers (06 R111). -/
def Element.covers : Element → Nat
  | .full _ => 1
  | .nil => 1
  | .nilRun k => k

/-- How many positions a list covers (06 R111). -/
def listCovers (l : List Element) : Nat := (l.map Element.covers).sum

/-- A NIL-RUN stands for 2 to 32 positions (06 section 6.3). -/
def Element.runOk : Element → Bool
  | .full _ => true
  | .nil => true
  | .nilRun k => decide (2 ≤ k) && decide (k ≤ 32)

/-! ### Frames (11 section 11.2) -/

def Body.kindCode : Body → Nat
  | .pattern _ _ => 0x01
  | .beat _ => 0x02
  | .walk _ _ => 0x03
  | .node _ => 0x04
  | .tail _ _ _ => 0x05
  | .clash _ _ => 0x06
  | .confirm _ _ _ => 0x07
  | .call _ _ _ _ => 0x08
  | .door _ _ _ _ _ => 0x09
  | .echo _ _ => 0x0A
  | .sweep _ _ _ _ => 0x0B
  | .ret _ _ _ _ => 0x0C
  | .grant _ _ _ _ => 0x0D
  | .raw kind _ _ => kind

/-- The direction code a kind has: FRONTWARD 0, REARWARD 1, NEIGHBOUR 2 (02 R28, 11 section 11.2). -/
def directionOfKind : Nat → Option Nat
  | 0x01 => some 2
  | 0x02 => some 2
  | 0x03 => some 1
  | 0x04 => some 0
  | 0x05 => some 0
  | 0x06 => some 0
  | 0x07 => some 1
  | 0x08 => some 0
  | 0x09 => some 1
  | 0x0A => some 0
  | 0x0B => some 1
  | 0x0C => some 0
  | 0x0D => some 1
  | _ => none

def Body.direction : Body → Nat
  | .raw _ direction _ => direction
  | b => (directionOfKind b.kindCode).getD 2

/-- The payload bytes of a body, in the order 11 section 11.2 gives. -/
def Body.payload : Body → List Nat
  | .pattern ready rate => [0x55, 0x55, 0x55, 0x55, flagCode ready, rate % 256]
  | .beat b =>
    serialBytes b.serial ++ [b.port % 256, b.node % 256, flagCode b.lead, b.maxRate % 256, b.rate % 256]
  | .walk leader next => serialBytes leader ++ [next % 256]
  | .node e => lineEntryBytes e
  | .tail flags last serial => [flags % 256, last % 256] ++ serialBytes serial
  | .clash claimant leader => serialBytes claimant ++ serialBytes leader
  | .confirm n reason entries => [n % 256, reason % 256] ++ entries.flatMap lineEntryBytes
  | .call serial position cause port => serialBytes serial ++ [position % 256, cause % 256, port % 256]
  | .door id action side first last => [id % 256, action % 256, side % 256, first % 256, last % 256]
  | .echo id applied => [id % 256] ++ posSetBytes applied
  | .sweep number flags n list => [number % 256, flags % 256, n % 256] ++ list
  | .ret number flags n list => [number % 256, flags % 256, n % 256] ++ list
  | .grant cause number n grants => [cause % 256, number % 256, n % 256] ++ grants
  | .raw _ _ payload => payload

/-- The payload length lies in the range 11 section 11.2 gives for the kind (02 R29). Bodies of fixed length have it. -/
def Body.lengthOk : Body → Bool
  | .confirm _ _ entries => decide (1 ≤ entries.length) && decide (entries.length ≤ 32)
  | .sweep _ _ _ list => decide (1 ≤ list.length) && decide (list.length ≤ 192)
  | .ret _ _ _ list => decide (1 ≤ list.length) && decide (list.length ≤ 192)
  | .grant _ _ _ grants => decide (1 ≤ grants.length) && decide (grants.length ≤ 32)
  | .raw _ _ _ => false
  | .pattern _ _ => true
  | .beat _ => true
  | .walk _ _ => true
  | .node _ => true
  | .tail _ _ _ => true
  | .clash _ _ => true
  | .call _ _ _ _ => true
  | .door _ _ _ _ _ => true
  | .echo _ _ => true

/-- The Line Relay's check of a frame a port hands it: one of the kinds WALK to GRANT, with its direction and a
payload length of its range (02 R29). -/
def Body.routable : Body → Bool
  | .pattern _ _ => false
  | .beat _ => false
  | b => b.lengthOk

/-- A payload read by the layout of its kind; `none` where its length is not the kind's. -/
def bodyOfPayload (kind : Nat) (pl : List Nat) : Option Body :=
  match kind, pl with
  | 0x01, [_, _, _, _, f, r] => some (.pattern (f % 2 = 1) r)
  | 0x02, [a, b, c, d, port, node, f, mr, cr] =>
    some (.beat { serial := BitVec.ofNat 32 (number4 a b c d), port, node, lead := f % 2 = 1, maxRate := mr, rate := cr })
  | 0x03, [a, b, c, d, next] => some (.walk (BitVec.ofNat 32 (number4 a b c d)) next)
  | 0x04, pl => (lineEntryOfBytes pl).map .node
  | 0x05, [f, last, a, b, c, d] => some (.tail f last (BitVec.ofNat 32 (number4 a b c d)))
  | 0x06, [a, b, c, d, a', b', c', d'] =>
    some (.clash (BitVec.ofNat 32 (number4 a b c d)) (BitVec.ofNat 32 (number4 a' b' c' d')))
  | 0x07, n :: reason :: rest =>
    if rest.length < 8 ∨ 256 < rest.length then none else (entriesOfBytes rest).map (.confirm n reason)
  | 0x08, [a, b, c, d, position, cause, port] =>
    some (.call (BitVec.ofNat 32 (number4 a b c d)) position cause port)
  | 0x09, [id, action, side, first, last] => some (.door id action side first last)
  | 0x0A, [id, a, b, c, d] => some (.echo id (BitVec.ofNat 32 (number4 a b c d)))
  | 0x0B, number :: f :: n :: b :: rest =>
    if rest.length < 192 then some (.sweep number f n (b :: rest)) else none
  | 0x0C, number :: f :: n :: b :: rest =>
    if rest.length < 192 then some (.ret number f n (b :: rest)) else none
  | 0x0D, cause :: number :: n :: g :: rest =>
    if rest.length < 32 then some (.grant cause number n (g :: rest)) else none
  | _, _ => none

/-- A frame of arbitrary header and payload. PATTERN and BEAT are CP's, whatever their direction (01 R13, R21); any
other kind needs its direction; what fits no kind stays `raw` (02 R29, log entry 31). -/
def parseBody (kind direction : Nat) (pl : List Nat) : Body :=
  if kind = 0x01 ∨ kind = 0x02 ∨ directionOfKind kind = some direction then
    (bodyOfPayload kind pl).getD (.raw kind direction pl)
  else .raw kind direction pl

/-! ### The frame check and the frames as bytes (00 section 4.6, 11 sections 11.2 and 11.3) -/

/-- One bit of the 16-bit check, x^16 + x^12 + x^5 + 1, most-significant bit first. -/
def crcBit (r : BitVec 16) : BitVec 16 := if r.msb then (r <<< 1) ^^^ 0x1021#16 else r <<< 1

/-- One byte enters the check register. -/
def crcByte (r : BitVec 16) (b : Nat) : BitVec 16 :=
  crcBit (crcBit (crcBit (crcBit (crcBit (crcBit (crcBit (crcBit (r ^^^ (BitVec.ofNat 16 b <<< 8)))))))))

/-- The 16-bit check of a byte string: initial value all ones, no final inversion. -/
def crc16 (l : List Nat) : BitVec 16 := l.foldl crcByte 0xFFFF#16

/-- The bytes of a line frame with its link sequence (11 section 11.2). -/
def Frame.wire (f : Frame) (seq : Nat) : List Nat :=
  let head := [f.body.kindCode % 256, f.body.direction % 256, seq % 256, f.gen % 256] ++
    byte2 f.body.payload.length ++ f.body.payload
  [0x7E] ++ head ++ byte2 (crc16 head).toNat

/-- The bytes of a host message (11 R186). -/
def messageWire (kind tag : Nat) (payload : List Nat) : List Nat :=
  let head := [payload.length % 256, kind % 256, tag % 256] ++ payload
  [0xA5] ++ head ++ byte2 (crc16 head).toNat

end Sys2Proof.Machine
end

