-- ==== Sys2Proof/Machine/Ops.lean ====
section
/-! DEFINITION. The Line Relay's operations: the class of a frame, the transmit queues, the holding slot, the
arbiter, and offering a frame to a port (02 R28, R36 to R43). -/

namespace Sys2Proof.Machine

/-! ### Frames -/

/-- The transmit class of a frame (02 R28); PATTERN frames are sent by CP itself, and `raw` frames are never offered. -/
def Body.cls : Body → Option Cls
  | .pattern _ _ => none
  | .beat _ => some .beat
  | .walk _ _ => some .control
  | .node _ => some .control
  | .tail _ _ _ => some .control
  | .clash _ _ => some .control
  | .confirm _ _ _ => some .control
  | .call _ _ _ _ => some .control
  | .door _ _ _ _ _ => some .door
  | .echo _ _ => some .door
  | .sweep _ _ _ _ => some .sweep
  | .ret _ _ _ _ => some .sweep
  | .grant _ _ _ _ => some .grant
  | .raw _ _ _ => none

/-! ### Queues (02 R37 to R40) -/

/-- The queue of a class. -/
def Relay.queue (r : Relay) : Cls → ClassQueue
  | .control => r.control
  | .door => r.door
  | .grant => r.grant
  | .sweep => r.sweep
  | .beat => r.beat

/-- Replace the queue of a class. -/
def Relay.setQueue (r : Relay) (c : Cls) (q : ClassQueue) : Relay :=
  match c with
  | .control => { r with control := q }
  | .door => { r with door := q }
  | .grant => { r with grant := q }
  | .sweep => { r with sweep := q }
  | .beat => { r with beat := q }

/-- A class's initial priority level; lower is better (02 R40). -/
def initialLevel : Cls → Nat
  | .control => 0
  | .door => 1
  | .grant => 2
  | .sweep => 3
  | .beat => 4

/-- The current level of a queue's head whose level has improved so many times, not below 0 (02 R40). -/
def headLevel (c : Cls) (aged : Nat) : Nat := initialLevel c - aged

/-- How many times a head's waiting time has reached a whole multiple of 5 ms with its level above 0: floor(waited/5), and at most
the initial level (02 R40). -/
def ClassQueue.agings (q : ClassQueue) (c : Cls) : Nat := min (initialLevel c) (q.waited / 5)

/-- The head's waiting time has reached a multiple of 5 ms that has not improved its level yet (02 R40, log entry 3). -/
def ClassQueue.agingDue (q : ClassQueue) (c : Cls) : Bool := q.frames != [] && decide (q.aged < q.agings c)

/-- The head's level improves by one (02 R40). -/
def ClassQueue.age (q : ClassQueue) : ClassQueue := { q with aged := q.aged + 1 }

/-- A queue takes new contents at an offered frame: its head keeps waiting time and level, and a queue that was empty has a new
head, whose waiting time starts at 0 (02 R37, R38, R40). -/
def ClassQueue.hold (q : ClassQueue) (frames : List Frame) : ClassQueue :=
  if q.frames = [] then { frames, waited := 0, aged := 0 } else { q with frames }

/-- The head of a LINKED port's class queue is due to age (02 R40). -/
def State.headAges (s : State) (p : PortId) (c : Cls) : Bool :=
  (s.cp p).st == .linked && ((s.lr p).queue c).agingDue c

/-- The classes in the order the arbiter prefers among equal levels (02 R41). -/
def classOrder : List Cls := [.control, .door, .grant, .sweep, .beat]

/-- One comparison of the arbiter: a queue with a head of a strictly better level replaces the best so far. -/
def betterClass (r : Relay) (best : Option Cls) (c : Cls) : Option Cls :=
  match (r.queue c).frames, best with
  | [], b => b
  | _ :: _, none => some c
  | _ :: _, some b =>
    if headLevel c (r.queue c).aged < headLevel b (r.queue b).aged then some c else some b

/-- The arbiter's choice among the heads of the five queues (02 R41). -/
def Relay.choice (r : Relay) : Option Cls := classOrder.foldl (betterClass r) none

/-- The frame in the holding slot joins the tail of its queue when the head of that queue is handed over (02 R39). -/
def joinFromSlot (c : Cls) (rest : List Frame) : Option (Cls × Frame) → List Frame × Option (Cls × Frame)
  | none => (rest, none)
  | some (c', f) => if c' = c then (rest ++ [f], none) else (rest, some (c', f))

/-- Hand the head of a class's queue over: the next frame becomes the head with waiting time 0 and its initial level (02 R39 to R41). -/
def Relay.takeHead (r : Relay) (c : Cls) : Option (Frame × Relay) :=
  match (r.queue c).frames with
  | [] => none
  | f :: rest =>
    some (f, { r.setQueue c { frames := (joinFromSlot c rest r.slot).1, waited := 0, aged := 0 } with
               slot := (joinFromSlot c rest r.slot).2 })

/-- A frame joins its class queue: at the tail if there is room, replacing a queued BEAT in its place, else in the
holding slot, whose occupant is discarded and counted (02 R37 to R39). -/
def Relay.enqueue (r : Relay) (c : Cls) (f : Frame) : Relay :=
  match c with
  | .beat => { r with beat := r.beat.hold [f] }
  | _ =>
    if (r.queue c).frames.length < 4 then
      r.setQueue c ((r.queue c).hold ((r.queue c).frames ++ [f]))
    else
      { r with slot := some (c, f), overrun := if r.slot.isSome then inc8 r.overrun else r.overrun }

/-- How many frames the port's queues and its holding slot hold. -/
def Relay.waitingFrames (r : Relay) : Nat :=
  r.control.frames.length + r.door.frames.length + r.grant.frames.length + r.sweep.frames.length +
    r.beat.frames.length + (if r.slot.isSome then 1 else 0)

/-- How many frames are in transmission, a PATTERN frame among them (02 section 2.1, R43). -/
def Relay.cutFrames (r : Relay) : Nat := if r.tx.isSome then 1 else 0

/-- On entry to OPEN or FAULTED: queues and slot are emptied, the transmitter is cut, each frame counts as dropped
(02 R43). -/
def Relay.flush (r : Relay) : Relay :=
  { r with control := .empty, door := .empty, grant := .empty, sweep := .empty, beat := .empty, slot := none,
           tx := none, dropped := min 65535 (r.dropped + r.waitingFrames + r.cutFrames) }

/-! ### The transmitter -/

/-- CP may send PATTERN frames in ALIGNING, LINKED and LOCAL LOOP (01 R4). -/
def Coupler.maySendPattern (c : Coupler) : Bool :=
  c.st == .aligning || c.st == .linked || c.localLoop

/-- The ready flag of a PATTERN frame the port sends now: its own ready flag in ALIGNING, set in LINKED (01 R11,
R13), clear in LOCAL LOOP (01 R25). -/
def Coupler.patternReady (c : Coupler) : Bool :=
  match c.st with
  | .aligning => c.ready
  | .linked => true
  | .open => false
  | .faulted => false
  | .loop => false

/-- Is a rate step pending? -/
def Coupler.stepPending (c : Coupler) : Bool :=
  match c.step with
  | .pending _ => true
  | .none => false
  | .inProgress _ => false

/-- In LOCAL LOOP what the port sends reaches the receivers of both its pairs, which open a frame with it (01 R25). -/
def Coupler.hearOwn (c : Coupler) : Coupler :=
  if c.localLoop then c.bothPairs fun x => { x with inFrame := true } else c

/-- The port's transmitter starts the PATTERN frame that is due. -/
def State.startPattern (s : State) (p : PortId) : State :=
  (s.modLr p fun r => { r with tx := some (.pattern (s.cp p).patternReady (s.cp p).rate) }).modCp p
    fun c => { c.hearOwn with patternDue := false, answerGuard := some 0 }

/-- The port's transmitter starts the head frame of a class: the frame takes the transmit link sequence, which
increases by one, 255 to 0 (01 R4). -/
def State.startFrame (s : State) (p : PortId) (c : Cls) : State :=
  match (s.lr p).takeHead c with
  | none => s
  | some (f, r) =>
    (s.modLr p fun _ => { r with tx := some (.frame c (s.cp p).txSeq f (s.cp p).stepPending) }).modCp p
      fun k => { k with txSeq := (k.txSeq + 1) % 256 }

/-- An idle transmitter takes a PATTERN frame that is due, else in LINKED the arbiter's choice (02 R41, R42). -/
def State.kickLine (s : State) (p : PortId) : State :=
  if (s.lr p).tx.isSome then s
  else if (s.cp p).patternDue && (s.cp p).maySendPattern then s.startPattern p
  else if (s.cp p).st == .linked then
    match (s.lr p).choice with
    | none => s
    | some c => s.startFrame p c
  else s

/-- The port takes frames into its queues: LINKED or ALIGNING (02 R36). -/
def Coupler.takesFrames (c : Coupler) : Bool := c.st == .linked || c.st == .aligning

/-- A frame is offered to a port (02 R36): it joins the queue of its class in LINKED and ALIGNING, and is dropped and
counted in OPEN, FAULTED and LOOP. -/
def State.offer (s : State) (p : PortId) (f : Frame) : State :=
  match f.body.cls with
  | none => s
  | some c =>
    if (s.cp p).takesFrames then (s.modLr p fun r => r.enqueue c f).kickLine p
    else s.modLr p fun r => { r with dropped := inc16 r.dropped }

/-- A frame is offered on the rear port, if there is one. -/
def State.offerRear (s : State) (f : Frame) : State :=
  match s.rear with
  | some r => s.offer r f
  | none => s

/-- A frame is offered on the front port, if there is one. -/
def State.offerFront (s : State) (f : Frame) : State :=
  match s.front with
  | some r => s.offer r f
  | none => s

/-- A frame is discarded by its consumer for its generation: the arrival port counts it (02 R44). -/
def State.countStale (s : State) (p : PortId) : State :=
  s.modLr p fun r => { r with stale := inc16 r.stale }

/-- A frame is discarded as malformed: the arrival port counts it (02 R29). -/
def State.countMalformed (s : State) (p : PortId) : State :=
  s.modLr p fun r => { r with malformed := inc16 r.malformed }

/-- A frame is discarded as misrouted: the arrival port counts it (02 R32, R33, R35). -/
def State.countMisroute (s : State) (p : PortId) : State :=
  s.modLr p fun r => { r with misroute := inc16 r.misroute }

/-- A walk trigger is handed to the walk engine of a node that holds a claim: in IDLE it enters SETTLING and the
settle timer starts, elsewhere it is absorbed (05 R83). -/
def State.walkTrigger (s : State) : State :=
  if s.cc.claim.isSome && s.cc.walk == .idle then
    s.modCc fun c => { c with walk := .settling, settleTimer := some 0 }
  else s

end Sys2Proof.Machine
end

