-- ==== Sys2Proof/Machine/DoorOps.lean ====
section
/-! DEFINITION. The Door Control Unit's operations (07): open timer and boost, release flags, applying a command,
windows, dispatch and ending of commands, abort at consist loss, withdrawal of standstill, TRAIN-CLOSED. -/

namespace Sys2Proof.Machine

/-! ### Leaves (07 R123) -/

/-- The open timer and the boost flag are re-examined: the timer starts when a leaf counts as open, and stops, clearing
boost, when none does (07 R123). -/
def State.examineOpen (s : State) : State :=
  if s.anyLeafOpen then
    if s.dcu.openTimer.isSome then s else s.modDcu fun d => { d with openTimer := some 0 }
  else
    (s.modDcu fun d => { d with openTimer := none, boost := false }).raiseIf s.dcu.boost .leaf

/-- The open timer has reached 60 000 ms and boost is not set yet (07 R123). -/
def State.boostDue (s : State) : Bool := timerDue s.dcu.openTimer 60000 && !s.dcu.boost

/-! ### Release flags (07 R124) -/

/-- The release flags take two values; a change raises RELEASE. -/
def State.setReleases (s : State) (r1 r2 : Bool) : State :=
  (s.modDcu fun d => { d with release1 := r1, release2 := r2 }).raiseIf
    (s.dcu.release1 != r1 || s.dcu.release2 != r2) .release

/-- Is coach side 1, is coach side 2, named by a train side at a node of an orientation (04 R72, 07 R132)? -/
def mapSides : Orientation → TrainSide → Bool × Bool
  | .forward, .left => (true, false)
  | .forward, .right => (false, true)
  | .reversed, .left => (false, true)
  | .reversed, .right => (true, false)
  | _, .both => (true, true)

/-- The node applies a door command to itself: a RELEASE sets the flag of each mapped side, a CLOSE clears it
(07 R132). A node without an orientation has no mapping (04 R72). -/
def State.applyDoor (s : State) (action : Action) (side : TrainSide) : State :=
  match s.cc.orientation with
  | none => s
  | some o =>
    match action with
    | .release => s.setReleases (s.dcu.release1 || (mapSides o side).1) (s.dcu.release2 || (mapSides o side).2)
    | .close => s.setReleases (s.dcu.release1 && !(mapSides o side).1) (s.dcu.release2 && !(mapSides o side).2)

/-! ### Sets of positions -/

/-- The set that holds position p, 1 to 32; empty for any other number. -/
def posBit (p : Nat) : PosSet := if 1 ≤ p ∧ p ≤ 32 then BitVec.ofNat 32 (2 ^ (p - 1)) else 0

/-- The set of the positions from first to last that satisfy a test. -/
def posRange (first last : Nat) (keep : Nat → Bool) : PosSet :=
  (List.range 32).foldl
    (fun acc i => if first ≤ i + 1 ∧ i + 1 ≤ last ∧ keep (i + 1) then acc ||| posBit (i + 1) else acc) 0

/-! ### Windows (07 R127) -/

/-- A window resolved at consist length N: first and last; the range is empty when first is above last. -/
def resolveWindow (w : Window) (n : Nat) : Nat × Nat :=
  match w.anchor with
  | .front => (1 + w.offset, min n (1 + w.offset + w.count - 1))
  | .rear => (max 1 (n - w.offset + 1 - w.count), n - w.offset)

/-- The window of an index: 0 is the whole train, 1 to 4 are stored. -/
def State.resolve (s : State) (index : Nat) : Nat × Nat :=
  match index with
  | 0 => (1, s.consistN)
  | k + 1 => resolveWindow (s.dcu.windows.getD k Window.default) s.consistN

/-- The expected set of a command: the positions of the range that the summary shows OPERATIONAL, or the whole range
while the summary is absent (07 R130). -/
def State.expectedSet (s : State) (first last : Nat) : PosSet :=
  match s.se.summary with
  | none => posRange first last fun _ => true
  | some m => posRange first last fun p =>
      match m.flags[p - 1]? with
      | some f => f.operational
      | none => false

/-! ### TRAIN-CLOSED and results -/

/-- TRAIN-CLOSED takes a level; a change raises CLOSED (07 R143). -/
def State.setTrainClosed (s : State) (v : Bool) : State :=
  (s.modDcu fun d => { d with trainClosed := v }).raiseIf (s.dcu.trainClosed != v) .closed

/-- Results join the end of the result list, which keeps the last four (07 R138). -/
def joinResults (l new : List DoorResult) : List DoorResult := (l ++ new).drop ((l ++ new).length - 4)

/-- Results join the result list, raising DOOR_RESULT if there are any (07 R138). -/
def State.addResults (s : State) (new : List DoorResult) : State :=
  (s.modDcu fun d => { d with results := joinResults d.results new }).raiseIf (!new.isEmpty) .doorResult

/-- The command at the head of the queue ends: the echo timer stops, it leaves the queue, its result joins the list
(07 R136). The next command's dispatch is the caller's. -/
def State.endHead (s : State) (ending : Ending) (range : Option (Nat × Nat)) (applied : Option PosSet) : State :=
  match s.dcu.queue with
  | [] => s
  | c :: rest =>
    (s.modDcu fun d => { d with queue := rest, inFlight := none, echoTimer := none }).addResults
      [{ cmd := c, range, ending, applied }]

/-- COMPLETE when the applied set holds every expected position, PARTIAL otherwise (07 R136). -/
def decideEnding (expected applied : PosSet) : Ending :=
  if expected &&& ~~~applied = 0 then .complete else .partialEnd

/-! ### Dispatch (07 R130) -/

/-- What dispatch does before it ends the command or sends its DOOR: a RELEASE lowers TRAIN-CLOSED and is fenced if a
sweep is outstanding; the leader's last door record is set; the leader applies the command if first is 1. -/
def State.dispatchPrepare (s : State) (c : DoorCmd) (first : Nat) : State :=
  let s1 :=
    match c.action with
    | .release =>
      (s.setTrainClosed false).modDcu fun d =>
        { d with fence := d.fence || s.se.outstanding.isSome }
    | .close => s
  let s2 := s1.modDcu fun d => { d with lastDoor := some { gen := s.cc.gen, id := c.id, applied := decide (first = 1) } }
  if first = 1 then s2.applyDoor c.action c.side else s2

/-- The leader's part of a command's applied set: position 1 if first is 1. -/
def leaderApplied (first : Nat) : PosSet := if first = 1 then posBit 1 else 0

/-- The command takes flight: it is kept with its range and expected set, the DOOR is offered on the rear port and the
echo timer starts. DESIGN CHOICE: until its ECHO is taken its applied set is the leader's own part (log entry 38). -/
def State.sendDoor (s : State) (c : DoorCmd) (first last : Nat) (expected : PosSet) : State :=
  (s.modDcu fun d =>
      { d with inFlight := some { first, last, expected, applied := leaderApplied first }, echoTimer := some 0 }).offerRear
    { gen := s.cc.gen, body := .door c.id (actionCode c.action) (trainSideCode c.side) first last }

/-- The head command is dispatched. One that ends at dispatch (an empty range, or last 1) makes way for the next head,
which is dispatched at the same event; the first argument bounds how many may follow one another. -/
def State.dispatch : Nat → State → State
  | 0, s => s
  | fuel + 1, s =>
    match s.dcu.queue with
    | [] => s
    | c :: _ =>
      let range := s.resolve c.window
      if range.2 < range.1 then
        State.dispatch fuel (s.endHead .empty (some range) (some 0))
      else
        let expected := s.expectedSet range.1 range.2
        let s' := s.dispatchPrepare c range.1
        if range.2 = 1 then
          State.dispatch fuel
            (s'.endHead (decideEnding expected (leaderApplied range.1)) (some range) (some (leaderApplied range.1)))
        else s'.sendDoor c range.1 range.2 expected

/-- The head of the queue, if any, is dispatched. -/
def State.dispatchQueue (s : State) : State := s.dispatch s.dcu.queue.length

/-- The command in flight ends and the next head is dispatched (07 R136). -/
def State.endInFlight (s : State) (ending : Ending) (applied : Option PosSet) : State :=
  (s.endHead ending (s.dcu.inFlight.map fun f => (f.first, f.last)) applied).dispatchQueue

/-! ### Abort at consist loss (07 R139) -/

/-- The results of the commands aborted: the one in flight keeps its range, the queued ones have none (07 R138). -/
def abortResults (range : Option (Nat × Nat)) : List DoorCmd → List DoorResult
  | [] => []
  | c :: rest =>
    { cmd := c, range, ending := .aborted, applied := none } ::
      rest.map fun c => { cmd := c, range := none, ending := .aborted, applied := none }

/-- The leader leaves OPERATIONAL: every command ends ABORTED, TRAIN-CLOSED is lowered, the fence is cleared. -/
def State.abortDoors (s : State) : State :=
  ((s.modDcu fun d => { d with queue := [], inFlight := none, echoTimer := none, fence := false }).addResults
    (abortResults (s.dcu.inFlight.map fun f => (f.first, f.last)) s.dcu.queue)).setTrainClosed false

/-! ### Standstill (07 R140, R141) -/

/-- A release is known to the leader (07 R140). -/
def State.releaseKnown (s : State) : Bool :=
  (match s.se.summary with
    | none => false
    | some m => m.flags.any fun f => f.relLeft || f.relRight) ||
  s.dcu.release1 || s.dcu.release2 || s.dcu.queue.any fun c => c.action == .release

/-- The commands in flight: the head of the queue if one is in flight. -/
def Doors.flightPart (d : Doors) : List DoorCmd := if d.inFlight.isSome then d.queue.take 1 else []

/-- The commands that wait behind the one in flight. -/
def Doors.waitingPart (d : Doors) : List DoorCmd := if d.inFlight.isSome then d.queue.drop 1 else d.queue

/-- The result of a command that ended without dispatch. -/
def abortedResult (c : DoorCmd) : DoorResult := { cmd := c, range := none, ending := .aborted, applied := none }

/-- Withdrawal of standstill with a release known (07 R141): queued RELEASEs end ABORTED, room is made for the automatic
CLOSE, which stands directly behind the command in flight, or is dispatched with none in flight. -/
def State.withdrawStandstill (s : State) : State :=
  let waiting := s.dcu.waitingPart
  let kept := waiting.filter fun c => c.action != .release
  let removed := waiting.filter fun c => c.action == .release
  let full := (s.dcu.flightPart ++ kept).length = 4
  let kept' := if full then kept.dropLast else kept
  let displaced := if full then kept.drop (kept.length - 1) else []
  let auto : DoorCmd :=
    { id := (s.dcu.lastId + 1) % 16, action := .close, side := .both, window := 0, automatic := true }
  let s' := (s.modDcu fun d => { d with queue := s.dcu.flightPart ++ auto :: kept', lastId := auto.id }).addResults
    ((removed ++ displaced).map abortedResult)
  if s.dcu.inFlight.isSome then s' else s'.dispatchQueue

/-! ### Completed and lost sweeps (07 R142, R143) -/

/-- A position proves closed in the summary (07 R142). -/
def SummaryFlags.proven (f : SummaryFlags) : Bool := f.operational && f.closed && !f.relLeft && !f.relRight

/-- A RELEASE command is in flight. -/
def Doors.releaseInFlight (d : Doors) : Bool := d.flightPart.any fun c => c.action == .release

/-- At a completed sweep TRAIN-CLOSED is set from the summary, and the release fence, once read, is cleared (07 R142). -/
def State.decideTrainClosed (s : State) (flags : List SummaryFlags) : State :=
  (s.setTrainClosed (flags.all SummaryFlags.proven && !s.dcu.releaseInFlight && !s.dcu.fence)).modDcu
    fun d => { d with fence := false }

/-- At a lost sweep TRAIN-CLOSED is lowered and the release fence is cleared (07 R143). -/
def State.loseClosedProof (s : State) : State :=
  (s.setTrainClosed false).modDcu fun d => { d with fence := false }

end Sys2Proof.Machine
end

