-- ==== Sys2Proof/Machine/HeatOps.lean ====
section
/-! DEFINITION. The Heating Allocator's operations (08): taking a grant, the allocation runs, issuing a GRANT, trips. -/

namespace Sys2Proof.Machine

/-! ### Held grant (08 R148, R150) -/

/-- The held grant takes a value; a change raises GRANT (08 R164). -/
def State.setHeld (s : State) (v : Nat) : State :=
  (s.modHa fun h => { h with held := v }).raiseIf (s.ha.held != v) .grant

/-- The node takes a GRANT: its held grant, its watchdog from 0, and the last GRANT taken (08 R150). -/
def State.takeGrant (s : State) (v gen : Nat) (cause : GrantCause) (number : Option Nat) : State :=
  (s.setHeld v).modHa fun h => { h with watchdog := some 0, lastTaken := some { gen, cause, number } }

/-! ### The allocation (08 R154 to R159) -/

/-- The visiting order of a run: s, s + 1, …, N, 1, …, s − 1 (08 section 8.4). -/
def visitOrder (n s : Nat) : List Nat := (List.range n).map fun k => (s - 1 + k) % n + 1

/-- The entry of a position in a list over positions 1 to N. -/
def at1 (l : List Nat) (p : Nat) : Nat := l.getD (p - 1) 0

/-- Total power: the sum of level times step power. -/
def totalPower (levels powers : List Nat) : Nat := (List.zipWith (· * ·) levels powers).sum

/-- Stage 1: each working level is the lower of grant and demand (08 R155). -/
def baseline (grants demands : List Nat) : List Nat := List.zipWith min grants demands

/-- The position to shed: one of the greatest working level, the last among equals in the visiting order (08 R155). -/
def shedChoice (levels : List Nat) (order : List Nat) : Option Nat :=
  order.foldl (fun best p =>
    match best with
    | none => some p
    | some b => if at1 levels b ≤ at1 levels p then some p else some b) none

/-- Stage 2: while the total exceeds C one step is taken away (08 R155). The first argument bounds the removals; the sum
of the levels is enough, since each removal lowers it by one. -/
def shed : Nat → List Nat → List Nat → List Nat → Nat → List Nat
  | 0, levels, _, _, _ => levels
  | fuel + 1, levels, powers, order, cap =>
    if totalPower levels powers ≤ cap then levels
    else
      match shedChoice levels order with
      | none => levels
      | some p => shed fuel (levels.set (p - 1) (at1 levels p - 1)) powers order cap

/-- What the raise stage carries along its visit: working levels, headroom H, ramp remaining U (08 R156). -/
structure RaiseState where
  levels : List Nat
  h      : Nat
  u      : Nat
  deriving DecidableEq, Repr

/-- One visit of the raise stage (08 R156). -/
def raiseVisit (demands powers : List Nat) (r : RaiseState) (p : Nat) : RaiseState :=
  if at1 r.levels p < at1 demands p ∧ at1 powers p ≤ r.h ∧ at1 powers p ≤ r.u then
    { levels := r.levels.set (p - 1) (at1 r.levels p + 1), h := r.h - at1 powers p, u := r.u - at1 powers p }
  else r

/-- Stage 3: single steps are handed out within capacity and ramp (08 R156). -/
def raiseStage (levels demands powers order : List Nat) (cap ramp : Nat) : List Nat :=
  (order.foldl (raiseVisit demands powers) { levels, h := cap - totalPower levels powers, u := ramp }).levels

/-- Stages 1 and 2: the shed-only run (08 R159). -/
def shedRun (grants demands powers : List Nat) (start cap : Nat) : List Nat :=
  let b := baseline grants demands
  shed b.sum b powers (visitOrder b.length start) cap

/-- Stages 1 to 3 of a full run (08 R155, R156). -/
def fullRun (grants demands powers : List Nat) (start cap ramp : Nat) : List Nat :=
  let l := shedRun grants demands powers start cap
  raiseStage l demands powers (visitOrder l.length start) cap ramp

/-- The step powers of positions 1 to N, from the consist table (08 section 8.4). -/
def State.powers (s : State) : List Nat := s.cc.table.entries.map Entry.stepPower

/-- A grant table from the grants of positions 1 to N; positions above N hold 0 (08 R151). -/
def grantTable (l : List Nat) : List Nat := (l ++ List.replicate 32 0).take 32

/-- The result of a shed-only run on the state (08 R159). -/
def State.shedResult (s : State) : List Nat :=
  grantTable (shedRun (s.ha.grants.take s.consistN) (s.se.demand.take s.consistN) s.powers s.ha.rotation s.ha.capacity)

/-- The result of a full run on the state (08 R155 to R157). -/
def State.fullResult (s : State) : List Nat :=
  grantTable (fullRun (s.ha.grants.take s.consistN) (s.se.demand.take s.consistN) s.powers s.ha.rotation
    s.ha.capacity s.ha.ramp)

/-- The rotation start after a full run: it advances by one, from N back to 1 (08 R157). -/
def nextRotation (start n : Nat) : Nat := if start < n then start + 1 else 1

/-- The leader issues a GRANT (08 R158): the last GRANT issued is set, the leader takes its own entry, and with N above 1
the GRANT is offered on the rear port. -/
def State.issueGrant (s : State) (cause : GrantCause) (number : Option Nat) : State :=
  let s' := (s.modHa fun h => { h with lastIssued := some (cause, number) }).takeGrant (at1 s.ha.grants 1) s.cc.gen
    cause number
  if 1 < s.consistN then
    s'.offerRear
      { gen := s.cc.gen,
        body := .grant (grantCauseCode cause) (number.getD 0xFF) s.consistN (s.ha.grants.take s.consistN) }
  else s'

/-- Every grant of the table becomes 0. -/
def State.zeroGrants (s : State) : State := s.modHa fun h => { h with grants := List.replicate 32 0 }

/-- Hold-off or lockout stands (08 R154). -/
def Heating.barred (h : Heating) : Bool := h.holdOff.isSome || h.lockout

/-- A completed sweep reaches the Heating Allocator: a held run in hold-off or lockout, else a full run; a GRANT is
issued in either case (08 R154). -/
def State.allocate (s : State) (number : Nat) : State :=
  if s.ha.barred then s.zeroGrants.issueGrant .held (some number)
  else
    (s.modHa fun h => { h with grants := s.fullResult, rotation := nextRotation h.rotation s.consistN }).issueGrant
      .allocation (some number)

/-- The number of the last completed sweep of the generation, for SHED and TRIP (08 R158). -/
def State.lastSweepNumber (s : State) : Option Nat := s.se.summary.map Summary.number

/-- A shed-only run at an OPERATIONAL leader outside hold-off and lockout; a GRANT of cause SHED is issued if a grant
changed (08 R152, R159). -/
def State.shedAtSupply (s : State) : State :=
  if s.operationalLeader && !s.ha.barred then
    let s' := s.modHa fun h => { h with grants := s.shedResult }
    if s.shedResult = s.ha.grants then s' else s'.issueGrant .shed s.lastSweepNumber
  else s

/-! ### Trips (08 R161, R162) -/

/-- A trip joins the history; a fourth entry removes the oldest (08 R162). -/
def joinTrip (l : List Nat) (t : Nat) : List Nat := (l ++ [t]).drop ((l ++ [t]).length - 3)

/-- The trip is recorded, and the lockout is set when the history holds three entries (08 R162). -/
def State.recordTrip (s : State) : State :=
  let trips := joinTrip s.ha.trips s.sys.ticks
  (s.modHa fun h => { h with trips, lockout := h.lockout || decide (3 ≤ trips.length) }).raiseIf
    (decide (3 ≤ trips.length) && !s.ha.lockout) .supply

/-- The oldest trip is 60 000 ms old (08 R162). -/
def State.tripDue (s : State) : Bool :=
  match s.ha.trips with
  | [] => false
  | t :: _ => decide (60000 ≤ s.sys.ticks - t)

/-! ### The Heating Allocator when its node leaves OPERATIONAL (08 R148, R151) -/

/-- The held grant becomes 0 and the watchdog stops; at a leader the grant table is zeroed, without a GRANT. -/
def State.heatingLeaves (s : State) : State :=
  let s' := (s.setHeld 0).modHa fun h => { h with watchdog := none }
  if s.cc.claim.isSome then s'.zeroGrants else s'

end Sys2Proof.Machine
end

