-- ==== Sys2Proof/Machine/SweepOps.lean ====
section
/-! DEFINITION. The Sweep Engine's operations (06): the node's record, elements and lists, launch, coverage, completion
and loss of sweeps. -/

namespace Sys2Proof.Machine

/-! ### The node's record (06 R108 to R110, R112) -/

/-- The four leaves of the coach side whose inputs start at LEAF-(base + 1), as a set: leaf n is bit n − 1. -/
def sideSet (f : Nat → Bool) (base : Nat) : BitVec 4 :=
  BitVec.ofNat 4 (flagCode (f base) + 2 * flagCode (f (base + 1)) + 4 * flagCode (f (base + 2)) +
    8 * flagCode (f (base + 3)))

/-- Train-left is coach side 2: the node is REVERSED (04 R72). A node without an orientation sends no record. -/
def State.leftIsSide2 (s : State) : Bool := s.cc.orientation == some .reversed

/-- The node's full record, built from its state as it stands (06 R108). -/
def State.buildRecord (s : State) : Record :=
  let rev := s.leftIsSide2
  let left := if rev then 4 else 0
  let right := if rev then 0 else 4
  { position := s.cc.position.getD 0,
    operational := s.cc.node == .operational,
    closed := s.localClosed,
    relLeft := if rev then s.dcu.release2 else s.dcu.release1,
    relRight := if rev then s.dcu.release1 else s.dcu.release2,
    boost := s.dcu.boost,
    gap := s.se.gap,
    degraded := s.port1.cp.degradedPair || s.port2.cp.degradedPair,
    demand := s.nodeDemand,
    openLeft := sideSet s.leafOpen left,
    openRight := sideSet s.leafOpen right,
    isoLeft := sideSet s.leafIsolated left,
    isoRight := sideSet s.leafIsolated right }

/-- The sweep number a node expects next (06 R112). -/
def expectedNumber : Option Nat → Nat
  | none => 0
  | some n => (n + 1) % 16

/-- The gap check of a sweep's number (06 R112). -/
def State.gapCheck (s : State) (number : Nat) : State :=
  s.modSe fun e => { e with gap := e.gap || decide (number ≠ expectedNumber e.lastSeen), lastSeen := some number }

/-- The quiet rule: a NIL stands in for the record just built (06 R109). -/
def quiet (operational : Bool) (r : Record) (lastSent : Option Record) : Bool :=
  lastSent == some r && r.closed && !r.relLeft && !r.relRight && operational

/-- What a node appends: its record just built, and the element that carries it. -/
structure Appended where
  record  : Record
  element : Element
  deriving DecidableEq, Repr

/-- The record and element of a node answering or launching a sweep, after its gap check; REFRESH sets the last full
record sent to none first (06 R109). -/
def State.ownAppended (s : State) (refresh : Bool) : Appended :=
  let r := s.buildRecord
  if quiet (s.cc.node == .operational) r (if refresh then none else s.se.lastSent) then
    { record := r, element := .nil }
  else { record := r, element := .full r }

/-- The state after the element is appended: a full record becomes the last full record sent, and a record that carried
GAP clears the gap flag (06 R109). -/
def State.afterAppend (s : State) (a : Appended) : State :=
  s.modSe fun e =>
    { e with
      lastSent := match a.element with
        | .full r => some r
        | .nil => e.lastSent
        | .nilRun _ => e.lastSent,
      gap := e.gap && !a.record.gap }

/-- A NIL appended to a list merges with a NIL or NIL-RUN at its end (06 R110). -/
def appendElement (l : List Element) (e : Element) : List Element :=
  match e, l.getLast? with
  | .nil, some .nil => l.dropLast ++ [.nilRun 2]
  | .nil, some (.nilRun k) => l.dropLast ++ [.nilRun (k + 1)]
  | e, _ => l ++ [e]

/-- The bytes of a received list, decoded as l, with an element appended: the bytes before an element that it replaces stay as they
arrived (06 R110). -/
def appendBytes (list : List Nat) (l : List Element) (e : Element) : List Nat :=
  match e, l.getLast? with
  | .nil, some .nil => list.take (list.length - 1) ++ (Element.nilRun 2).bytes
  | .nil, some (.nilRun k) => list.take (list.length - 2) ++ (Element.nilRun (k + 1)).bytes
  | e, _ => list ++ e.bytes

/-! ### Coverage (06 R115) -/

/-- The records held for k positions from p on; none if one is absent. -/
def heldRun (held : List (Option Record)) (p k : Nat) : Option (List Record) :=
  let l := (held.drop (p - 1)).take k
  if l.length = k ∧ l.all Option.isSome then some (l.filterMap id) else none

/-- The decoded records of positions p to n from a list that covers exactly them; none if an element does not pass
(06 R115). Nothing covers a position above n. -/
def coverFrom (held : List (Option Record)) (n : Nat) : Nat → List Element → Option (List Record)
  | p, [] => if p = n + 1 then some [] else none
  | p, .full r :: rest =>
    if r.position = p ∧ p ≤ n then (coverFrom held n (p + 1) rest).map (r :: ·) else none
  | p, .nil :: rest =>
    match heldRun held p 1 with
    | some rs => if p ≤ n then (coverFrom held n (p + 1) rest).map (rs ++ ·) else none
    | none => none
  | p, .nilRun k :: rest =>
    match heldRun held p k with
    | some rs =>
      if 2 ≤ k ∧ k ≤ 32 ∧ p + k ≤ n + 1 then (coverFrom held n (p + k) rest).map (rs ++ ·) else none
    | none => none

/-! ### Completion (06 R116, R117) -/

/-- The demand taken from a decoded record: 0 where OPERATIONAL is clear, the record's demand otherwise; a demand above 7
stands for no stated value and gives a free value (log entry 6). -/
def takenDemand (count : Nat) (r : Record) : Nat :=
  if r.operational then (if r.demand ≤ 7 then r.demand else (Config.openDemand count r.position r.demand).val) else 0

/-- The summary's flags of a decoded record (06 R117). -/
def Record.summaryFlags (r : Record) : SummaryFlags :=
  { operational := r.operational, closed := r.closed, relLeft := r.relLeft, relRight := r.relRight }

/-- The tables of the leader after a completed sweep (06 R116, R117). -/
def SweepState.completed (e : SweepState) (gen number count : Nat) (records : List Record) : SweepState :=
  { e with
    timeout := none, outstanding := none, lostRow := 0, refresh := false,
    lastFull := records.map some ++ e.lastFull.drop records.length,
    demand := records.map (takenDemand count) ++ e.demand.drop records.length,
    summary := some { gen, number, flags := records.map Record.summaryFlags } }

/-- The confirm check of the first completed sweep of a generation (05 R98). -/
def State.checkConfirm (s : State) (flags : List SummaryFlags) : State :=
  if s.cc.confirmCheck then
    let s' := s.modCc fun c => { c with confirmCheck := false }
    if (flags.drop 1).any fun f => !f.operational then s'.walkTrigger else s'
  else s

/-- A sweep completes with its decoded records (06 R116): the tables are set, then the Door Control Unit, the Heating
Allocator and the Consist Controller take the completion. A launch that is due is the caller's. -/
def State.completeCore (s : State) (number : Nat) (records : List Record) : State :=
  let flags := records.map Record.summaryFlags
  let s' := { s with
    se := s.se.completed s.cc.gen number s.sys.freeCount records,
    sys := { s.sys with freeCount := s.sys.freeCount + 1 } }
  ((s'.decideTrainClosed flags).allocate number).checkConfirm flags

/-! ### Launch (06 R104, R105) -/

/-- One launch (06 R105): number, own record, then the SWEEP on the rear port and the timeout timer; with N of 1 the sweep
completes at once with the leader's own record. -/
def State.launchOnce (s : State) : State :=
  let number := expectedNumber s.se.lastLaunched
  let s1 := (s.modSe fun e =>
    { e with lastLaunched := some number, outstanding := some number, intervalTimer := some 0,
             intervalPeriod := e.interval }).gapCheck number
  let a := s1.ownAppended s1.se.refresh
  let s2 := s1.afterAppend a
  if s2.consistN ≤ 1 then s2.completeCore number [a.record]
  else
    (s2.modSe fun e => { e with timeout := some 0 }).offerRear
      { gen := s2.cc.gen,
        body := .sweep number (flagCode s2.se.refresh) s2.consistN (listBytes (appendElement [] a.element)) }

/-- If the launch-due flag is set it is cleared and the next sweep is launched (06 R104). -/
def State.relaunchIfDue (s : State) : State :=
  if s.se.launchDue then (s.modSe fun e => { e with launchDue := false }).launchOnce else s

/-- A launch, with the launch that a completion at the launch itself may make due (N of 1). -/
def State.launch (s : State) : State :=
  if s.consistN ≤ 1 then s.launchOnce.relaunchIfDue else s.launchOnce

/-- The outstanding sweep completes (06 R116). -/
def State.completeSweep (s : State) (number : Nat) (records : List Record) : State :=
  (s.completeCore number records).relaunchIfDue

/-! ### Loss (06 R118) -/

/-- The outstanding sweep is lost (06 R118). -/
def State.loseSweep (s : State) (cause : LossCause) : State :=
  let lost := s.se.outstanding.map fun n => { gen := s.cc.gen, number := n, cause : LostSweep }
  let s1 := s.modSe fun e =>
    { e with outstanding := none, timeout := none, lostRow := inc8 e.lostRow, lostSweeps := inc16 e.lostSweeps,
             refresh := true, lastLost := lost }
  let s2 := s1.loseClosedProof.raise .sweepLost
  let s3 := if 2 ≤ s2.se.lostRow then s2.walkTrigger else s2
  s3.relaunchIfDue

/-! ### Generations (06 R102, R103, R107) -/

/-- The Sweep Engine starts a new generation at a leader's confirmation (06 R103). -/
def SweepState.startGeneration (e : SweepState) : SweepState :=
  { e with outstanding := none, launchDue := false, refresh := false, lastLaunched := none, lostRow := 0,
           lastFull := List.replicate 32 none, demand := List.replicate 32 0, summary := none }

/-- The node-side state returns to its reset values (06 R102). -/
def SweepState.resetNodeSide (e : SweepState) : SweepState := { e with lastSeen := none, gap := false, lastSent := none }

/-- A leader leaves OPERATIONAL: its sweep timers stop and the outstanding sweep is dropped without a loss (06 R107). -/
def SweepState.abandon (e : SweepState) : SweepState :=
  { e with intervalTimer := none, timeout := none, launchDue := false, outstanding := none }

end Sys2Proof.Machine
end

