-- ==== Sys2Proof/Machine/ConsistOps.lean ====
section
/-! DEFINITION. The Consist Controller's operations (04, 05): leaving and entering OPERATIONAL, CALL, the lead claim, taking
a position, the walk engine, confirmation, neighbour events, and the handling of its frames. -/

namespace Sys2Proof.Machine

/-! ### Out of a consist (04 R66) -/

/-- The node leaves OPERATIONAL for a new state with a cause; the Door Control Unit, the Heating Allocator and the Sweep
Engine act at the same event, with their leader's parts if a claim is held (04 R66). -/
def State.leaveOperational (s : State) (new : NodeState) (cause : ExitCause) : State :=
  let s1 := s.setReleases false false
  let s2 := if s.cc.claim.isSome then s1.abortDoors else s1
  let s3 := s2.heatingLeaves
  let s4 := if s.cc.claim.isSome then s3.modSe SweepState.abandon else s3
  (s4.modCc fun c =>
    { c with node := new, lastExit := cause, silenceTimer := none,
             table := if new = .suspended then c.table else Table.empty }).raise .consist

/-- An OPERATIONAL or PROVISIONAL node enters SUSPENDED with a cause; the confirm timer stops with PROVISIONAL (04 R63,
R66). In any other node state nothing changes. -/
def State.suspend (s : State) (cause : ExitCause) : State :=
  match s.cc.node with
  | .operational => s.leaveOperational .suspended cause
  | .provisional => s.modCc fun c => { c with node := .suspended, lastExit := cause, confirmTimer := none }
  | .detached => s
  | .suspended => s
  | .isolated => s

/-- A node without a claim emits a CALL on its front port, provided that port is LINKED (04 R68). -/
def State.emitCall (s : State) (cause port : Nat) : State :=
  match s.cc.claim, s.cc.front with
  | none, some f =>
    if (s.cp f).st = .linked then
      s.offer f { gen := s.cc.gen, body := .call s.sys.serial (s.cc.position.getD 0xFF) cause port }
    else s
  | _, _ => s

/-! ### The lead claim (05 R79 to R82) -/

/-- A walk in progress or pending is abandoned (05 R79). -/
def Consist.abandonWalk (c : Consist) : Consist :=
  { c with walk := .idle, settleTimer := none, walkTimer := none, records := [], callHeld := false }

/-- The lead claim ends with a cause: LEAD is raised, any walk is abandoned, and front port and orientation are kept only if
the node holds a position (05 R81, R82, R85). -/
def State.endClaim (s : State) (cause : LeadCause) : State :=
  (s.modCc fun c =>
    { c.abandonWalk with
      claim := none, leadCause := cause,
      front := if c.position.isSome then c.front else none,
      orientation := if c.position.isSome then c.orientation else none }).raise .lead

/-- Loss of the cab-end condition: the claim ends and the node is SUSPENDED (05 R82, 04 R69). -/
def State.cabEndLoss (s : State) : State :=
  ((s.suspend .claim).modCc fun c => { c with node := .suspended }).endClaim .cabEnd

/-- A conflict of claims: the claim ends and the node is SUSPENDED with cause CONFLICT (05 R85, R90). -/
def State.conflict (s : State) : State :=
  ((s.suspend .conflict).modCc fun c => { c with node := .suspended, lastExit := .conflict }).endClaim .conflict

/-- The orientation of a node whose front port is given (04 R62). -/
def orientationOf : PortId → Orientation
  | .p1 => .forward
  | .p2 => .reversed

/-! ### Taking a position (04 R62) -/

/-- State of the other blocks that belongs to one generation returns to its reset values when the node takes a position
(06 R102, 07 R120, 08 R145). -/
def State.startPosition (s : State) : State :=
  { s with se := s.se.resetNodeSide, dcu := { s.dcu with lastDoor := none }, ha := { s.ha with lastTaken := none } }

/-- An OPERATIONAL node leaves OPERATIONAL for PROVISIONAL with cause WALK (04 R62). -/
def State.leaveForWalk (s : State) : State :=
  if s.cc.node = .operational then s.leaveOperational .provisional .walk else s

/-- A member takes a position in a walk that reached it on port x (04 R62). -/
def State.takePosition (s : State) (x : PortId) (gen pos : Nat) : State :=
  s.leaveForWalk.startPosition.modCc fun c =>
    { c with table := Table.empty, gen, position := some pos, front := some x,
             orientation := some (orientationOf x), node := .provisional, confirmTimer := some 0,
             silenceTimer := none }

/-- The node's entry, built from its coach record as it stands (04 R62, 05 R84, R88). -/
def State.ownEntry (s : State) (lead : Bool) : Entry :=
  { serial := s.sys.serial, position := s.cc.position.getD 0, orientation := s.cc.orientation.getD .forward,
    cls := s.cc.coach.cls, leaves1 := s.cc.coach.leaves1, leaves2 := s.cc.coach.leaves2,
    stepPower := s.cc.coach.stepPower, lead }

/-! ### Confirmation (05 R93) -/

/-- The record held for a position. -/
def recordAt (records : List Entry) (p : Nat) : Option Entry := records.find? fun e => e.position == p

/-- Records are held at every position 1 to n. -/
def heldUpTo (records : List Entry) (n : Nat) : Bool := (List.range n).all fun i => (recordAt records (i + 1)).isSome

/-- The highest k for which records are held at every position 1 to k (05 R92). -/
def heldPrefix (records : List Entry) : Nat :=
  ((List.range 32).takeWhile fun i => (recordAt records (i + 1)).isSome).length

/-- The table ends before the first entry whose serial stands at a lower position (04 R70, 05 R93). -/
def cutDuplicates (seen : List Serial) : List Entry → List Entry
  | [] => []
  | e :: rest => if e.serial ∈ seen then [] else e :: cutDuplicates (e.serial :: seen) rest

/-- The entries of the confirmed table: records 1 to n, in position order, cut at a duplicate serial. -/
def confirmedEntries (records : List Entry) (n : Nat) : List Entry :=
  cutDuplicates [] ((List.range n).filterMap fun i => recordAt records (i + 1))

/-- The confirmed table with its reason (04 R70). -/
def confirmedTable (records : List Entry) (gen n : Nat) (reason : Reason) : Table :=
  let entries := confirmedEntries records n
  { gen, entries, reason := if entries.length < n ∧ reason = .none then .timeout else reason }

/-- A node enters OPERATIONAL with a confirmed table (04 R64). -/
def State.enterOperational (s : State) (t : Table) : State :=
  (s.modCc fun c =>
    { c with table := t, confirmTimer := none, node := .operational,
             silenceTimer := if c.claim.isSome then c.silenceTimer else some 0 }).raise .consist

/-- The Heating Allocator's leader state at a confirmation: grants 0, rotation start 1 (08 R151). -/
def Heating.startGeneration (h : Heating) : Heating := { h with grants := List.replicate 32 0, rotation := 1 }

/-- The leader confirms with N and reason (05 R93). -/
def State.confirmWalk (s : State) (n : Nat) (reason : Reason) : State :=
  let t := confirmedTable s.cc.records s.cc.gen n reason
  let s1 := (s.modCc fun c => { c with walkTimer := none }).enterOperational t
  let s2 := { s1 with se := s1.se.startGeneration, ha := s1.ha.startGeneration }
  let s3 := s2.modCc fun c => { c with confirmCheck := true }
  let s4 :=
    if 1 < t.entries.length then
      s3.offerRear { gen := s3.cc.gen, body := .confirm t.entries.length (reasonCode t.reason) (t.entries.map plainEntry) }
    else s3
  let s5 := s4.launch
  let held := s5.cc.callHeld
  let s6 := s5.modCc fun c => { c with walk := .idle, records := [], callHeld := false }
  if held then s6.walkTrigger else s6

/-! ### Walk attempts (05 R84, R92) -/

/-- The next generation: 255 is followed by 1 (04 R61). -/
def nextGeneration (g : Nat) : Nat := g % 255 + 1

/-- The leader starts a walk attempt, the first or the second (05 R84). -/
def State.startAttempt (s : State) (which : WalkState) : State :=
  let s1 := (s.modCc fun c => { c with callHeld := false }).leaveForWalk.startPosition.modCc fun c =>
    { c with gen := nextGeneration c.gen, position := some 1, node := .provisional, table := Table.empty,
             walk := which, settleTimer := none, walkTimer := none }
  let s2 := s1.modCc fun c => { c with records := [s1.ownEntry true] }
  if s2.rearPresent then
    (s2.modCc fun c => { c with walkTimer := some 0 }).offerRear
      { gen := s2.cc.gen, body := .walk s2.sys.serial 2 }
  else s2.confirmWalk 1 .none

/-- An attempt fails, or its walk timer expires (05 R92). -/
def State.attemptFails (s : State) : State :=
  match s.cc.walk with
  | .walkFirst => s.startAttempt .walkSecond
  | .walkSecond => s.confirmWalk (heldPrefix s.cc.records) .timeout
  | .idle => s
  | .settling => s

/-- The walk engine is in an attempt. -/
def Consist.walking (c : Consist) : Bool := c.walk == .walkFirst || c.walk == .walkSecond

/-! ### Frames of the walk (05 R85 to R96) -/

/-- A WALK is handed to the Consist Controller with its arrival port (05 R85 to R88). -/
def State.ccWalk (s : State) (x : PortId) (gen : Nat) (leader : Serial) (next : Nat) : State :=
  if leader = s.sys.serial then s
  else if s.cc.claim.isSome then
    (s.offer x { gen, body := .clash s.sys.serial leader }).conflict
  else if s.cc.node = .isolated then s
  else if next ≤ 1 ∨ gen = 0 then s.countMalformed x
  else if s.cc.node = .provisional ∧ s.cc.gen = gen then s
  else if 33 ≤ next then s.offer x { gen, body := .tail 1 32 s.sys.serial }
  else
    let s1 := s.takePosition x gen next
    let s2 := s1.offer x { gen, body := .node (plainEntry (s1.ownEntry false)) }
    if s2.hasNeighbour (other x) then s2.offer (other x) { gen, body := .walk leader (next + 1) }
    else s2.offer x { gen, body := .tail 0 next s2.sys.serial }

/-- An entry joins the collected records, which are kept by rising position. -/
def insertRecord (e : Entry) : List Entry → List Entry
  | [] => [e]
  | r :: rest => if e.position < r.position then e :: r :: rest else r :: insertRecord e rest

/-- A NODE reaches the leader (05 R89). A record at a position above 1 carries the lead flag clear (04 R70, log entry 7).
The current generation: log entry 42. -/
def State.ccNode (s : State) (x : PortId) (gen : Nat) (e : Entry) : State :=
  if gen ≠ s.cc.gen then s.countStale x
  else if s.cc.walking && decide (2 ≤ e.position) && decide (e.position ≤ 32) &&
      (recordAt s.cc.records e.position).isNone && entryInRange e then
    s.modCc fun c => { c with records := insertRecord { e with lead := false } c.records }
  else s

/-- The OVERLENGTH flag of a TAIL: bit 0 of its flags byte (05 R91, 11 section 11.2). -/
def overlengthBit (flags : Nat) : Bool := flags % 2 = 1

/-- A TAIL reaches the leader (05 R91). DEDUCED: its generation, then the walk state, then its position is checked (log
entry 37). -/
def State.ccTail (s : State) (x : PortId) (gen : Nat) (overlength : Bool) (last : Nat) : State :=
  if gen ≠ s.cc.gen then s.countStale x
  else if !s.cc.walking then s
  else if overlength then
    if heldUpTo s.cc.records 32 then s.confirmWalk 32 .overlength else s.attemptFails
  else if last ≤ 1 ∨ 32 < last then s.countMalformed x
  else if heldUpTo s.cc.records last then s.confirmWalk last .none
  else s.attemptFails

/-- A CLASH reaches the leader (05 R90). DEDUCED: the current generation of a claimant that has made no attempt yet is the node's
generation as it stands, one held as a former member among them (log entry 42). -/
def State.ccClash (s : State) (x : PortId) (gen : Nat) : State :=
  if gen ≠ s.cc.gen then s.countStale x else s.conflict

/-- A CALL reaches the leader (05 R92). One whose cause names none of 04 R68 is malformed (11 R185). The
current generation: log entry 42. -/
def State.ccCall (s : State) (x : PortId) (gen cause : Nat) : State :=
  if gen ≠ s.cc.gen then s.countStale x
  else if callMismatch < cause then s.countMalformed x
  else if s.cc.walking then s.modCc fun c => { c with callHeld := true }
  else s.walkTrigger

/-- A table is well-formed (04 R70); `n` is the N the CONFIRM names. DEDUCED: its entries stand in position order (log
entry 36). -/
def tableWellFormed (n : Nat) (entries : List Entry) : Bool :=
  decide (1 ≤ n) && decide (n ≤ 32) && decide (entries.map Entry.position = (List.range n).map (· + 1)) &&
    decide ((entries.map Entry.serial).Nodup) && entries.all entryInRange &&
    entries.all fun e => e.lead == (e.position == 1)

/-- A PROVISIONAL member of the CONFIRM's generation accepts it (05 R94): its table is well-formed, N is at least its
position, and the entry there carries its serial and its orientation. -/
def State.acceptsConfirm (s : State) (n reason : Nat) (entries : List Entry) : Bool :=
  tableWellFormed n entries && (reasonOfCode reason).isSome &&
    match s.cc.position with
    | none => false
    | some p =>
      match recordAt entries p with
      | none => false
      | some e => e.serial == s.sys.serial && some e.orientation == s.cc.orientation

/-- A CONFIRM is handed to the Consist Controller (05 R94 to R96); one that is sent on leaves with the bytes it arrived with. -/
def State.ccConfirm (s : State) (x : PortId) (gen n reason : Nat) (entries : List LineEntry) : State :=
  let table := entries.map LineEntry.entry
  if gen ≠ s.cc.gen ∨ s.cc.node = .detached then s.countStale x
  else if s.cc.node ≠ .provisional then s
  else if s.acceptsConfirm n reason table then
    let s1 := s.enterOperational { gen, reason := (reasonOfCode reason).getD .none, entries := table }
    if s.cc.position.getD 0 < n then s1.offerRear { gen, body := .confirm n reason entries } else s1
  else (s.suspend .mismatch).emitCall callMismatch 0

/-! ### Neighbour events (04 R67) -/

/-- A neighbour present event on a port (04 R67). -/
def State.ccPresent (s : State) (p : PortId) : State :=
  match s.cc.claim with
  | some e => if p = e then s.cabEndLoss else s.walkTrigger
  | none =>
    match s.cc.node with
    | .provisional => (s.suspend .neighbour).emitCall callNeighbour (portNumber p)
    | .operational => s.emitCall callJoin (portNumber p)
    | .detached => s
    | .suspended => s
    | .isolated => s

/-- A neighbour lost or changed event on a port (04 R67). -/
def State.ccGone (s : State) (p : PortId) : State :=
  match s.cc.claim with
  | some e =>
    if p = e then s
    else (if s.cc.node = .operational then s.suspend .neighbour else s).walkTrigger
  | none =>
    match s.cc.node with
    | .provisional => (s.suspend .neighbour).emitCall callNeighbour (portNumber p)
    | .operational => (s.suspend .neighbour).emitCall callNeighbour (portNumber p)
    | .detached => s
    | .suspended => s
    | .isolated => s

end Sys2Proof.Machine
end

