-- ==== Sys2Proof/Machine/NeighbourOps.lean ====
section
/-! DEFINITION. The Neighbour Monitor's operations (03): sending a BEAT, the check of a delivered BEAT, the rate decision
that reads it (01 R14), the status rules, and the departure of a port from its link. -/

namespace Sys2Proof.Machine

/-! ### Sending (03 R47, R48) -/

/-- The content of a BEAT that the node sends on a port, as it stands (03 R48). -/
def State.beatBody (s : State) (p : PortId) : BeatBody :=
  { serial := s.sys.serial, port := portNumber p, node := nodeStateCode s.cc.node, lead := s.cc.claim.isSome,
    maxRate := (s.cp p).advertised, rate := (s.cp p).rate }

/-- A BEAT is offered on a port. -/
def State.offerBeat (s : State) (p : PortId) : State :=
  s.offer p { gen := s.cc.gen, body := .beat (s.beatBody p) }

/-- The Neighbour Monitor's part of an entry to LINKED: a BEAT is offered, the BEAT timer and the neighbour timeout timer
start (03 R47, R55). -/
def State.nmLinked (s : State) (p : PortId) : State :=
  (s.offerBeat p).modNm p fun n => { n with beatTimer := some 0, timeout := some 0 }

/-- Its part of a departure from LINKED: both timers stop (03 R47, R54, R55). -/
def Nbr.stopTimers (n : Nbr) : Nbr := { n with beatTimer := none, timeout := none }

/-! ### A delivered BEAT (03 R50 to R53, 01 R14) -/

/-- The BEAT is invalid (03 R50); its length is settled before it is read as a BEAT. -/
def beatInvalid (b : BeatBody) : Bool :=
  b.serial == 0 || (portOfNumber b.port).isNone || (nodeStateOfCode b.node).isNone || decide (2 < b.maxRate) ||
    decide (2 < b.rate)

/-- The record of a valid BEAT. -/
def beatRecord (gen : Nat) (b : BeatBody) : NbrRecord :=
  { serial := b.serial, farPort := (portOfNumber b.port).getD .p1, farNode := (nodeStateOfCode b.node).getD .detached,
    farLead := b.lead, farGen := gen }

/-- The port has stepped successfully since it left OPEN: it is LINKED above base rate (01 R15, R16). -/
def Coupler.stepped (c : Coupler) : Bool := c.rate != 0

/-- The rate decision of a LINKED port with step state none and the rate-settled flag clear (01 R14). A port that has stepped
makes no further step (R16). DEDUCED: it settles instead (log entry 40). -/
def Coupler.rateDecision (c : Coupler) (farMax : Nat) : Coupler :=
  if c.st = .linked ∧ c.step = .none ∧ c.rateSettled = false then
    if c.stepped = false ∧ c.rate < min c.advertised farMax then { c with step := .pending (min c.advertised farMax) }
    else { c with rateSettled := true }
  else c

/-- An invalid BEAT is counted (03 R50). -/
def State.countInvalidBeat (s : State) (p : PortId) : State :=
  s.modNm p fun n => { n with invalidBeats := inc16 n.invalidBeats }

/-- A neighbour lost or changed event goes to the Consist Controller, and NEIGHBOUR is raised (03 R56). -/
def State.neighbourGone (s : State) (p : PortId) : State := (s.ccGone p).raise .neighbour

/-- A valid BEAT with the node's own serial (03 R53). -/
def State.ownBeat (s : State) (p : PortId) : State :=
  match (s.nm p).status with
  | .absent => (s.modNm p fun n => { n with status := .echoSeen, candidate := none }).raise .neighbour
  | .echoSeen => s
  | .present => (s.modNm p fun n => { n with status := .echoSeen, record := none }).neighbourGone p

/-- Is the record of this identity: the same serial and far port (03 R52)? -/
def NbrRecord.sameIdentity (r r' : NbrRecord) : Bool := r.serial == r'.serial && r.farPort == r'.farPort

/-- A valid BEAT with another serial (03 R51 to R53). -/
def State.farBeat (s : State) (p : PortId) (r : NbrRecord) : State :=
  match (s.nm p).status with
  | .absent => s.modNm p fun n => { n with candidate := some r }
  | .echoSeen => (s.modNm p fun n => { n with status := .absent, candidate := some r }).raise .neighbour
  | .present =>
    if (s.nm p).record.any (NbrRecord.sameIdentity r) then s.modNm p fun n => { n with record := some r }
    else (s.modNm p fun n => { n with record := some r, changes := inc16 n.changes }).neighbourGone p

/-- The neighbour is announced once the port is LINKED with step state none, settled, with a candidate held (03 R51). -/
def State.announce (s : State) (p : PortId) : State :=
  match (s.nm p).candidate with
  | none => s
  | some r =>
    if (s.nm p).status = .absent ∧ (s.cp p).st = .linked ∧ (s.cp p).step = .none ∧ (s.cp p).rateSettled = true then
      ((s.modNm p fun n => { n with status := .present, record := some r, candidate := none }).ccPresent p).raise
        .neighbour
    else s

/-- A delivered BEAT (03 R50). -/
def State.nmBeat (s : State) (p : PortId) (gen : Nat) (b : BeatBody) : State :=
  if beatInvalid b then s.countInvalidBeat p
  else if b.serial = s.sys.serial then s.ownBeat p
  else ((s.modCp p fun c => c.rateDecision b.maxRate).farBeat p (beatRecord gen b)).announce p

/-! ### Departure (03 R54) -/

/-- The port has entered OPEN or FAULTED (03 R54). -/
def State.nmDepart (s : State) (p : PortId) : State :=
  let s' := s.modNm p fun n => { n.stopTimers with candidate := none, record := none, status := .absent }
  match (s.nm p).status with
  | .absent => s'
  | .present => s'.neighbourGone p
  | .echoSeen => s'.raise .neighbour

end Sys2Proof.Machine
end

