-- ==== Sys2Proof/Machine/PortOps.lean ====
section
/-! DEFINITION. The coupler port's state changes (01): entry to OPEN and leaving it, alignment attempts and their failure,
FAULTED, LINKED, LOOP, the pass window, and the start of a rate step. -/

namespace Sys2Proof.Machine

/-! ### Pairs -/

/-- A pair that stops receiving: IDLE, its break flag cleared, its silence timer stopped (01 R6, R7, R23). -/
def Pair.idled (x : Pair) : Pair :=
  { x with st := .idle, brk := false, silence := none, deliveredSince := false, copies := [], inFrame := false }

/-- A pair at the start of an attempt: SCANNING at position 0, or FAILED if its break flag is set (01 R8). -/
def Pair.scan (x : Pair) : Pair :=
  { x with st := if x.brk then .failed else .scanning, passes := if x.brk then x.passes else [], silence := none,
           deliveredSince := false, copies := [], inFrame := false }

/-- A pair at the entry to LINKED (01 R11): IN SERVICE with its silence timer running; one that is not ALIGNED takes
phase 8 and score 15. The last good sequence belongs to one LINKED period (R19). -/
def Pair.enterService (x : Pair) : Pair :=
  { x with st := .inService, silence := some 0, deliveredSince := false, copies := [], lastGood := none,
           phase := if x.st = .aligned then x.phase else 8,
           score := if x.st = .aligned then x.score else 15,
           degraded := if x.st = .aligned then x.degraded else true }

/-- The pair is SCANNING or ALIGNED. -/
def Pair.live (x : Pair) : Bool := x.st == .scanning || x.st == .aligned

/-- No pair of the port is SCANNING or ALIGNED (01 R12). -/
def Coupler.noneLive (c : Coupler) : Bool := !c.pairA.live && !c.pairB.live

/-- Some pair of the port is ALIGNED (01 R11). -/
def Coupler.anyAligned (c : Coupler) : Bool := c.pairA.st == .aligned || c.pairB.st == .aligned

/-! ### The pass window (01 R10) -/

/-- How many consecutive positions pass from position k on, counted circularly. -/
def runLength (passes : List Bool) (k : Nat) : Nat :=
  ((List.range 16).takeWhile fun i => passes.getD ((k + i) % 16) false).length

/-- The pass window: its start and length; among runs of the greatest length the lowest first position. -/
def passWindow (passes : List Bool) : Nat × Nat :=
  (List.range 16).foldl (fun best k => if best.2 < runLength passes k then (k, runLength passes k) else best) (0, 0)

/-- The sample phase a window gives, none when the pair fails (01 R10). -/
def windowPhase (passes : List Bool) : Option Nat :=
  if (List.range 16).all fun i => passes.getD i false then some 8
  else if 4 ≤ (passWindow passes).2 then some (((passWindow passes).1 + (passWindow passes).2 / 2) % 16)
  else none

/-! ### Alignment attempts (01 R8, R12, R16) -/

/-- The port's own part of the start of an attempt at a rate (01 R8). -/
def Coupler.toAligning (c : Coupler) (rate : Nat) : Coupler :=
  { c.bothPairs Pair.scan with
    st := .aligning, rate, ready := false, rateSettled := false, held := none, heldTimer := none,
    attemptTimer := some 0, retryTimer := none, patternTimer := some 0, patternDue := false }

/-- An attempt starts (01 R8); PORT is raised if the port was not ALIGNING. DESIGN CHOICE: a PATTERN frame in transmission runs
on, with the ready flag and rate it started with (log entry 22). -/
def State.beginAttempt (s : State) (p : PortId) (rate : Nat) : State :=
  ((s.modCp p fun c => c.toAligning rate).modNm p Nbr.stopTimers).raiseIf ((s.cp p).st != .aligning) .port

/-- The port's own part of an entry to FAULTED (01 R7, R16). -/
def Coupler.toFaulted (c : Coupler) : Coupler :=
  { c.bothPairs Pair.idled with
    st := .faulted, rate := 0, step := .none, failCount := 3, ready := false, attemptTimer := none,
    retryTimer := some 0, patternTimer := none, patternDue := false }

/-- The port enters FAULTED (01 R7): its queues are emptied, its neighbour is lost, PORT is raised. -/
def State.enterFaulted (s : State) (p : PortId) : State :=
  (((s.modCp p Coupler.toFaulted).modLr p Relay.flush).raise .port).nmDepart p

/-- The attempt in progress is the attempt of a rate step: it runs at the step's target, above base rate (01 R8). -/
def Coupler.stepAttempt (c : Coupler) : Bool :=
  match c.step with
  | .inProgress _ => c.rate != 0
  | .pending _ => false
  | .none => false

/-- One failure of the attempt in progress (01 R12, R16). -/
def State.failAttempt (s : State) (p : PortId) : State :=
  if (s.cp p).stepAttempt then
    (s.modCp p fun c => { c with rateCapped := true, failCount := 0 }).beginAttempt p 0
  else if 2 ≤ (s.cp p).failCount then s.enterFaulted p
  else (s.modCp p fun c => { c with failCount := c.failCount + 1 }).beginAttempt p 0

/-- Attempts that start with no pair SCANNING, since both break flags are set, fail at once (01 R12); the first argument
bounds how many may follow one another. -/
def State.failDead : Nat → State → PortId → State
  | 0, s, _ => s
  | fuel + 1, s, p =>
    if (s.cp p).st = .aligning ∧ (s.cp p).noneLive then State.failDead fuel (s.failAttempt p) p else s

/-- The attempt in progress fails (01 R12). -/
def State.alignFails (s : State) (p : PortId) : State := (s.failAttempt p).failDead 4 p

/-- An attempt starts at a rate, and fails at once if no pair can scan. -/
def State.alignAttempt (s : State) (p : PortId) (rate : Nat) : State := (s.beginAttempt p rate).failDead 4 p

/-! ### OPEN (01 R6) and LOOP (01 R24 to R26) -/

/-- The port's own part of an entry to LOOP. DESIGN CHOICE: in LOCAL LOOP the first PATTERN frame is due 1 ms after entry (log
entry 18). -/
def Coupler.toLoop (c : Coupler) : Coupler :=
  match c.loopMode with
  | .localLoop =>
    { c.bothPairs fun x => { x.idled with st := .inService, phase := 8 } with
      st := .loop, rate := c.activeMax, patternTimer := some 0, patternDue := false }
  | .remoteEcho => { c.bothPairs Pair.idled with st := .loop, rate := 0 }
  | .normal => { c.bothPairs Pair.idled with st := .loop, rate := 0 }

/-- The port enters LOOP. -/
def State.enterLoop (s : State) (p : PortId) : State := (s.modCp p Coupler.toLoop).raise .port

/-- A port in OPEN leaves it if THRU-HOLD is high and its conditions hold (01 R6). -/
def State.leaveOpen (s : State) (p : PortId) : State :=
  if s.thruHold = true ∧ (s.cp p).st = .open then
    if (s.cp p).loopMode ≠ .normal then s.enterLoop p
    else if (s.nm p).sense then s.alignAttempt p 0
    else s
  else s

/-- The port's own part of an entry to OPEN (01 R6). -/
def Coupler.toOpen (c : Coupler) (cause : OpenCause) : Coupler :=
  { c.bothPairs fun x => { x.idled with lastGood := none } with
    st := .open, rate := 0, activeMax := c.stagedMax, rateCapped := false, step := .none, failCount := 0,
    ready := false, rateSettled := false, lastDelivered := none, held := none, heldTimer := none,
    openCause := cause, attemptTimer := none, retryTimer := none, patternTimer := none, patternDue := false }

/-- A cause of OPEN (01 R6): a port in OPEN stays as it is; any other enters OPEN, its queues are emptied (02 R43), its
neighbour is lost (03 R54), PORT is raised, and it leaves OPEN again if its conditions hold. -/
def State.portToOpen (s : State) (p : PortId) (cause : OpenCause) : State :=
  if (s.cp p).st = .open then s
  else
    ((((s.modCp p fun c => c.toOpen cause).modLr p Relay.flush).raise .port).nmDepart p).leaveOpen p

/-! ### LINKED (01 R11) -/

/-- The port's own part of an entry to LINKED. -/
def Coupler.toLinked (c : Coupler) : Coupler :=
  { c.bothPairs Pair.enterService with
    st := .linked, attemptTimer := none, failCount := 0, txSeq := 0, lastDelivered := none,
    step := .none, patternTimer := none, patternDue := true }

/-- The port enters LINKED (01 R11): one PATTERN frame with ready set goes out ahead of the BEAT that the Neighbour
Monitor offers. -/
def State.enterLinked (s : State) (p : PortId) : State :=
  (((s.modCp p Coupler.toLinked).raise .port).kickLine p).nmLinked p

/-! ### Rate step (01 R15) -/

/-- The pending step begins: the port aligns at the step's target, the step in progress. -/
def State.beginStep (s : State) (p : PortId) : State :=
  match (s.cp p).step with
  | .pending t => (s.modCp p fun c => { c with step := .inProgress t }).alignAttempt p t
  | .none => s
  | .inProgress _ => s

end Sys2Proof.Machine
end

