-- ==== Sys2Proof/Machine/ConsumerOps.lean ====
section
/-! DEFINITION. What the blocks do with the frames the Line Relay hands them (06 R111 to R115, 07 R131 to R135, 08 R149,
R150), and the Line Relay's routing (02 R29, R31 to R35). -/

namespace Sys2Proof.Machine

/-- The node's generation is a frame's generation. Generation 0 is none and matches no rearward frame (06 R111, 07 R131,
04 R72, log entry 21). -/
def State.ofGeneration (s : State) (gen : Nat) : Bool := gen == s.cc.gen && gen != 0

/-- The node's position, 0 for none. -/
def State.pos (s : State) : Nat := s.cc.position.getD 0

/-! ### SWEEP at a node (06 R111 to R113) -/

/-- The list of a SWEEP that passes the check of 06 R111, decoded. -/
def sweepList (number n : Nat) (list : List Nat) : Option (List Element) :=
  match decodeList list with
  | none => none
  | some l =>
    if number ≤ 15 ∧ 1 ≤ n ∧ n ≤ 32 ∧ l.all Element.runOk ∧ listCovers l < 32 then some l else none

/-- The REFRESH bit of the flags byte of a SWEEP or RETURN (11 section 11.2). -/
def refreshBit (flags : Nat) : Bool := flags % 2 = 1

/-- A node answers a SWEEP: gap check, own element, and the sweep sent on or turned back (06 R112, R113). A SWEEP
sent on carries REFRESH and no other bit; a RETURN carries the flags byte unchanged (11 R185, section 11.2). -/
def State.answerSweep (s : State) (gen number flags n : Nat) (list : List Nat) (l : List Element) : State :=
  let s1 := s.gapCheck number
  let a := s1.ownAppended (refreshBit flags)
  let s2 := s1.afterAppend a
  let list' := appendBytes list l a.element
  if s2.pos < n ∧ s2.rearPresent then s2.offerRear { gen, body := .sweep number (flagCode (refreshBit flags)) n list' }
  else s2.offerFront { gen, body := .ret number flags n list' }

/-- An OPERATIONAL member's sweep-silence timer restarts at a SWEEP of its generation (04 R65, 06 R111). -/
def State.heardSweep (s : State) : State :=
  if s.cc.node = .operational then s.modCc fun c => { c with silenceTimer := some 0 } else s

/-- The node states that answer sweeps: PROVISIONAL, OPERATIONAL and SUSPENDED (04 section 4.1, 06 R111). -/
def NodeState.inConsist : NodeState → Bool
  | .provisional => true
  | .operational => true
  | .suspended => true
  | .detached => false
  | .isolated => false

/-- A SWEEP handed to the Sweep Engine (06 R111). -/
def State.seSweep (s : State) (x : PortId) (gen number flags n : Nat) (list : List Nat) : State :=
  if !s.ofGeneration gen then s.countStale x
  else if !s.cc.node.inConsist then s
  else
    match sweepList number n list with
    | none => s.heardSweep.countMalformed x
    | some l => s.heardSweep.answerSweep gen number flags n list l

/-! ### RETURN at the leader (06 R114, R115) -/

/-- The records a RETURN covers positions 1 to N with, at a leader of N positions; none if its coverage fails. -/
def State.covered (s : State) (n : Nat) (list : List Nat) : Option (List Record) :=
  match decodeList list with
  | none => none
  | some l => if n = s.consistN then coverFrom s.se.lastFull n 1 l else none

/-- A RETURN handed to the Sweep Engine (06 R114, R115). -/
def State.seReturn (s : State) (x : PortId) (gen number n : Nat) (list : List Nat) : State :=
  if gen ≠ s.cc.gen then s.countStale x
  else if s.cc.node ≠ .operational ∨ s.se.outstanding ≠ some number then
    s.modSe fun e => { e with staleReturns := inc16 e.staleReturns }
  else
    match s.covered n list with
    | some records => s.completeSweep number records
    | none => (s.modSe fun e => { e with coverageFailures := inc16 e.coverageFailures }).loseSweep .coverage

/-! ### DOOR at a node (07 R131 to R133) -/

/-- The action and train side of a DOOR that passes the check of 07 R131. -/
def doorFields (id action side first last : Nat) : Option (Action × TrainSide) :=
  match actionOfCode action, trainSideOfCode side with
  | some a, some t =>
    if id ≤ 15 ∧ ¬ (a = .release ∧ t = .both) ∧ 1 ≤ first ∧ first ≤ last ∧ last ≤ 32 then some (a, t) else none
  | _, _ => none

/-- The node applies a command of this range: it is OPERATIONAL and its position lies in it (07 R132). -/
def State.doorApplies (s : State) (first last : Nat) : Bool :=
  s.cc.node == .operational && decide (first ≤ s.pos) && decide (s.pos ≤ last)

/-- The node handles a DOOR: it applies it or not, keeps the door record, and ends its travel or sends it on. -/
def State.handleDoor (s : State) (gen id : Nat) (a : Action) (t : TrainSide) (first last : Nat) : State :=
  let applies := s.doorApplies first last
  let s1 := if applies then s.applyDoor a t else s
  let s2 := s1.modDcu fun d => { d with lastDoor := some { gen, id, applied := applies } }
  if last ≤ s2.pos ∨ s2.rearPresent = false then
    s2.offerFront { gen, body := .echo id (if applies then posBit s2.pos else 0) }
  else s2.offerRear { gen, body := .door id (actionCode a) (trainSideCode t) first last }

/-- A DOOR handed to the Door Control Unit (07 R131). -/
def State.dcuDoor (s : State) (x : PortId) (gen id action side first last : Nat) : State :=
  if !s.ofGeneration gen then s.countStale x
  else
    match doorFields id action side first last with
    | none => s.countMalformed x
    | some (a, t) => s.handleDoor gen id a t first last

/-! ### ECHO (07 R134, R135) -/

/-- The node's own bit, if its last door record is of this command and has the applied flag set (07 R134, R135). -/
def State.ownMark (s : State) (gen id p : Nat) : PosSet :=
  if s.dcu.lastDoor = some { gen, id, applied := true } then posBit p else 0

/-- An ECHO handed to the leader's Door Control Unit (07 R135). -/
def State.dcuEcho (s : State) (x : PortId) (gen id : Nat) (applied : PosSet) : State :=
  if gen ≠ s.cc.gen then s.countStale x
  else
    match s.dcu.inFlight, s.dcu.queue with
    | some f, c :: _ =>
      if c.id = id then
        s.endInFlight (decideEnding f.expected (applied ||| s.ownMark gen id 1)) (some (applied ||| s.ownMark gen id 1))
      else s.modDcu fun d => { d with lateEchoes := inc16 d.lateEchoes }
    | _, _ => s.modDcu fun d => { d with lateEchoes := inc16 d.lateEchoes }

/-! ### GRANT at a node (08 R149, R150) -/

/-- The cause and sweep number of a GRANT that passes the check of 08 R149. -/
def grantFields (cause number n : Nat) (grants : List Nat) : Option (GrantCause × Option Nat) :=
  match grantCauseOfCode cause, sweepNumberOfCode number with
  | some c, some k => if 1 ≤ n ∧ n ≤ 32 ∧ grants.length = n ∧ grants.all (decide <| · ≤ 7) then some (c, k) else none
  | _, _ => none

/-- A node handles a GRANT: it takes its entry if it is OPERATIONAL and in range, and sends it on if a neighbour lies
beyond and its position is below N (08 R150). -/
def State.handleGrant (s : State) (gen cause number n : Nat) (grants : List Nat) (c : GrantCause) (k : Option Nat) :
    State :=
  let s1 := if s.cc.node = .operational ∧ s.pos ≤ n then s.takeGrant (at1 grants s.pos) gen c k else s
  if s1.pos < n ∧ s1.rearPresent then s1.offerRear { gen, body := .grant cause number n grants } else s1

/-- A GRANT handed to the Heating Allocator (08 R149). -/
def State.haGrant (s : State) (x : PortId) (gen cause number n : Nat) (grants : List Nat) : State :=
  if !s.ofGeneration gen then s.countStale x
  else
    match grantFields cause number n grants with
    | none => s.countMalformed x
    | some (c, k) => if s.cc.node.inConsist then s.handleGrant gen cause number n grants c k else s

/-! ### Routing (02 R29, R31 to R35) -/

/-- A frame as it is relayed: an ECHO is marked by the Door Control Unit first (02 R34, 07 R134). -/
def State.marked (s : State) (f : Frame) : Frame :=
  match f.body with
  | .echo id applied => { f with body := .echo id (applied ||| s.ownMark f.gen id s.pos) }
  | _ => f

/-- A FRONTWARD frame that arrived on port x (02 R32, R33); `consume` is its consumer at the leader. -/
def State.frontward (s : State) (x : PortId) (f : Frame) (consume : State → State) : State :=
  match s.cc.claim with
  | some e => if x = e then s.countMisroute x else consume s
  | none => if s.cc.front = some x then s.countMisroute x else s.offer (other x) (s.marked f)

/-- A REARWARD frame other than WALK that arrived on port x (02 R35). -/
def State.rearward (s : State) (x : PortId) (consume : State → State) : State :=
  if s.cc.claim.isSome ∨ s.cc.front = some (other x) then s.countMisroute x else consume s

/-- The Line Relay takes a frame that port x delivered (02 R29 to R35). -/
def State.route (s : State) (x : PortId) (f : Frame) : State :=
  if !f.body.routable then s.countMalformed x
  else
    match f.body with
    | .walk leader next => s.ccWalk x f.gen leader next
    | .node e => s.frontward x f fun s => s.ccNode x f.gen e.entry
    | .tail flags last _ => s.frontward x f fun s => s.ccTail x f.gen (overlengthBit flags) last
    | .clash _ _ => s.frontward x f fun s => s.ccClash x f.gen
    | .call _ _ cause _ => s.frontward x f fun s => s.ccCall x f.gen cause
    | .echo id applied => s.frontward x f fun s => s.dcuEcho x f.gen id applied
    | .ret number _ n list => s.frontward x f fun s => s.seReturn x f.gen number n list
    | .confirm n reason entries => s.rearward x fun s => s.ccConfirm x f.gen n reason entries
    | .door id action side first last => s.rearward x fun s => s.dcuDoor x f.gen id action side first last
    | .sweep number flags n list => s.rearward x fun s => s.seSweep x f.gen number flags n list
    | .grant cause number n grants => s.rearward x fun s => s.haGrant x f.gen cause number n grants
    | .pattern _ _ => s.countMalformed x
    | .beat _ => s.countMalformed x
    | .raw _ _ _ => s.countMalformed x

end Sys2Proof.Machine
end

