-- ==== Sys2Proof/Machine/LineOps.lean ====
section
/-! DEFINITION. The receive side of a coupler port (01 sections 1.5 and 1.6): pair health, delivery by link sequence, the
held copy, and what a good or a bad frame that a pair ends does in each port state. -/

namespace Sys2Proof.Machine

/-! ### Link sequences (01 R21) -/

/-- How far sequence a lies after sequence b, modulo 256. -/
def seqDist (a b : Nat) : Nat := (a + 256 - b % 256) % 256

/-- Sequence a is newer than b: it lies 1 to 127 after it. -/
def seqNewer (a b : Nat) : Bool := decide (1 ≤ seqDist a b) && decide (seqDist a b ≤ 127)

/-- A frame's sequence is new against the last delivered sequence (01 R21). -/
def isNew (last : Option Nat) (seq : Nat) : Bool :=
  match last with
  | none => true
  | some l => seqNewer seq l

/-! ### Pair health (01 R18, R19) -/

/-- A pair takes a score; its health state follows with hysteresis (01 R18). -/
def Pair.withScore (x : Pair) (v : Nat) : Pair :=
  { x with score := v, degraded := if x.degraded then v != 0 else decide (12 ≤ v) }

/-- A charge of k, stopping at 15. -/
def Pair.charge (x : Pair) (k : Nat) : Pair := x.withScore (min 15 (x.score + k))

/-- The silence timer starts again; no delivery has been made since (01 R19). -/
def Pair.restartSilence (x : Pair) : Pair := { x with silence := some 0, deliveredSince := false }

/-- A pair ends a good PATTERN frame, or in LOCAL LOOP any good frame: its score falls by one (01 R18). -/
def Pair.goodScore (x : Pair) : Pair := x.withScore (x.score - 1)

/-- The sequences delivered from the other pair's copies that lie after p and before t (01 R19). -/
def missedCount (copies : List Nat) (p t : Nat) : Nat :=
  (copies.filter fun s => decide (0 < seqDist s p) && decide (seqDist s p < seqDist t p)).length

/-- What a good frame with sequence t charges the pair for: the copies it missed, less the bad frames it ended (01 R19). -/
def Pair.missed (x : Pair) (otherCopies : List Nat) (t : Nat) : Nat :=
  match x.lastGood with
  | none => 0
  | some p => missedCount otherCopies p t - x.badSince

/-- A pair of a LINKED port ends a good frame other than PATTERN with sequence t (01 R18, R19): the charge, then the
frame's own reduction, then its last good sequence. -/
def Pair.goodFrame (x : Pair) (otherCopies : List Nat) (t : Nat) : Pair :=
  { (x.charge (4 * x.missed otherCopies t)).goodScore.restartSilence with lastGood := some t, badSince := 0 }

/-- A pair of a LINKED port ends a bad frame (01 R18, R19). -/
def Pair.badFrame (x : Pair) : Pair := { (x.charge 4).restartSilence with badSince := inc8 x.badSince }

/-- The counter of a bad frame's cause (01 R2, R27). -/
def Pair.countBad (x : Pair) (cause : BadCause) : Pair :=
  match cause with
  | .crc => { x with crcErrors := inc16 x.crcErrors }
  | .framing => { x with framingErrors := inc16 x.framingErrors }
  | .length => { x with framingErrors := inc16 x.framingErrors }

/-- The pair returns to discarding characters until the next start marker (01 R2). -/
def Pair.closeFrame (x : Pair) : Pair := { x with inFrame := false }

/-- The held-copy timer restarts when the preferred pair takes a character (01 R22). -/
def Coupler.characterTaken (c : Coupler) (q : PairId) : Coupler :=
  if q = c.preferred ∧ c.held.isSome then { c with heldTimer := some 0 } else c

/-- A pair takes the last character of a good frame (01 R2, R22; log entry 9). -/
def Coupler.frameTaken (c : Coupler) (q : PairId) : Coupler := (c.modPair q Pair.closeFrame).characterTaken q

/-! ### Delivery (01 R21, R22) -/

/-- The bookkeeping of a delivery of sequence seq from pair q: lost frames, L, the delivered copy, and the silence timers'
sign of a delivery (01 R19, R21). -/
def Coupler.deliver (c : Coupler) (q : PairId) (seq : Nat) : Coupler :=
  { (c.modPair q fun x => { x with copies := if seq ∈ x.copies then x.copies else x.copies ++ [seq] }).bothPairs
      fun x => { x with deliveredSince := true } with
    lostFrames := match c.lastDelivered with
      | none => c.lostFrames
      | some l => min 65535 (c.lostFrames + (seqDist seq l - 1)),
    lastDelivered := some seq }

/-- A delivered frame goes to the Neighbour Monitor if it is a BEAT, to the Line Relay otherwise (01 R21, 03 R50). -/
def State.handOn (s : State) (p : PortId) (f : Frame) : State :=
  match f.body with
  | .beat b => s.nmBeat p f.gen b
  | .raw kind _ _ => if kind = 0x02 then s.countInvalidBeat p else s.route p f
  | _ => s.route p f

/-- The port delivers a frame from pair q (01 R21); the neighbour timeout timer restarts (03 R55). -/
def State.deliver (s : State) (p : PortId) (q : PairId) (seq : Nat) (f : Frame) : State :=
  ((s.modCp p fun c => c.deliver q seq).modNm p fun n => { n with timeout := some 0 }).handOn p f

/-- The held copy leaves its slot, undelivered. -/
def State.emptySlot (s : State) (p : PortId) : State := s.modCp p fun c => { c with held := none, heldTimer := none }

/-- The held copy leaves its slot and is delivered (01 R22). -/
def State.deliverHeld (s : State) (p : PortId) : State :=
  match (s.cp p).held with
  | none => s
  | some h => (s.emptySlot p).deliver p h.pair h.seq h.frame

/-- A frame enters the slot and the held-copy timer starts (01 R22). -/
def State.hold (s : State) (p : PortId) (q : PairId) (seq : Nat) (f : Frame) : State :=
  s.modCp p fun c => { c with held := some { seq, pair := q, frame := f }, heldTimer := some 0 }

/-- A frame is delivered if it is new against L as it stands. -/
def State.deliverNew (s : State) (p : PortId) (q : PairId) (seq : Nat) (f : Frame) : State :=
  if isNew (s.cp p).lastDelivered seq then s.deliver p q seq f else s

/-- The preferred pair ends a good frame (01 R21, R22): one that matches the held copy is delivered in its place; before a
newer one the held copy is delivered. -/
def State.receivePreferred (s : State) (p : PortId) (q : PairId) (seq : Nat) (f : Frame) : State :=
  match (s.cp p).held with
  | none => s.deliverNew p q seq f
  | some h =>
    if seq = h.seq then (s.emptySlot p).deliver p q seq f
    else if seqNewer seq h.seq then (s.deliverHeld p).deliverNew p q seq f
    else s.deliverNew p q seq f

/-- The other pair ends a good frame (01 R22): a new one enters the slot, after an earlier held copy is delivered; one whose
sequence the slot holds, or that is earlier than it (log entry 14), is treated as old. -/
def State.receiveOther (s : State) (p : PortId) (q : PairId) (seq : Nat) (f : Frame) : State :=
  if isNew (s.cp p).lastDelivered seq then
    match (s.cp p).held with
    | none => s.hold p q seq f
    | some h => if seqNewer seq h.seq then (s.deliverHeld p).hold p q seq f else s
  else s

/-- Pair q of a LINKED port ends a good frame other than PATTERN: what it makes the port deliver. -/
def State.receive (s : State) (p : PortId) (q : PairId) (seq : Nat) (f : Frame) : State :=
  if q = (s.cp p).preferred then s.receivePreferred p q seq f else s.receiveOther p q seq f

/-! ### Health changes and the preferred pair (01 R18, R20, R22) -/

/-- A pair changes; a change of its health state raises PORT, and a change of the preferred pair delivers the held copy. -/
def State.changePair (s : State) (p : PortId) (q : PairId) (f : Pair → Pair) : State :=
  let s' := s.modCp p fun c => c.modPair q f
  let s'' := s'.raiseIf (((s.cp p).pair q).degraded != ((s'.cp p).pair q).degraded) .port
  if (s'.cp p).preferred = (s.cp p).preferred then s'' else s''.deliverHeld p

/-- The other pair's delivered copies that may still lie ahead of this pair are kept: those after t (log entry 15). -/
def Coupler.pruneCopies (c : Coupler) (q : PairId) (t : Nat) : Coupler :=
  c.modPair (otherPair q) fun x => { x with copies := x.copies.filter fun s => seqNewer s t }

/-! ### Frame ends -/

/-- A pair ends a good frame other than PATTERN. In ALIGNING it is discarded and counted (01 R13), in LOCAL LOOP it changes
the score (01 R25), in LINKED it is delivered by link sequence and then changes the score (log entry 13). -/
def State.goodFrame (s : State) (p : PortId) (q : PairId) (seq : Nat) (f : Frame) : State :=
  if s.framing p q then
    let s1 := s.modCp p fun c => c.frameTaken q
    match (s.cp p).st with
    | .aligning => s1.modCp p fun c => { c with aligningDiscards := inc16 c.aligningDiscards }
    | .loop => s1.changePair p q Pair.goodScore
    | .linked =>
      let s2 := s1.receive p q seq f
      (s2.changePair p q fun x => x.goodFrame ((s2.cp p).pair (otherPair q)).copies seq).modCp p
        fun c => c.pruneCopies q seq
    | .open => s1
    | .faulted => s1
  else s

/-- A pair ends a bad frame (01 R2, R18, R22). -/
def State.badFrame (s : State) (p : PortId) (q : PairId) (cause : BadCause) : State :=
  if s.framing p q then
    let s1 := s.modCp p fun c => c.modPair q fun x => x.closeFrame.countBad cause
    match (s.cp p).st with
    | .loop => s1.changePair p q fun x => x.charge 4
    | .linked =>
      let s2 := if q = (s.cp p).preferred then s1.deliverHeld p else s1
      s2.changePair p q Pair.badFrame
    | .aligning => s1
    | .open => s1
    | .faulted => s1
  else s

/-- A PATTERN frame that is due in LINKED goes out, unless the port has sent one in the preceding 10 ms (01 R13). -/
def State.answerPattern (s : State) (p : PortId) : State :=
  if (s.cp p).answerGuard.isSome then s else (s.modCp p fun c => { c with patternDue := true }).kickLine p

/-- What a good PATTERN frame changes in the pair that ends it, whatever it carries (01 R2, R18, R19, R25). -/
def State.patternScore (s : State) (p : PortId) (q : PairId) : State :=
  let s1 := s.modCp p fun c => c.frameTaken q
  match (s.cp p).st with
  | .loop => s1.changePair p q Pair.goodScore
  | .linked => s1.changePair p q fun x => x.goodScore.restartSilence
  | .aligning => s1
  | .open => s1
  | .faulted => s1

/-- A pair ends a good PATTERN frame (01 R11, R13, R18, R25). -/
def State.goodPattern (s : State) (p : PortId) (q : PairId) (ready : Bool) (rate : Nat) : State :=
  if s.framing p q then
    let s1 := s.patternScore p q
    match (s.cp p).st with
    | .aligning => if ready = true ∧ rate = (s.cp p).rate then s1.enterLinked p else s1
    | .linked =>
      if rate ≠ (s.cp p).rate then s1
      else if ready then s1.answerPattern p
      else s1.portToOpen p .realign
    | .loop => s1
    | .open => s1
    | .faulted => s1
  else s

/-- A pair ends a good frame of kind PATTERN whose payload length is not a PATTERN's: it names neither a rate nor a ready flag, and
is discarded without counting (01 R13, log entry 31). -/
def State.oddPattern (s : State) (p : PortId) (q : PairId) : State := if s.framing p q then s.patternScore p q else s

/-- A good frame of arbitrary header and payload: one of kind PATTERN is CP's, all else a frame other than PATTERN (01 R13, log
entry 31). -/
def State.anyFrame (s : State) (p : PortId) (q : PairId) (seq : Nat) (f : Frame) : State :=
  match f.body with
  | .pattern ready rate => s.goodPattern p q ready rate
  | .raw kind _ _ => if kind = 0x01 then s.oddPattern p q else s.goodFrame p q seq f
  | _ => s.goodFrame p q seq f

/-! ### LOCAL LOOP (01 R25) -/

/-- In LOCAL LOOP a PATTERN frame the port has sent ends at each pair that still frames it. -/
def State.loopBack (s : State) (p : PortId) (q : PairId) (ready : Bool) (rate : Nat) : State :=
  if (s.cp p).localLoop && ((s.cp p).pair q).inFrame then s.goodPattern p q ready rate else s

end Sys2Proof.Machine
end

