-- ==== Sys2Proof/Machine/Replies.lean ====
section
/-! DEFINITION. The fields of the replies and notices the part forms (09 R171, R176 to R179; 11 R186): each rule's list, in
its order, in the encoding of 11 R185 and R186. Log entries 11 and 26 name the codes and layouts that are a reading. -/

namespace Sys2Proof.Machine

/-- A flag that stands alone in a byte. -/
def flagByte (b : Bool) : List Nat := [flagCode b]

/-- A level of an output, or of TRAIN-CLOSED: low 0, high 1 (07 R125). -/
def levelByte (b : Bool) : List Nat := [flagCode b]

/-- Whether a timer runs. -/
def runningByte (t : Timer) : List Nat := [flagCode t.isSome]

/-- A list is preceded by the number of its items (11 R186). -/
def counted (l : List (List Nat)) : List Nat := byte1 l.length ++ l.flatten

/-- A field that may be absent: a presence byte, then its bytes, each 0 when it is absent (11 R186). -/
def present (width : Nat) (o : Option (List Nat)) : List Nat :=
  match o with
  | none => 0 :: List.replicate width 0
  | some l => 1 :: l

/-- A set of leaves. -/
def leafSetByte (v : LeafSet) : List Nat := byte1 v.toNat

/-- A set of notice kinds: two bytes. -/
def noticeSetBytes (v : NoticeSet) : List Nat := byte2 v.toNat

/-- The link rate: 115200 is 0, 460800 is 1 (09 R167, log entry 11). -/
def rateByte (high : Bool) : List Nat := [flagCode high]

/-- A health state: GOOD 0, DEGRADED 1 (01 R5). -/
def healthByte (degraded : Bool) : List Nat := [flagCode degraded]

/-- A debounced coupler sense: coupled 0, uncoupled 1 (03 R57, log entry 11). -/
def senseByte (coupled : Bool) : List Nat := [flagCode (!coupled)]

/-- A debounced leaf level: closed 0, open 1 (07 R120, log entry 11). -/
def leafLevelByte (closed : Bool) : List Nat := [flagCode (!closed)]

/-! ### Identity (09 R176) -/

def State.identityFields (s : State) : List Nat :=
  serialBytes s.sys.serial ++ [resetCauseCode s.sys.cause] ++ rateByte s.hl.rateHigh ++ noticeSetBytes s.hl.mask ++
    byte1 s.hl.slots.length ++ byte2 s.hl.frameTimeouts ++ byte2 s.hl.crcErrors ++ byte2 s.hl.charFraming ++
    byte2 s.hl.overlength ++ byte2 s.hl.droppedReqs

/-! ### Ports (01 R27, 02 R45, 03 R59, 09 R179) -/

/-- A pair as Get Port reads it (01 R27). -/
def Pair.fields (x : Pair) : List Nat :=
  [pairStateCode x.st] ++ byte1 x.phase ++ byte1 x.score ++ healthByte x.degraded ++ flagByte x.brk ++
    byte2 x.falseStarts ++ byte2 x.framingErrors ++ byte2 x.crcErrors ++ byte2 x.breaks

/-- A coupler port as Get Port reads it, pair A before pair B (01 R27, log entry 26). -/
def Coupler.fields (c : Coupler) : List Nat :=
  [portStateCode c.st] ++ byte1 c.rate ++ byte1 c.activeMax ++ byte1 c.stagedMax ++ flagByte c.rateCapped ++
    flagByte c.rateSettled ++ [stepCode c.step, loopModeCode c.loopMode, openCauseCode c.openCause] ++
    flagByte c.degradedPair ++ flagByte c.impaired ++ [pairCode c.preferred] ++ c.pairA.fields ++ c.pairB.fields ++
    byte2 c.lostFrames ++ byte2 c.aligningDiscards

/-- A port's Line Relay as Get Port reads it (02 R45). -/
def Relay.fields (r : Relay) : List Nat :=
  byte1 r.overrun ++ byte2 r.misroute ++ byte2 r.malformed ++ byte2 r.dropped ++ byte2 r.stale ++
    byte1 r.control.frames.length ++ byte1 r.door.frames.length ++ byte1 r.grant.frames.length ++
    byte1 r.sweep.frames.length ++ byte1 r.beat.frames.length ++ flagByte r.slot.isSome

/-- A neighbour or candidate record (03 R49): eight bytes. -/
def NbrRecord.fields (r : NbrRecord) : List Nat :=
  serialBytes r.serial ++ [portNumber r.farPort, nodeStateCode r.farNode] ++ flagByte r.farLead ++ byte1 r.farGen

def nbrRecordFields (o : Option NbrRecord) : List Nat := present 8 (o.map NbrRecord.fields)

/-- A port's Neighbour Monitor as Get Port reads it (03 R59). -/
def Nbr.fields (n : Nbr) : List Nat :=
  [nbrStatusCode n.status] ++ nbrRecordFields n.record ++ nbrRecordFields n.candidate ++ senseByte n.sense ++
    byte2 n.invalidBeats ++ byte2 n.changes

/-- Get Port. -/
def Port.fields (x : Port) : List Nat := x.cp.fields ++ x.lr.fields ++ x.nm.fields

/-- One port in the PORT notice, pair A before pair B (09 R179, log entry 26). -/
def Coupler.noticeFields (c : Coupler) : List Nat :=
  [portStateCode c.st] ++ byte1 c.rate ++ [openCauseCode c.openCause, loopModeCode c.loopMode, pairCode c.preferred] ++
    flagByte c.degradedPair ++ flagByte c.impaired ++ [pairStateCode c.pairA.st] ++ healthByte c.pairA.degraded ++
    [pairStateCode c.pairB.st] ++ healthByte c.pairB.degraded

/-- One port in the NEIGHBOUR notice (03 R59). -/
def Nbr.noticeFields (n : Nbr) : List Nat := [nbrStatusCode n.status] ++ nbrRecordFields n.record

/-! ### Node, walk and sweep (04 R73, 05 R100, 06 R119) -/

/-- Get Node. -/
def State.nodeFields (s : State) : List Nat :=
  [nodeStateCode s.cc.node] ++ optPort s.cc.claim ++ byte1 s.cc.gen ++ optByte s.cc.position ++
    [orientationCode s.cc.orientation] ++ optPort s.cc.front ++ [exitCauseCode s.cc.lastExit] ++
    runningByte s.cc.confirmTimer ++ runningByte s.cc.silenceTimer ++ levelByte s.thruHold ++
    [walkStateCode s.cc.walk] ++ runningByte s.cc.settleTimer ++ runningByte s.cc.walkTimer ++
    byte1 s.cc.records.length ++ flagByte s.cc.callHeld ++ [leadCauseCode s.cc.leadCause] ++
    byte2 s.se.interval ++ optByte s.se.lastLaunched ++ optByte s.se.outstanding ++ flagByte s.se.launchDue ++
    flagByte s.se.refresh ++ byte1 s.se.lostRow ++ byte2 s.se.lostSweeps ++ byte2 s.se.coverageFailures ++
    byte2 s.se.staleReturns ++ optByte s.se.lastSeen ++ flagByte s.se.gap

/-- An item of Get Consist (11 R186): the entry, and at a claimant the decoded record held and the demand of its position. -/
def State.consistItem (s : State) (e : Entry) : List Nat :=
  if s.cc.claim.isSome then
    entryBytes e ++
      (match s.se.lastFull.getD (e.position - 1) none with
        | some r => r.bytes
        | none => List.replicate 6 0) ++
      byte1 (at1 s.se.demand e.position)
  else entryBytes e

/-- Get Consist from a start position: up to 16 entries (04 R73). -/
def State.consistFields (s : State) (start : Nat) : List Nat :=
  byte1 s.consistN ++ byte1 s.cc.table.gen ++ [reasonCode s.cc.table.reason] ++
    counted (((s.cc.table.entries.drop (start - 1)).take 16).map s.consistItem)

/-! ### Doors (07 R144) -/

/-- A result of the result list (07 R138). DEDUCED: first and last, absent together, are two numbers, each 0xFF when absent, and no
group behind a presence byte (11 R186, log entry 26). -/
def DoorResult.fields (r : DoorResult) : List Nat :=
  byte1 r.cmd.id ++ [actionCode r.cmd.action, trainSideCode r.cmd.side] ++ byte1 r.cmd.window ++
    optByte (r.range.map Prod.fst) ++ optByte (r.range.map Prod.snd) ++ [endingCode r.ending] ++
    present 4 (r.applied.map posSetBytes) ++ flagByte r.cmd.automatic

def State.resultFields (s : State) : List Nat := counted (s.dcu.results.map DoorResult.fields)

/-- A command of the door queue. -/
def DoorCmd.fields (c : DoorCmd) : List Nat :=
  byte1 c.id ++ [actionCode c.action, trainSideCode c.side] ++ byte1 c.window ++ flagByte c.automatic

/-- The command in flight: first, last, expected set, echo timer running; absent with none in flight. -/
def Doors.flightFields (d : Doors) : List Nat :=
  present 7 (d.inFlight.map fun f => byte1 f.first ++ byte1 f.last ++ posSetBytes f.expected ++ runningByte d.echoTimer)

def Window.fields (w : Window) : List Nat :=
  [anchorCode w.anchor] ++ byte1 w.offset ++ byte1 w.count ++ flagByte w.enabled

/-- The last door record: generation, id, applied flag. -/
def DoorRecord.fields (r : DoorRecord) : List Nat := byte1 r.gen ++ byte1 r.id ++ flagByte r.applied

/-- The considered leaves of a coach side with k leaves, as a set. DEDUCED: leaf n of the side is bit n − 1, so that LEAF-5 to LEAF-8 of
side 2 stand in bits 0 to 3 (11 R186, log entry 26). -/
def consideredByte (k : Nat) : List Nat := byte1 (2 ^ k - 1)

/-- Get Door Results. DEDUCED: the four windows and the eight leaf levels are fixed groups, sent without a count (11 R186, log
entry 26). -/
def State.doorFields (s : State) : List Nat :=
  s.resultFields ++ counted (s.dcu.queue.map DoorCmd.fields) ++ s.dcu.flightFields ++ byte1 s.dcu.lastId ++
    flagByte s.dcu.standstill ++ levelByte s.dcu.trainClosed ++ flagByte s.dcu.fence ++ byte2 s.dcu.lateEchoes ++
    s.dcu.windows.flatMap Window.fields ++ s.dcu.leaves.flatMap (fun l => leafLevelByte l.closed) ++
    leafSetByte s.dcu.isolated ++ consideredByte s.cc.coach.leaves1 ++ consideredByte s.cc.coach.leaves2 ++
    runningByte s.dcu.openTimer ++ elapsedBytes s.dcu.openTimer ++ flagByte s.dcu.boost ++ flagByte s.localClosed ++
    flagByte s.dcu.release1 ++ flagByte s.dcu.release2 ++ present 3 (s.dcu.lastDoor.map DoorRecord.fields)

/-! ### Heating (08 R164, R165) -/

/-- The last GRANT taken: generation, cause, sweep number. -/
def GrantTaken.fields (g : GrantTaken) : List Nat := byte1 g.gen ++ [grantCauseCode g.cause] ++ optByte g.number

def State.takenFields (s : State) : List Nat := present 3 (s.ha.lastTaken.map GrantTaken.fields)

/-- The grants of positions 1 to N; N is 0 at a node without a lead claim (08 R165). -/
def State.grantsOfN (s : State) : List Nat := if s.cc.claim.isSome then s.ha.grants.take s.consistN else []

/-- The ramp-below-step indication (08 R165). -/
def State.rampBelowStep (s : State) : Bool := s.operationalLeader && s.powers.all fun p => decide (s.ha.ramp < p)

/-- The age of a trip: the ticks counted since it (10 R180). -/
def State.tripAge (s : State) (t : Nat) : List Nat := elapsedBytes (some (s.sys.ticks - t))

/-- Get Heating. -/
def State.heatingFields (s : State) : List Nat :=
  byte1 s.ha.level ++ flagByte s.dcu.boost ++ byte1 s.nodeDemand ++ byte1 s.ha.held ++ runningByte s.ha.watchdog ++
    s.takenFields ++ levelByte s.heatEnable ++ byte2 s.ha.capacity ++ byte2 s.ha.ramp ++ byte1 s.ha.rotation ++
    counted (s.grantsOfN.map byte1) ++ byte2 (totalPower s.grantsOfN s.powers) ++ runningByte s.ha.holdOff ++
    elapsedBytes s.ha.holdOff ++ flagByte s.ha.lockout ++ counted (s.ha.trips.map s.tripAge) ++
    present 2 (s.ha.lastIssued.map fun g => [grantCauseCode g.1] ++ optByte g.2) ++ levelByte s.supplyEnable ++
    flagByte s.rampBelowStep

/-! ### Notices (04 R73, 05 R100, 03 R59, 09 R179, 07 R144, 08 R164, 06 R119) -/

/-- The payload of a notice, from the state as it stands. DEDUCED: the two ports of the PORT and NEIGHBOUR notices are fixed groups
without a count, port 1 first, and in the PORT notice each port's two pairs are, pair A first (09 R179, 03 R59, log entry 26). -/
def State.noticeFields (s : State) : Notice → List Nat
  | .consist =>
    [nodeStateCode s.cc.node] ++ byte1 s.cc.gen ++ optByte s.cc.position ++ byte1 s.consistN ++
      [reasonCode s.cc.table.reason, exitCauseCode s.cc.lastExit]
  | .lead =>
    optPort s.cc.claim ++ [leadCauseCode s.cc.leadCause, walkStateCode s.cc.walk, nodeStateCode s.cc.node]
  | .neighbour => s.port1.nm.noticeFields ++ s.port2.nm.noticeFields
  | .port => s.port1.cp.noticeFields ++ s.port2.cp.noticeFields
  | .closed =>
    levelByte s.dcu.trainClosed ++ present 2 (s.se.summary.map fun m => byte1 m.gen ++ byte1 m.number)
  | .doorResult => s.resultFields
  | .release => flagByte s.dcu.release1 ++ flagByte s.dcu.release2 ++ [nodeStateCode s.cc.node]
  | .supply =>
    levelByte s.supplyEnable ++ runningByte s.ha.holdOff ++ elapsedBytes s.ha.holdOff ++ flagByte s.ha.lockout ++
      byte1 s.ha.trips.length
  | .grant =>
    byte1 s.ha.held ++ runningByte s.ha.watchdog ++ levelByte s.heatEnable ++ s.takenFields ++ byte1 s.ha.level ++
      byte1 s.nodeDemand
  | .sweepLost =>
    (match s.se.lastLost with
      | some l => byte1 l.gen ++ byte1 l.number ++ [lossCauseCode l.cause]
      | none => [0, 0xFF, 0]) ++ byte1 s.se.lostRow
  | .leaf =>
    s.dcu.leaves.flatMap (fun l => leafLevelByte l.closed) ++ leafSetByte s.dcu.isolated ++ flagByte s.dcu.boost ++
      flagByte s.localClosed
  | .start =>
    [resetCauseCode s.sys.cause] ++ serialBytes s.sys.serial ++ rateByte s.hl.rateHigh ++ noticeSetBytes s.hl.mask

/-! ### The message a transmitter sends, as bytes (11 R186) -/

/-- The bytes of a reply. -/
def Reply.wire (r : Reply) : List Nat := messageWire r.kind r.tag (statusCode r.status :: r.fields)

/-- The bytes of the message in transmission on the host link. -/
def State.hostTxBytes (s : State) : List Nat :=
  match s.hl.tx with
  | none => []
  | some .busy => (s.hl.refusal.map Reply.wire).getD []
  | some .reply => (s.hl.replies.head?.map Reply.wire).getD []
  | some (.notice k payload) => messageWire (noticeCode k) 0 payload

/-- The bytes of the frame a port's transmitter is sending, the same on both pairs (01 R4). -/
def State.lineTxBytes (s : State) (p : PortId) : List Nat :=
  match (s.lr p).tx with
  | none => []
  | some (.pattern ready rate) => Frame.wire { gen := 0, body := .pattern ready rate } 0
  | some (.frame _ seq f _) => f.wire seq

end Sys2Proof.Machine
end

