-- ==== Sys2Proof/Machine/HostOps.lean ====
section
/-! DEFINITION. The Host Link (09): arrival of a request, its checks, the reply, the transmitter's choice, and what each
request does to its owner. -/

namespace Sys2Proof.Machine

/-! ### Transmitter (09 R172, R178) -/

/-- The notice kinds in the fixed order of 09 R178. -/
def noticeOrder : List Notice :=
  [.consist, .lead, .neighbour, .port, .closed, .doorResult, .release, .supply, .grant, .sweepLost, .leaf, .start]

/-- The kind's pending flag is set. -/
def HostLink.flagged (h : HostLink) (k : Notice) : Bool := h.notices.getLsbD (noticeBit k)

/-- The first kind whose flag is set (09 R178). -/
def HostLink.nextNotice (h : HostLink) : Option Notice := noticeOrder.find? h.flagged

/-- A notice starts: its flag is cleared and its content is taken (09 R178). -/
def State.startNotice (s : State) (k : Notice) : State :=
  s.modHl fun h => { h with notices := h.notices &&& ~~~noticeSet k, tx := some (.notice k (s.noticeFields k)) }

/-- The transmitter may choose: the part runs with its clock, HOST-TX has settled, and no message is in transmission
(09 R172, 10 R184). -/
def State.hostTxIdle (s : State) : Bool := s.running && s.clocked && !s.hl.txHold && s.hl.tx.isNone

/-- An idle transmitter chooses the next message: the BUSY reply, the head of the reply queue, or a notice, which is not
sent while a soft reset is pending (09 R172, R173). -/
def State.hostKick (s : State) : State :=
  if s.hostTxIdle then
    if s.hl.refusal.isSome then s.modHl fun h => { h with tx := some .busy }
    else if s.hl.replies ≠ [] then s.modHl fun h => { h with tx := some .reply }
    else if s.hl.resetPending then s
    else
      match s.hl.nextNotice with
      | none => s
      | some k => s.startNotice k
  else s

/-- The event's effects are complete: the transmitter chooses if it is idle (log entry 29). -/
def State.done (s : State) : Host.Outcome State Fault Refusal := .next s.hostKick

/-! ### Arrival and reply (09 R170, R171, R174) -/

/-- The payload length of each request kind (09 R174); none for a kind that names no request. -/
def requestBytes : Nat → Option Nat
  | 0x01 => some 0
  | 0x02 => some 4
  | 0x03 => some 1
  | 0x04 => some 0
  | 0x05 => some 0
  | 0x06 => some 1
  | 0x07 => some 0
  | 0x08 => some 5
  | 0x09 => some 3
  | 0x0A => some 0
  | 0x0B => some 1
  | 0x0C => some 1
  | 0x0D => some 5
  | 0x0E => some 0
  | 0x0F => some 0
  | 0x10 => some 2
  | 0x11 => some 4
  | 0x12 => some 1
  | 0x13 => some 1
  | 0x14 => some 0
  | 0x15 => some 0
  | 0x16 => some 2
  | 0x17 => some 0
  | _ => none

/-- An owner's answer: the state after the request's effects, the status, and the reply fields after it. -/
structure Answer where
  state  : State
  status : Status
  fields : List Nat
  deriving DecidableEq, Repr

/-- The request is refused with a status and changes nothing. -/
def State.refuse (s : State) (status : Status) : Answer := { state := s, status, fields := [] }

/-- The request is accepted: its reply fields are taken from the state after its effects (09 R171). -/
def State.accept (s : State) (fields : State → List Nat) : Answer := { state := s, status := .ok, fields := fields s }

/-- No reply fields. -/
def noFields (_ : State) : List Nat := []

/-- The frame that brought the request has ended: the assembler hunts, the frame timer stops (09 R169). -/
def HostLink.hunt (h : HostLink) : HostLink := { h with assembler := none, frameTimer := none }

/-- The checks of 09 R171 in their order: kind, length, owner. -/
def State.answer (s : State) (kind : Nat) (payload : List Nat) (owner : State → Answer) : Answer :=
  match requestBytes kind with
  | none => s.refuse .unknown
  | some n => if payload.length = n then owner s else s.refuse .length

/-- A request takes a slot and is handled; its reply joins the tail of the reply queue (09 R170, R171). -/
def State.takeRequest (s : State) (kind tag : Nat) (payload : List Nat) (owner : State → Answer) : State :=
  let a := (s.modHl fun h => { h with slots := h.slots ++ [{ kind, tag, payload }] }).answer kind payload owner
  a.state.modHl fun h => { h with replies := h.replies ++ [{ kind, tag, status := a.status, fields := a.fields }] }

/-- A request arrives at the end of the frame in the assembler (09 R169, R170): a slot is free; or all are held and it is refused
BUSY; or it is dropped and counted. A request that is not received, or whose bytes are hunted, changes nothing (log entry 8). -/
def State.request (s : State) (kind tag : Nat) (payload : List Nat) (owner : State → Answer) : State :=
  if s.hostFraming then
    let s1 := s.modHl HostLink.hunt
    if s1.hl.slots.length < 4 then s1.takeRequest kind tag payload owner
    else if s1.hl.refusal.isNone then
      s1.modHl fun h => { h with refusal := some { kind, tag, status := .busy, fields := [] } }
    else s1.modHl fun h => { h with droppedReqs := inc16 h.droppedReqs }
  else s

/-! ### Consist Controller requests (04, 05) -/

/-- A change of the coach record acts on the node state (04 R75). -/
def State.coachChanged (s : State) : State :=
  match s.cc.claim, s.cc.node with
  | none, .provisional => (s.suspend .coach).emitCall callCoach 0
  | none, .operational => (s.suspend .coach).emitCall callCoach 0
  | some _, .provisional => ((s.modCc Consist.abandonWalk).suspend .coach).walkTrigger
  | some _, .operational => (s.suspend .coach).walkTrigger
  | _, .detached => s
  | _, .suspended => s
  | _, .isolated => s

/-- Set Coach (04 R74, R75; 07 R122). -/
def State.reqSetCoach (s : State) (cls l1 l2 sp : Nat) : Answer :=
  if 15 < cls ∨ 4 < l1 ∨ 4 < l2 ∨ sp = 0 ∨ 40 < sp then s.refuse .range
  else
    let coach : Coach := { cls, leaves1 := l1, leaves2 := l2, stepPower := sp }
    if s.cc.coach = coach then s.accept noFields
    else ((s.modCc fun c => { c with coach }).coachChanged.examineOpen).accept noFields

/-- A claim is accepted at a cab end (05 R80, 04 R69). -/
def State.acceptClaim (s : State) (e : PortId) : State :=
  (((s.suspend .claim).modCc fun c =>
    { c with claim := some e, front := some e, orientation := some (orientationOf e),
             leadCause := .claimed }).raise .lead).walkTrigger

/-- Claim Lead (05 R80). -/
def State.reqClaimLead (s : State) (cabEnd : Nat) : Answer :=
  match portOfNumber cabEnd with
  | none => s.refuse .range
  | some e =>
    if s.cc.node = .isolated ∨ s.hasNeighbour e then s.refuse .state
    else
      match s.cc.claim with
      | none => (s.acceptClaim e).accept noFields
      | some held => if held = e then s.walkTrigger.accept noFields else s.refuse .state

/-- Drop Lead (05 R81, 04 R69). -/
def State.reqDropLead (s : State) : Answer :=
  if s.cc.claim.isSome then ((s.suspend .drop).endClaim .dropped).accept noFields else s.refuse .notLead

/-- Start Inauguration (05 R99). -/
def State.reqStartInauguration (s : State) : Answer :=
  if s.cc.claim.isSome then s.walkTrigger.accept fun t => [walkStateCode t.cc.walk] else s.refuse .notLead

/-- Get Consist (04 R73). -/
def State.reqGetConsist (s : State) (start : Nat) : Answer :=
  if start = 0 ∨ 32 < start then s.refuse .range else s.accept fun t => t.consistFields start

/-- The Consist Controller's part of an entry to ISOLATED (04 R76). -/
def Consist.isolate (c : Consist) : Consist :=
  { c with node := .isolated, confirmTimer := none, silenceTimer := none, table := Table.empty, gen := 0,
           position := none, orientation := none, front := none }

/-- The node leaves PROVISIONAL or OPERATIONAL for ISOLATED, and a claim is dropped (04 R76). -/
def State.leaveForIsolation (s : State) : State :=
  let s1 :=
    match s.cc.node with
    | .operational => s.leaveOperational .isolated .isolation
    | .provisional => s.modCc fun c => { c with lastExit := .isolation }
    | .detached => s
    | .suspended => s
    | .isolated => s
  if s.cc.claim.isSome then s1.endClaim .isolation else s1

/-- Enter Isolation (04 R76): THRU-HOLD falls and both ports enter OPEN with cause HOLD. -/
def State.reqEnterIsolation (s : State) : Answer :=
  if s.cc.node = .isolated then s.accept noFields
  else
    (((s.leaveForIsolation.startPosition.modCc Consist.isolate).portToOpen .p1 .hold).portToOpen .p2 .hold).accept
      noFields

/-- Leave Isolation (04 R77). -/
def State.reqLeaveIsolation (s : State) : Answer :=
  if s.cc.node = .isolated then
    (((s.modCc fun c => { c with node := .detached }).leaveOpen .p1).leaveOpen .p2).accept noFields
  else s.refuse .state

/-! ### Door Control Unit requests (07) -/

/-- Set Window (07 R126, 09 R174). -/
def State.reqSetWindow (s : State) (index anchor offset count enabled : Nat) : Answer :=
  match anchorOfCode anchor, flagOfCode enabled with
  | some a, some e =>
    if index = 0 ∨ 4 < index ∨ 31 < offset ∨ count = 0 ∨ 32 < count then s.refuse .range
    else
      (s.modDcu fun d =>
        { d with windows := d.windows.set (index - 1) { anchor := a, offset, count, enabled := e } }).accept noFields
  | _, _ => s.refuse .range

/-- The window index of a command names window 0 or an enabled window (07 R128). -/
def Doors.windowUsable (d : Doors) (index : Nat) : Bool :=
  match index with
  | 0 => true
  | k + 1 => decide (k < 4) && (d.windows.getD k Window.default).enabled

/-- An accepted command joins the queue with the next id, and is dispatched if the queue was empty (07 R128). -/
def State.queueDoor (s : State) (action : Action) (side : TrainSide) (window : Nat) : State :=
  let id := (s.dcu.lastId + 1) % 16
  let s' := s.modDcu fun d =>
    { d with lastId := id, queue := d.queue ++ [{ id, action, side, window, automatic := false }] }
  if s.dcu.queue = [] then s'.dispatchQueue else s'

/-- Door Command (07 R128). -/
def State.reqDoorCommand (s : State) (action side window : Nat) : Answer :=
  if !s.operationalLeader then s.refuse .notLead
  else
    match actionOfCode action, trainSideOfCode side with
    | some a, some t =>
      if (a = .release ∧ t = .both) ∨ s.dcu.windowUsable window = false then s.refuse .range
      else if a = .release ∧ s.dcu.standstill = false then s.refuse .notStandstill
      else if 4 ≤ s.dcu.queue.length then s.refuse .queueFull
      else
        let id := (s.dcu.lastId + 1) % 16
        (s.queueDoor a t window).accept fun _ => byte1 id
    | _, _ => s.refuse .range

/-- Set Standstill (07 R140): on 0, off 1 (log entry 11). -/
def State.reqSetStandstill (s : State) (value : Nat) : Answer :=
  match standstillOfCode value with
  | none => s.refuse .range
  | some true => (s.modDcu fun d => { d with standstill := true }).accept noFields
  | some false =>
    let s' := s.modDcu fun d => { d with standstill := false }
    (if s.dcu.standstill && s.operationalLeader && s.releaseKnown then s'.withdrawStandstill else s').accept noFields

/-- Isolate Leaves (07 R122). -/
def State.reqIsolateLeaves (s : State) (set : Nat) : Answer :=
  let v : LeafSet := BitVec.ofNat 8 set
  if s.dcu.isolated = v then s.accept noFields
  else (((s.modDcu fun d => { d with isolated := v }).raise .leaf).examineOpen).accept noFields

/-! ### Heating Allocator requests (08) -/

/-- Set Heat Level (08 R146). -/
def State.reqSetHeatLevel (s : State) (level : Nat) : Answer :=
  (s.modHa fun h => { h with level := min 7 level }).accept fun t => byte1 t.ha.level

/-- A standing lockout is cleared with the trip history, and SUPPLY is raised (08 R152). -/
def State.clearLockout (s : State) : State :=
  if s.ha.lockout then (s.modHa fun h => { h with lockout := false, trips := [] }).raise .supply else s

/-- Set Supply (08 R152). -/
def State.reqSetSupply (s : State) (capacity ramp clear : Nat) : Answer :=
  match flagOfCode clear with
  | none => s.refuse .range
  | some c =>
    if s.ha.lockout && !c then s.refuse .lockedOut
    else
      let s1 := s.modHa fun h => { h with capacity := min 4000 capacity, ramp := max 1 (min 400 ramp) }
      let s2 := if c then s1.clearLockout else s1
      s2.shedAtSupply.accept fun t => byte2 t.ha.capacity ++ byte2 t.ha.ramp

/-- Supply Trip (08 R161). -/
def State.reqSupplyTrip (s : State) : Answer :=
  if s.cc.claim.isSome then
    let s1 := s.zeroGrants
    let s2 := if s.cc.node = .operational then s1.issueGrant .trip s1.lastSweepNumber else s1
    (((s2.modHa fun h => { h with holdOff := some 0 }).recordTrip).raise .supply).accept noFields
  else s.refuse .notLead

/-! ### Sweep Engine and coupler port requests (06, 01) -/

/-- The sweep interval applied for a requested one (06 R106). -/
def appliedInterval (v : Nat) : Nat := if v < 50 then 50 else if 1000 < v then 1000 else v / 10 * 10

/-- Set Sweep Interval (06 R106). -/
def State.reqSetSweepInterval (s : State) (v : Nat) : Answer :=
  (s.modSe fun e => { e with interval := appliedInterval v }).accept fun t => byte2 t.se.interval

/-- The loop mode of Set Port is applied (01 R24): a changed one sends the port through OPEN. -/
def State.applyLoopMode (s : State) (p : PortId) (m : LoopMode) : State :=
  if (s.cp p).loopMode = m then s
  else
    let s' := s.modCp p fun c => { c with loopMode := m }
    if (s.cp p).st = .open then s'.leaveOpen p else s'.portToOpen p .loop

/-- The force-realign flag of Set Port (01 R17). -/
def State.forceRealign (s : State) (p : PortId) : State :=
  match (s.cp p).st with
  | .linked => s.portToOpen p .realign
  | .aligning => s.portToOpen p .realign
  | .faulted => s.portToOpen p .realign
  | .open => s
  | .loop => s

/-- The node states in which a loop mode other than NORMAL is accepted (01 R24). -/
def NodeState.allowsLoop : NodeState → Bool
  | .detached => true
  | .suspended => true
  | .isolated => true
  | .provisional => false
  | .operational => false

/-- An accepted Set Port: maximum rate, loop mode, force realign, in that order (09 R175). DEDUCED: a port that is already in OPEN keeps
its active maximum too, until it next enters OPEN, also where a new loop mode takes it from OPEN to LOOP (01 R17, R25; log entry 41). -/
def State.applySetPort (s : State) (p : PortId) (m : LoopMode) (rate : Nat) (force : Bool) : State :=
  let s1 := (s.modCp p fun c => { c with stagedMax := rate }).applyLoopMode p m
  if force && decide ((s.cp p).loopMode = m) then s1.forceRealign p else s1

/-- The fields of a Set Port reply (09 R175). -/
def Coupler.setPortFields (c : Coupler) : List Nat :=
  [portStateCode c.st, loopModeCode c.loopMode] ++ byte1 c.activeMax ++ byte1 c.stagedMax

/-- Set Port, with its checks in their order (09 R175). -/
def State.reqSetPort (s : State) (port mode rate force : Nat) : Answer :=
  match portOfNumber port, loopModeOfCode mode, flagOfCode force with
  | some p, some m, some f =>
    if 2 < rate then s.refuse .range
    else if m ≠ .normal ∧ s.cc.node.allowsLoop = false then s.refuse .state
    else (s.applySetPort p m rate f).accept fun t => (t.cp p).setPortFields
  | _, _, _ => s.refuse .range

/-- Get Port (09 R174). -/
def State.reqGetPort (s : State) (port : Nat) : Answer :=
  match portOfNumber port with
  | none => s.refuse .range
  | some p => s.accept fun t => (t.port p).fields

/-! ### Host Link requests (09 R173, R177) -/

/-- Set Notices (09 R177): a mask of more than the twelve kinds is refused. -/
def State.reqSetNotices (s : State) (mask : Nat) : Answer :=
  if 4096 ≤ mask then s.refuse .range
  else
    (s.modHl fun h => { h with mask := BitVec.ofNat 12 mask, notices := h.notices &&& BitVec.ofNat 12 mask }).accept
      noFields

/-- Soft Reset (09 R173). -/
def State.reqSoftReset (s : State) : Answer := (s.modHl fun h => { h with resetPending := true }).accept noFields

end Sys2Proof.Machine
end

