-- ==== Sys2Proof/Machine/ResetOps.lean ====
section
/-! DEFINITION. Resets, the start-up initialisation and the ends of host messages (10 R181 to R184, 09 R172, R173). -/

namespace Sys2Proof.Machine

/-! ### Power-on and hard reset (10 R181) -/

/-- A port's values in a power-on or hard reset; the raw coupler input is a pin and stays. -/
def Port.hardReset (x : Port) : Port := { Port.reset with nm := { Nbr.reset with raw := x.nm.raw } }

/-- A leaf input in a power-on or hard reset: no timer runs, and the debounced level is taken from the raw level. -/
def Leaf.take (l : Leaf) : Leaf := { raw := l.raw, closed := l.raw, stab := none }

/-- Every block takes its power-on and hard reset values; the pins, the serial, the clock and the queue of waiting commands
stay; the Timebase count is held at zero (10 R180, R181). -/
def State.hardReset (s : State) : State :=
  { State.reset with
    sys := { s.sys with init := none, ticks := 0 },
    port1 := s.port1.hardReset, port2 := s.port2.hardReset,
    dcu := { Doors.reset with leaves := s.dcu.leaves.map Leaf.take },
    pending := s.pending }

/-- VDD falls below the threshold: the part is in power-on reset, cause POWER (10 R181). -/
def State.powerDown (s : State) : State :=
  s.hardReset |> fun t => { t with sys := { t.sys with porAsserted := true, cause := .power } }

/-- RESET_N is taken as asserted: hard reset, with cause PIN unless a power-on reset stands (10 R181). -/
def State.assertPin (s : State) : State :=
  s.hardReset |> fun t =>
    { t with sys := { t.sys with pinAsserted := true, cause := if s.sys.porAsserted then .power else .pin } }

/-! ### Release (10 R182) -/

/-- A leaf input at the release: its level is taken and its stability timer starts (07 R120). -/
def Leaf.release (l : Leaf) : Leaf := { raw := l.raw, closed := l.raw, stab := some 0 }

/-- The coupler-sense stability timer starts at the release (03 R57). -/
def Port.startSense (x : Port) : Port := { x with nm := { x.nm with stab := some 0 } }

/-- The release of the last reset that stands: the initialisation begins (10 R182). -/
def State.releaseReset (s : State) (ratesel : Bool) : State :=
  State.examineOpen
    { s with
      sys := { s.sys with init := some 0, ticks := 0, ratesel },
      port1 := s.port1.startSense, port2 := s.port2.startSense,
      dcu := { s.dcu with leaves := s.dcu.leaves.map Leaf.release },
      hl := { s.hl with rateHigh := ratesel } }

/-- A reset line is released. -/
def Sys.release (y : Sys) : ResetLine → Sys
  | .power => { y with porAsserted := false }
  | .pin => { y with pinAsserted := false }

/-- The line can end its reset now: the 1 ms above the threshold that ends a power-on reset is counted on REFCLK, the rise of
RESET_N is not (10 R181). -/
def Sys.releases (y : Sys) : ResetLine → Bool
  | .power => y.porAsserted && !y.refclkStopped
  | .pin => y.pinAsserted

/-- The supply or RESET_N releases its reset; the part is released at the later of the two (10 R181). -/
def State.releaseLine (s : State) (line : ResetLine) (ratesel : Bool) : State :=
  if s.sys.releases line then
    let s' := { s with sys := s.sys.release line }
    if s'.inReset then s' else s'.releaseReset ratesel
  else s

/-- The 20th tick after the release (10 R182): HOST-TX goes to mark, START is raised, THRU-HOLD rises and each port leaves
OPEN when its conditions hold. -/
def State.startupEnd (s : State) : State :=
  if s.expires s.sys.init 20 then
    ((({ s with sys := { s.sys with init := none }, hl := { s.hl with txHold := true } }).raise .start).leaveOpen
      .p1).leaveOpen .p2
  else s

/-! ### Soft reset (09 R173) -/

/-- A coupler port after a soft reset (01 R5). -/
def Coupler.softReset (c : Coupler) : Coupler :=
  { Coupler.reset with stagedMax := c.stagedMax, activeMax := c.stagedMax, loopMode := c.loopMode }

/-- A Neighbour Monitor after a soft reset: the coupler sense stays and its timer runs on (03 R57). -/
def Nbr.softReset (n : Nbr) : Nbr := { Nbr.reset with raw := n.raw, sense := n.sense, stab := n.stab }

/-- A port after a soft reset. -/
def Port.softReset (x : Port) : Port := { cp := x.cp.softReset, lr := .reset, nm := x.nm.softReset }

/-- Every block takes its soft-reset values (01 R5, 02 R46, 03 R49, 04 R60, 05 R78, 06 R101, R102, 07 R120, R125, 08 R145,
R151, 09 R168); RATESEL is read. -/
def State.softValues (s : State) (ratesel : Bool) : State :=
  { s with
    sys := { s.sys with cause := .soft, ratesel },
    port1 := s.port1.softReset, port2 := s.port2.softReset,
    cc := { Consist.reset with coach := s.cc.coach },
    se := { SweepState.reset with interval := s.se.interval, intervalPeriod := s.se.interval },
    dcu := { Doors.reset with leaves := s.dcu.leaves, isolated := s.dcu.isolated, windows := s.dcu.windows },
    ha := { Heating.reset with level := s.ha.level, capacity := s.ha.capacity, ramp := s.ha.ramp },
    hl := { HostLink.reset with rateHigh := ratesel, mask := s.hl.mask } }

/-- The soft reset takes effect (09 R173): START is raised, the open timer is examined (07 R120), and each port leaves OPEN
when its conditions hold (03 R58). -/
def State.softReset (s : State) (ratesel : Bool) : State :=
  ((((s.softValues ratesel).raise .start).examineOpen).leaveOpen .p1).leaveOpen .p2

/-! ### The end of a host message (09 R172, R173) -/

/-- The reply is the OK reply of a Soft Reset. -/
def Reply.isSoftReset (r : Reply) : Bool := r.kind == 0x17 && r.status == .ok

/-- The message in transmission is the OK reply of a Soft Reset. -/
def HostLink.endsInReset (h : HostLink) : Bool := h.tx == some .reply && h.replies.head?.any Reply.isSoftReset

/-- The last byte of the message in transmission has been sent: a BUSY reply leaves the refusal slot; a reply leaves the
queue and its request's slot becomes free (09 R170, R172). -/
def HostLink.messageEnds (h : HostLink) : HostLink :=
  match h.tx with
  | none => h
  | some .busy => { h with tx := none, refusal := none }
  | some .reply => { h with tx := none, replies := h.replies.drop 1, slots := h.slots.drop 1 }
  | some (.notice _ _) => { h with tx := none }

/-- A message in transmission can end: the part runs with its clock. -/
def State.hostSending (s : State) : Bool := s.running && s.clocked && s.hl.tx.isSome

end Sys2Proof.Machine
end

