-- ==== Sys2Proof/Machine/Timebase.lean ====
section
/-! DEFINITION. The 1 ms tick (10 R180), and which expiry is due (log entries 2 and 3). -/

namespace Sys2Proof.Machine

/-- A timer counts one tick. -/
def tickTimer (t : Timer) : Timer := t.map (· + 1)

/-- A pair's timers count a tick. -/
def Pair.tick (x : Pair) : Pair := { x with silence := tickTimer x.silence }

/-- The window of 01 R13 ends 10 ms after a PATTERN frame started. -/
def tickGuard (t : Timer) : Timer :=
  match t with
  | none => none
  | some e => if e + 1 < 10 then some (e + 1) else none

/-- A port's own timers count a tick. -/
def Coupler.tick (c : Coupler) : Coupler :=
  { c.bothPairs Pair.tick with
    heldTimer := tickTimer c.heldTimer, attemptTimer := tickTimer c.attemptTimer,
    retryTimer := tickTimer c.retryTimer, patternTimer := tickTimer c.patternTimer,
    answerGuard := tickGuard c.answerGuard }

/-- A head frame waits one more millisecond; its level follows when its aging is taken (02 R40, log entry 3). -/
def ClassQueue.tick (q : ClassQueue) : ClassQueue := if q.frames = [] then q else { q with waited := q.waited + 1 }

/-- The heads of a LINKED port's queues wait one more millisecond (02 R40). -/
def Relay.tick (r : Relay) : Relay :=
  { r with control := r.control.tick, door := r.door.tick, grant := r.grant.tick, sweep := r.sweep.tick,
           beat := r.beat.tick }

/-- A port's Neighbour Monitor counts a tick. -/
def Nbr.tick (n : Nbr) : Nbr :=
  { n with beatTimer := tickTimer n.beatTimer, timeout := tickTimer n.timeout, stab := tickTimer n.stab }

/-- A port counts a tick. -/
def Port.tick (x : Port) : Port :=
  { cp := x.cp.tick, lr := if x.cp.st = .linked then x.lr.tick else x.lr, nm := x.nm.tick }

/-- One tick of the Timebase: every running timer counts it (10 R180). -/
def State.tick (s : State) : State :=
  if s.ticking then
    { s with
      sys := { s.sys with ticks := s.sys.ticks + 1, init := tickTimer s.sys.init },
      port1 := s.port1.tick, port2 := s.port2.tick,
      cc := { s.cc with
        confirmTimer := tickTimer s.cc.confirmTimer, silenceTimer := tickTimer s.cc.silenceTimer,
        settleTimer := tickTimer s.cc.settleTimer, walkTimer := tickTimer s.cc.walkTimer },
      se := { s.se with intervalTimer := tickTimer s.se.intervalTimer, timeout := tickTimer s.se.timeout },
      dcu := { s.dcu with
        leaves := s.dcu.leaves.map fun l => { l with stab := tickTimer l.stab },
        openTimer := tickTimer s.dcu.openTimer, echoTimer := tickTimer s.dcu.echoTimer },
      ha := { s.ha with watchdog := tickTimer s.ha.watchdog, holdOff := tickTimer s.ha.holdOff },
      hl := { s.hl with frameTimer := tickTimer s.hl.frameTimer } }
  else s

/-- The first of some events. -/
def firstDue (l : List (Bool × Instr)) : Option Instr := (l.find? Prod.fst).map Prod.snd

/-- The expiries of one port that are due, in the model's order. -/
def State.portDue (s : State) (p : PortId) : List (Bool × Instr) :=
  [(timerDue (s.nm p).stab 50, .couplerSenseDebounce p),
   (timerDue (s.cp p).patternTimer 1, .patternTimer p),
   (timerDue (s.cp p).attemptTimer 200, .attemptTimerExpiry p),
   (timerDue (s.cp p).retryTimer 1000, .retryTimerExpiry p),
   (timerDue (s.cp p).pairA.silence 20, .silenceTimerExpiry p .a),
   (timerDue (s.cp p).pairB.silence 20, .silenceTimerExpiry p .b),
   (timerDue (s.cp p).heldTimer 2, .heldCopyTimerExpiry p),
   (timerDue (s.nm p).beatTimer 10, .beatTimerExpiry p),
   (timerDue (s.nm p).timeout 35, .neighbourTimeout p)]

/-- The leaf debounces that are due. -/
def State.leafDue (s : State) : List (Bool × Instr) :=
  (List.range 8).map fun i => (timerDue (s.dcu.leaves.getD i Leaf.reset).stab 20, .leafDebounce (i + 1))

/-- The agings of a port's queue heads that are due (02 R40). -/
def State.agingsDue (s : State) (p : PortId) : List (Bool × Instr) :=
  classOrder.map fun c => (s.headAges p c, .headFrameAging p c)

/-- Every expiry and aging with whether it is due, in the model's order (log entry 3). -/
def State.allDue (s : State) : List (Bool × Instr) :=
  s.agingsDue .p1 ++ s.agingsDue .p2 ++ [(timerDue s.sys.init 20, .startupEnd)] ++ s.portDue .p1 ++ s.portDue .p2 ++ s.leafDue ++
  [(s.boostDue, .openTimerBoost),
   (timerDue s.cc.settleTimer 100, .settleTimerExpiry),
   (timerDue s.cc.walkTimer 500, .walkTimerExpiry),
   (timerDue s.cc.confirmTimer 1500, .confirmTimerExpiry),
   (timerDue s.cc.silenceTimer 3000, .sweepSilenceTimerExpiry),
   (timerDue s.se.intervalTimer s.se.intervalPeriod, .intervalTimerExpiry),
   (timerDue s.se.timeout 150, .sweepTimeout),
   (timerDue s.dcu.echoTimer 300, .echoTimerExpiry),
   (timerDue s.ha.watchdog 3000, .grantWatchdogExpiry),
   (timerDue s.ha.holdOff 5000, .holdOffExpiry),
   (s.tripDue, .tripEntryRemoval),
   (timerDue s.hl.frameTimer 20, .frameTimerExpiry)]

/-- The expiry or aging that an idle block takes next, if one is due. -/
def State.dueEvent (s : State) : Option Instr := if s.ticking then firstDue s.allDue else none

end Sys2Proof.Machine
end

