-- ==== Sys2Proof/Machine/ResetCmds.lean ====
section
/-! DEFINITION. The meanings of the commands of resets, start-up and clock (10), and of the discrete inputs (03 R57, 07
R121, R123). -/

namespace Sys2Proof.Machine

/-- POWER_ON_RESET (10 R181). -/
def execPowerOnReset (s : State) : Host.Outcome State Fault Refusal := s.powerDown.done

/-- HARD_RESET (10 R181). -/
def execHardReset (s : State) : Host.Outcome State Fault Refusal := s.assertPin.done

/-- RESET_RELEASE (10 R182). -/
def execResetRelease (line : ResetLine) (ratesel : Bool) (s : State) : Host.Outcome State Fault Refusal :=
  (s.releaseLine line ratesel).done

/-- STARTUP_END (10 R182). -/
def execStartupEnd (s : State) : Host.Outcome State Fault Refusal := s.startupEnd.done

/-- HOST_TX_MARK_SETTLED (10 R184): the transmitter becomes idle and chooses its first message. -/
def execHostTxMarkSettled (s : State) : Host.Outcome State Fault Refusal :=
  (if s.running then s.modHl fun h => { h with txHold := false } else s).done

/-- REFCLK_LOSS (10 R180): REFCLK stops or returns; every timer holds its count. -/
def execRefclkLoss (stopped : Bool) (s : State) : Host.Outcome State Fault Refusal :=
  State.done { s with sys := { s.sys with refclkStopped := stopped } }

/-- SOFT_RESET_EFFECT (09 R173): the last byte of the Soft Reset reply has been sent. -/
def execSoftResetEffect (ratesel : Bool) (s : State) : Host.Outcome State Fault Refusal :=
  (if s.hostSending && s.hl.endsInReset then s.softReset ratesel else s).done

/-- A changed raw level restarts the coupler-sense stability timer; none runs while a reset is asserted (03 R57). -/
def Nbr.rawChange (n : Nbr) (coupled inReset : Bool) : Nbr :=
  if n.raw = coupled then n else { n with raw := coupled, stab := if inReset then none else some 0 }

/-- COUPLED_INPUT_CHANGE (03 R57). -/
def execCoupledInputChange (p : PortId) (coupled : Bool) (s : State) : Host.Outcome State Fault Refusal :=
  (s.modNm p fun n => n.rawChange coupled s.inReset).done

/-- The debounced level takes the raw level: a change to uncoupled sends the port to OPEN, a change to coupled lets a port
in OPEN start alignment (03 R57). -/
def State.adoptSense (s : State) (p : PortId) : State :=
  let s' := s.modNm p fun n => { n with stab := none, sense := n.raw }
  if (s.nm p).raw = (s.nm p).sense then s'
  else if (s.nm p).raw then s'.leaveOpen p
  else s'.portToOpen p .decoupled

/-- COUPLER_SENSE_DEBOUNCE (03 R57). -/
def execCouplerSenseDebounce (p : PortId) (s : State) : Host.Outcome State Fault Refusal :=
  (if s.expires (s.nm p).stab 50 then s.adoptSense p else s).done

/-- A changed raw level restarts the leaf's stability timer; none runs while a reset is asserted (07 R121). -/
def Leaf.rawChange (l : Leaf) (closed inReset : Bool) : Leaf :=
  if l.raw = closed then l else { l with raw := closed, stab := if inReset then none else some 0 }

/-- LEAF_INPUT_CHANGE (07 R121): LEAF-n, 1 to 8. -/
def execLeafInputChange (n : Nat) (closed : Bool) (s : State) : Host.Outcome State Fault Refusal :=
  (s.modDcu fun d => { d with leaves := d.leaves.modify (n - 1) fun l => l.rawChange closed s.inReset }).done

/-- The debounced level of leaf input i + 1 takes the raw level; a change raises LEAF, and the open timer is re-examined
(07 R121, R123). -/
def State.adoptLeaf (s : State) (i : Nat) : State :=
  let l := s.dcu.leaves.getD i Leaf.reset
  let s' := s.modDcu fun d => { d with leaves := d.leaves.set i { l with closed := l.raw, stab := none } }
  if l.raw = l.closed then s' else (s'.raise .leaf).examineOpen

/-- LEAF_DEBOUNCE (07 R121). -/
def execLeafDebounce (n : Nat) (s : State) : Host.Outcome State Fault Refusal :=
  (if s.expires (s.dcu.leaves.getD (n - 1) Leaf.reset).stab 20 then s.adoptLeaf (n - 1) else s).done

/-- OPEN_TIMER_BOOST (07 R123): the open timer has reached 60 000 ms and runs on. -/
def execOpenTimerBoost (s : State) : Host.Outcome State Fault Refusal :=
  (if s.ticking && s.boostDue then (s.modDcu fun d => { d with boost := true }).raise .leaf
   else s).done

end Sys2Proof.Machine
end

