-- ==== Sys2Proof/Machine/LineCmds.lean ====
section
/-! DEFINITION. The meanings of the commands of the pair receivers, alignment and transmit side of a port (01, 02), and of
its Neighbour Monitor's timers (03). -/

namespace Sys2Proof.Machine

/-- FALSE_START (01 R1). -/
def execFalseStart (p : PortId) (q : PairId) (s : State) : Host.Outcome State Fault Refusal :=
  (if s.framing p q then
    s.modCp p fun c => c.modPair q fun x => { x with falseStarts := inc16 x.falseStarts }
   else s).done

/-- STRAY_CHARACTER_FRAMING_ERROR (01 R1): outside a frame it is counted; inside one it abandons the frame (01 R2). -/
def execStrayCharacterFramingError (p : PortId) (q : PairId) (s : State) : Host.Outcome State Fault Refusal :=
  (if ((s.cp p).pair q).inFrame then s.badFrame p q .framing
   else if s.framing p q then
    s.modCp p fun c => c.modPair q fun x => { x with framingErrors := inc16 x.framingErrors }
   else s).done

/-- LINE_IDLE_ABANDON (01 R2): a frame that is open is abandoned with cause FRAMING. -/
def execLineIdleAbandon (p : PortId) (q : PairId) (s : State) : Host.Outcome State Fault Refusal :=
  (if ((s.cp p).pair q).inFrame then s.badFrame p q .framing else s).done

/-- BAD_FRAME (01 R2). -/
def execBadFrame (p : PortId) (q : PairId) (cause : BadCause) (s : State) : Host.Outcome State Fault Refusal :=
  (s.badFrame p q cause).done

/-- A character opens a frame if it is the start marker outside a frame (01 R2). -/
def Pair.takeCharacter (x : Pair) (char : Nat) : Pair := { x with inFrame := x.inFrame || char == 0x7E }

/-- PAIR_CHARACTER_TAKEN (01 R2, R22). -/
def execPairCharacterTaken (p : PortId) (q : PairId) (char : Nat) (s : State) : Host.Outcome State Fault Refusal :=
  (if s.framing p q then s.modCp p fun c => (c.modPair q fun x => x.takeCharacter char).characterTaken q else s).done

/-- The 32 sampled bits of the pattern field alternate: four bytes of 0x55 (01 R4, R9). -/
def patternPasses (sampled : BitVec 32) : Bool := sampled == 0x55555555#32

/-- A pair that has checked sixteen positions takes its window (01 R10). -/
def Pair.computeWindow (x : Pair) : Pair :=
  match windowPhase x.passes with
  | some phase => { x with st := .aligned, phase }
  | none => { x with st := .failed }

/-- A SCANNING pair records the outcome of one position, and takes its window after the sixteenth (01 R9, R10). -/
def Pair.scanOne (x : Pair) (pass : Bool) : Pair :=
  let x' := { x with passes := x.passes ++ [pass] }
  if x'.passes.length < 16 then x' else x'.computeWindow

/-- The port's own ready flag is set as soon as a pair is ALIGNED (01 R11). -/
def Coupler.setReady (c : Coupler) : Coupler := { c with ready := c.ready || c.anyAligned }

/-- A pattern repetition at a SCANNING pair; with no pair left SCANNING or ALIGNED the attempt fails (01 R9 to R12). -/
def State.repetition (s : State) (p : PortId) (q : PairId) (sampled : BitVec 32) : State :=
  let s' := s.modCp p fun c => (c.modPair q fun x => x.scanOne (patternPasses sampled)).setReady
  if (s'.cp p).noneLive then s'.alignFails p else s'

/-- PATTERN_REPETITION (01 R9). -/
def execPatternRepetition (p : PortId) (q : PairId) (sampled : BitVec 32) (s : State) :
    Host.Outcome State Fault Refusal :=
  (if s.clocked = true ∧ (s.cp p).st = .aligning ∧ ((s.cp p).pair q).st = .scanning then s.repetition p q sampled
   else s).done

/-- PATTERN (01 R11, R13). -/
def execPattern (p : PortId) (q : PairId) (ready : Bool) (rate : Nat) (s : State) :
    Host.Outcome State Fault Refusal :=
  (s.goodPattern p q ready rate).done

/-- The PATTERN period elapses in ALIGNING or LOCAL LOOP: a PATTERN frame is due, and the timer restarts (01 R4, R25). -/
def State.patternPeriod (s : State) (p : PortId) : State :=
  (s.modCp p fun c => { c with patternTimer := some 0, patternDue := true }).kickLine p

/-- PATTERN_TIMER (01 R4). -/
def execPatternTimer (p : PortId) (s : State) : Host.Outcome State Fault Refusal :=
  (if s.expires (s.cp p).patternTimer 1 then s.patternPeriod p else s).done

/-- ATTEMPT_TIMER_EXPIRY (01 R12). -/
def execAttemptTimerExpiry (p : PortId) (s : State) : Host.Outcome State Fault Refusal :=
  (if s.expires (s.cp p).attemptTimer 200 then s.alignFails p else s).done

/-- RETRY_TIMER_EXPIRY (01 R7). -/
def execRetryTimerExpiry (p : PortId) (s : State) : Host.Outcome State Fault Refusal :=
  (if s.expires (s.cp p).retryTimer 1000 then s.alignAttempt p 0 else s).done

/-- A pair enters BREAK: its break flag is set, its break counter counts, its score is 15 (01 R23). -/
def Pair.enterBreak (x : Pair) : Pair := { x.withScore 15 with brk := true, breaks := inc16 x.breaks, degraded := true }

/-- BREAK in ALIGNING: the pair is FAILED, the ready flag falls with the only ALIGNED pair, and the attempt fails if no pair
is left (01 R23). -/
def State.breakAligning (s : State) (p : PortId) (q : PairId) : State :=
  let s1 := s.changePair p q fun x => { x.enterBreak with st := .failed, inFrame := false }
  let s2 := s1.modCp p fun c => { c with ready := c.ready && c.anyAligned }
  if (s2.cp p).noneLive then s2.alignFails p else s2

/-- BREAK in LINKED: a frame that is open is abandoned; with the other pair in BREAK the port enters OPEN at once, else the
preferred pair follows (01 R23). -/
def State.breakLinked (s : State) (p : PortId) (q : PairId) : State :=
  let s1 := if ((s.cp p).pair q).inFrame then s.badFrame p q .framing else s
  if ((s1.cp p).pair (otherPair q)).brk then
    ((s1.modCp p fun c => c.modPair q Pair.enterBreak).raiseIf (!((s1.cp p).pair q).degraded) .port).portToOpen p .break
  else s1.changePair p q Pair.enterBreak

/-- PAIR_BREAK (01 R23). -/
def execPairBreak (p : PortId) (q : PairId) (s : State) : Host.Outcome State Fault Refusal :=
  (if s.clocked = true ∧ ((s.cp p).pair q).brk = false then
    match (s.cp p).st with
    | .aligning => s.breakAligning p q
    | .linked => s.breakLinked p q
    | .open => s
    | .faulted => s
    | .loop => s
   else s).done

/-- BREAK_END (01 R23). -/
def execBreakEnd (p : PortId) (q : PairId) (s : State) : Host.Outcome State Fault Refusal :=
  (if s.clocked then s.modCp p fun c => c.modPair q fun x => { x with brk := false } else s).done

/-- The silence timer of a pair expires: a charge of 4 if the port made a delivery since it started; it restarts (01 R19). -/
def Pair.silenceExpires (x : Pair) : Pair := (if x.deliveredSince then x.charge 4 else x).restartSilence

/-- SILENCE_TIMER_EXPIRY (01 R19). -/
def execSilenceTimerExpiry (p : PortId) (q : PairId) (s : State) : Host.Outcome State Fault Refusal :=
  (if s.expires ((s.cp p).pair q).silence 20 then s.changePair p q Pair.silenceExpires else s).done

/-- HELD_COPY_TIMER_EXPIRY (01 R22). -/
def execHeldCopyTimerExpiry (p : PortId) (s : State) : Host.Outcome State Fault Refusal :=
  (if s.expires (s.cp p).heldTimer 2 then s.deliverHeld p else s).done

/-- The frame whose transmission ends is the BEAT after which a pending rate step begins (01 R15). -/
def LineTx.startsStep : LineTx → Bool
  | .pattern _ _ => false
  | .frame c _ _ underStep => c == .beat && underStep

/-- The receivers of a port in LOCAL LOOP take what it has sent: a PATTERN frame on both pairs (01 R25). -/
def State.hearOwn (s : State) (p : PortId) : LineTx → State
  | .pattern ready rate => (s.loopBack p .a ready rate).loopBack p .b ready rate
  | .frame _ _ _ _ => s

/-- The transmitter finishes a frame: a pending rate step begins, or the next frame goes out (01 R15, 02 R41). -/
def State.transmitEnd (s : State) (p : PortId) : State :=
  match (s.lr p).tx with
  | none => s
  | some t =>
    let s' := s.modLr p fun r => { r with tx := none }
    if t.startsStep = true ∧ (s.cp p).st = .linked ∧ (s.cp p).stepPending = true then s'.beginStep p
    else (s'.hearOwn p t).kickLine p

/-- TRANSMIT_END (02 R41). -/
def execTransmitEnd (p : PortId) (s : State) : Host.Outcome State Fault Refusal :=
  (if s.clocked then s.transmitEnd p else s).done

/-- HEAD_FRAME_AGING (02 R40): a head's waiting time has reached a multiple of 5 ms while LINKED, and its level improves by one. -/
def execHeadFrameAging (p : PortId) (c : Cls) (s : State) : Host.Outcome State Fault Refusal :=
  (if s.ticking && s.headAges p c then s.modLr p fun r => r.setQueue c (r.queue c).age else s).done

/-- The BEAT timer expires: a new BEAT is offered and the timer restarts (03 R47). -/
def State.beatPeriod (s : State) (p : PortId) : State :=
  (s.offerBeat p).modNm p fun n => { n with beatTimer := some 0 }

/-- BEAT_TIMER_EXPIRY (03 R47). -/
def execBeatTimerExpiry (p : PortId) (s : State) : Host.Outcome State Fault Refusal :=
  (if s.expires (s.nm p).beatTimer 10 then s.beatPeriod p else s).done

/-- NEIGHBOUR_TIMEOUT (03 R55). -/
def execNeighbourTimeout (p : PortId) (s : State) : Host.Outcome State Fault Refusal :=
  (if s.expires (s.nm p).timeout 35 then
    (s.modNm p fun n => { n with timeout := none }).portToOpen p .timeout
   else s).done

end Sys2Proof.Machine
end

