-- ==== Sys2Proof/Machine/FrameCmds.lean ====
section
/-! DEFINITION. The meanings of the commands that stand for a good frame a pair ends (01 R21; consumers in 03 to 08). -/

namespace Sys2Proof.Machine

/-- MALFORMED_FRAME (02 R29): a good frame of any kind, direction and payload. -/
def execMalformedFrame (p : PortId) (q : PairId) (seq gen kind direction : Nat) (payload : List Nat) (s : State) :
    Host.Outcome State Fault Refusal :=
  (s.anyFrame p q seq { gen, body := parseBody kind direction payload }).done

/-- BEAT (03 R50). -/
def execBeat (p : PortId) (q : PairId) (seq gen : Nat) (body : BeatBody) (s : State) :
    Host.Outcome State Fault Refusal :=
  (s.goodFrame p q seq { gen, body := .beat body }).done

/-- WALK (05 R85 to R88). -/
def execWalk (p : PortId) (q : PairId) (seq gen : Nat) (leader : Serial) (next : Nat) (s : State) :
    Host.Outcome State Fault Refusal :=
  (s.goodFrame p q seq { gen, body := .walk leader next }).done

/-- NODE (05 R89). -/
def execNode (p : PortId) (q : PairId) (seq gen : Nat) (line : LineEntry) (s : State) :
    Host.Outcome State Fault Refusal :=
  (s.goodFrame p q seq { gen, body := .node line }).done

/-- TAIL (05 R91). -/
def execTail (p : PortId) (q : PairId) (seq gen flags last : Nat) (serial : Serial) (s : State) :
    Host.Outcome State Fault Refusal :=
  (s.goodFrame p q seq { gen, body := .tail flags last serial }).done

/-- CLASH (05 R90). -/
def execClash (p : PortId) (q : PairId) (seq gen : Nat) (claimant leader : Serial) (s : State) :
    Host.Outcome State Fault Refusal :=
  (s.goodFrame p q seq { gen, body := .clash claimant leader }).done

/-- CALL (05 R92). -/
def execCall (p : PortId) (q : PairId) (seq gen : Nat) (serial : Serial) (position cause port : Nat) (s : State) :
    Host.Outcome State Fault Refusal :=
  (s.goodFrame p q seq { gen, body := .call serial position cause port }).done

/-- CONFIRM (05 R94 to R96). -/
def execConfirm (p : PortId) (q : PairId) (seq gen n reason : Nat) (entries : List LineEntry) (s : State) :
    Host.Outcome State Fault Refusal :=
  (s.goodFrame p q seq { gen, body := .confirm n reason entries }).done

/-- SWEEP (06 R111 to R113). -/
def execSweep (p : PortId) (q : PairId) (seq gen number flags n : Nat) (list : List Nat) (s : State) :
    Host.Outcome State Fault Refusal :=
  (s.goodFrame p q seq { gen, body := .sweep number flags n list }).done

/-- RETURN (06 R114, R115). -/
def execSweepReturn (p : PortId) (q : PairId) (seq gen number flags n : Nat) (list : List Nat) (s : State) :
    Host.Outcome State Fault Refusal :=
  (s.goodFrame p q seq { gen, body := .ret number flags n list }).done

/-- DOOR (07 R131 to R133). -/
def execDoor (p : PortId) (q : PairId) (seq gen id action side first last : Nat) (s : State) :
    Host.Outcome State Fault Refusal :=
  (s.goodFrame p q seq { gen, body := .door id action side first last }).done

/-- ECHO (07 R134, R135). -/
def execEcho (p : PortId) (q : PairId) (seq gen id : Nat) (applied : PosSet) (s : State) :
    Host.Outcome State Fault Refusal :=
  (s.goodFrame p q seq { gen, body := .echo id applied }).done

/-- GRANT (08 R149, R150). -/
def execGrant (p : PortId) (q : PairId) (seq gen cause number n : Nat) (grants : List Nat) (s : State) :
    Host.Outcome State Fault Refusal :=
  (s.goodFrame p q seq { gen, body := .grant cause number n grants }).done

end Sys2Proof.Machine
end

