-- ==== Sys2Proof/Machine/TimerCmds.lean ====
section
/-! DEFINITION. The meanings of the commands that stand for the expiry of a node's own timers (04 to 08). -/

namespace Sys2Proof.Machine

/-- SETTLE_TIMER_EXPIRY (05 R84): the first attempt of a walk starts. -/
def execSettleTimerExpiry (s : State) : Host.Outcome State Fault Refusal :=
  (if s.expires s.cc.settleTimer 100 then s.startAttempt .walkFirst else s).done

/-- WALK_TIMER_EXPIRY (05 R92). -/
def execWalkTimerExpiry (s : State) : Host.Outcome State Fault Refusal :=
  (if s.expires s.cc.walkTimer 500 then (s.modCc fun c => { c with walkTimer := none }).attemptFails else s).done

/-- The confirm timer expires at a PROVISIONAL member (04 R63). -/
def State.confirmTimeout (s : State) : State :=
  (if s.cc.node = .provisional then s.suspend .confirmTimeout else s).modCc fun c => { c with confirmTimer := none }

/-- CONFIRM_TIMER_EXPIRY (04 R63). -/
def execConfirmTimerExpiry (s : State) : Host.Outcome State Fault Refusal :=
  (if s.expires s.cc.confirmTimer 1500 then s.confirmTimeout else s).done

/-- The sweep-silence timer expires at an OPERATIONAL member (04 R65). -/
def State.sweepSilence (s : State) : State :=
  (if s.cc.node = .operational then s.suspend .silence else s).modCc fun c => { c with silenceTimer := none }

/-- SWEEP_SILENCE_TIMER_EXPIRY (04 R65). -/
def execSweepSilenceTimerExpiry (s : State) : Host.Outcome State Fault Refusal :=
  (if s.expires s.cc.silenceTimer 3000 then s.sweepSilence else s).done

/-- The interval timer expires at an OPERATIONAL leader: a launch, or launch-due while a sweep is outstanding (06 R104). -/
def State.intervalExpires (s : State) : State :=
  let s' := s.modSe fun e => { e with intervalTimer := none }
  if !s.operationalLeader then s'
  else if s.se.outstanding.isSome then s'.modSe fun e => { e with launchDue := true }
  else s'.launch

/-- INTERVAL_TIMER_EXPIRY (06 R104). -/
def execIntervalTimerExpiry (s : State) : Host.Outcome State Fault Refusal :=
  (if s.expires s.se.intervalTimer s.se.intervalPeriod then s.intervalExpires else s).done

/-- SWEEP_TIMEOUT (06 R118). -/
def execSweepTimeout (s : State) : Host.Outcome State Fault Refusal :=
  (if s.expires s.se.timeout 150 then s.loseSweep .timeout else s).done

/-- ECHO_TIMER_EXPIRY (07 R137). -/
def execEchoTimerExpiry (s : State) : Host.Outcome State Fault Refusal :=
  (if s.expires s.dcu.echoTimer 300 then s.endInFlight .timeout none else s).done

/-- The grant watchdog expires (08 R148, R164). -/
def State.watchdogExpires (s : State) : State := ((s.setHeld 0).modHa fun h => { h with watchdog := none }).raise .grant

/-- GRANT_WATCHDOG_EXPIRY (08 R148). -/
def execGrantWatchdogExpiry (s : State) : Host.Outcome State Fault Refusal :=
  (if s.expires s.ha.watchdog 3000 then s.watchdogExpires else s).done

/-- HOLD_OFF_EXPIRY (08 R163). -/
def execHoldOffExpiry (s : State) : Host.Outcome State Fault Refusal :=
  (if s.expires s.ha.holdOff 5000 then (s.modHa fun h => { h with holdOff := none }).raise .supply else s).done

/-- TRIP_ENTRY_REMOVAL (08 R162): the oldest entry leaves the history 60 000 ms after its trip. -/
def execTripEntryRemoval (s : State) : Host.Outcome State Fault Refusal :=
  (if s.ticking && s.tripDue then s.modHa fun h => { h with trips := h.trips.drop 1 } else s).done

end Sys2Proof.Machine
end

