-- ==== Sys2Proof/Machine/RequestCmds.lean ====
section
/-! DEFINITION. The meanings of the request commands (09 R170 to R177) and of the other events of the host link (09 R167,
R169, R172). A request carries its tag and its payload bytes. -/

namespace Sys2Proof.Machine

/-- GET_IDENTITY: Get Identity (09 R176). -/
def execGetIdentity (tag : Nat) (payload : List Nat) (s : State) : Host.Outcome State Fault Refusal :=
  (s.request 0x01 tag payload fun s => s.accept State.identityFields).done

/-- SET_COACH: Set Coach (04 R74, R75). -/
def execSetCoach (tag : Nat) (payload : List Nat) (s : State) : Host.Outcome State Fault Refusal :=
  (s.request 0x02 tag payload fun s =>
    match payload with
    | [cls, l1, l2, sp] => s.reqSetCoach cls l1 l2 sp
    | _ => s.refuse .length).done

/-- CLAIM_LEAD: Claim Lead (05 R80). -/
def execClaimLead (tag : Nat) (payload : List Nat) (s : State) : Host.Outcome State Fault Refusal :=
  (s.request 0x03 tag payload fun s =>
    match payload with
    | [e] => s.reqClaimLead e
    | _ => s.refuse .length).done

/-- DROP_LEAD: Drop Lead (05 R81). -/
def execDropLead (tag : Nat) (payload : List Nat) (s : State) : Host.Outcome State Fault Refusal :=
  (s.request 0x04 tag payload fun s => s.reqDropLead).done

/-- START_INAUGURATION: Start Inauguration (05 R99). -/
def execStartInauguration (tag : Nat) (payload : List Nat) (s : State) : Host.Outcome State Fault Refusal :=
  (s.request 0x05 tag payload fun s => s.reqStartInauguration).done

/-- GET_CONSIST: Get Consist (04 R73, 06 R119). -/
def execGetConsist (tag : Nat) (payload : List Nat) (s : State) : Host.Outcome State Fault Refusal :=
  (s.request 0x06 tag payload fun s =>
    match payload with
    | [start] => s.reqGetConsist start
    | _ => s.refuse .length).done

/-- GET_NODE: Get Node (04 R73, 05 R100, 06 R119). -/
def execGetNode (tag : Nat) (payload : List Nat) (s : State) : Host.Outcome State Fault Refusal :=
  (s.request 0x07 tag payload fun s => s.accept State.nodeFields).done

/-- SET_WINDOW: Set Window (07 R126). -/
def execSetWindow (tag : Nat) (payload : List Nat) (s : State) : Host.Outcome State Fault Refusal :=
  (s.request 0x08 tag payload fun s =>
    match payload with
    | [index, anchor, offset, count, enabled] => s.reqSetWindow index anchor offset count enabled
    | _ => s.refuse .length).done

/-- DOOR_COMMAND: Door Command (07 R128). -/
def execDoorCommand (tag : Nat) (payload : List Nat) (s : State) : Host.Outcome State Fault Refusal :=
  (s.request 0x09 tag payload fun s =>
    match payload with
    | [action, side, window] => s.reqDoorCommand action side window
    | _ => s.refuse .length).done

/-- GET_DOOR_RESULTS: Get Door Results (07 R144). -/
def execGetDoorResults (tag : Nat) (payload : List Nat) (s : State) : Host.Outcome State Fault Refusal :=
  (s.request 0x0A tag payload fun s => s.accept State.doorFields).done

/-- SET_STANDSTILL: Set Standstill (07 R140). -/
def execSetStandstill (tag : Nat) (payload : List Nat) (s : State) : Host.Outcome State Fault Refusal :=
  (s.request 0x0B tag payload fun s =>
    match payload with
    | [value] => s.reqSetStandstill value
    | _ => s.refuse .length).done

/-- SET_HEAT_LEVEL: Set Heat Level (08 R146). -/
def execSetHeatLevel (tag : Nat) (payload : List Nat) (s : State) : Host.Outcome State Fault Refusal :=
  (s.request 0x0C tag payload fun s =>
    match payload with
    | [level] => s.reqSetHeatLevel level
    | _ => s.refuse .length).done

/-- SET_SUPPLY: Set Supply (08 R152). -/
def execSetSupply (tag : Nat) (payload : List Nat) (s : State) : Host.Outcome State Fault Refusal :=
  (s.request 0x0D tag payload fun s =>
    match payload with
    | [c1, c0, r1, r0, clear] => s.reqSetSupply (c1 * 256 + c0) (r1 * 256 + r0) clear
    | _ => s.refuse .length).done

/-- SUPPLY_TRIP: Supply Trip (08 R161). -/
def execSupplyTrip (tag : Nat) (payload : List Nat) (s : State) : Host.Outcome State Fault Refusal :=
  (s.request 0x0E tag payload fun s => s.reqSupplyTrip).done

/-- GET_HEATING: Get Heating (08 R165). -/
def execGetHeating (tag : Nat) (payload : List Nat) (s : State) : Host.Outcome State Fault Refusal :=
  (s.request 0x0F tag payload fun s => s.accept State.heatingFields).done

/-- SET_SWEEP_INTERVAL: Set Sweep Interval (06 R106). -/
def execSetSweepInterval (tag : Nat) (payload : List Nat) (s : State) : Host.Outcome State Fault Refusal :=
  (s.request 0x10 tag payload fun s =>
    match payload with
    | [v1, v0] => s.reqSetSweepInterval (v1 * 256 + v0)
    | _ => s.refuse .length).done

/-- SET_PORT_MAXIMUM_RATE: Set Port, named by its maximum rate field (01 R17, 09 R175; log entry 10). -/
def execSetPortMaximumRate (tag : Nat) (payload : List Nat) (s : State) : Host.Outcome State Fault Refusal :=
  (s.request 0x11 tag payload fun s =>
    match payload with
    | [port, mode, rate, force] => s.reqSetPort port mode rate force
    | _ => s.refuse .length).done

/-- SET_PORT_LOOP_MODE: Set Port, named by its loop mode field (01 R24, 09 R175; log entry 10). -/
def execSetPortLoopMode (tag : Nat) (payload : List Nat) (s : State) : Host.Outcome State Fault Refusal :=
  (s.request 0x11 tag payload fun s =>
    match payload with
    | [port, mode, rate, force] => s.reqSetPort port mode rate force
    | _ => s.refuse .length).done

/-- SET_PORT_FORCE_REALIGN: Set Port, named by its force-realign flag (01 R17, 09 R175; log entry 10). -/
def execSetPortForceRealign (tag : Nat) (payload : List Nat) (s : State) : Host.Outcome State Fault Refusal :=
  (s.request 0x11 tag payload fun s =>
    match payload with
    | [port, mode, rate, force] => s.reqSetPort port mode rate force
    | _ => s.refuse .length).done

/-- GET_PORT: Get Port (01 R27, 02 R45, 03 R59). -/
def execGetPort (tag : Nat) (payload : List Nat) (s : State) : Host.Outcome State Fault Refusal :=
  (s.request 0x12 tag payload fun s =>
    match payload with
    | [port] => s.reqGetPort port
    | _ => s.refuse .length).done

/-- ISOLATE_LEAVES: Isolate Leaves (07 R122). -/
def execIsolateLeaves (tag : Nat) (payload : List Nat) (s : State) : Host.Outcome State Fault Refusal :=
  (s.request 0x13 tag payload fun s =>
    match payload with
    | [set] => s.reqIsolateLeaves set
    | _ => s.refuse .length).done

/-- ENTER_ISOLATION: Enter Isolation (04 R76). -/
def execEnterIsolation (tag : Nat) (payload : List Nat) (s : State) : Host.Outcome State Fault Refusal :=
  (s.request 0x14 tag payload fun s => s.reqEnterIsolation).done

/-- LEAVE_ISOLATION: Leave Isolation (04 R77). -/
def execLeaveIsolation (tag : Nat) (payload : List Nat) (s : State) : Host.Outcome State Fault Refusal :=
  (s.request 0x15 tag payload fun s => s.reqLeaveIsolation).done

/-- SET_NOTICES: Set Notices (09 R177). -/
def execSetNotices (tag : Nat) (payload : List Nat) (s : State) : Host.Outcome State Fault Refusal :=
  (s.request 0x16 tag payload fun s =>
    match payload with
    | [m1, m0] => s.reqSetNotices (m1 * 256 + m0)
    | _ => s.refuse .length).done

/-- SOFT_RESET: Soft Reset (09 R173). -/
def execSoftReset (tag : Nat) (payload : List Nat) (s : State) : Host.Outcome State Fault Refusal :=
  (s.request 0x17 tag payload fun s => s.reqSoftReset).done

/-- UNKNOWN_REQUEST (09 R171): a kind that names no request. -/
def execUnknownRequest (kind tag : Nat) (payload : List Nat) (s : State) : Host.Outcome State Fault Refusal :=
  (s.request kind tag payload fun s => s.refuse .unknown).done

/-! ### The host link's other events -/

/-- The assembler takes a sync byte: in HUNT it goes IN FRAME and the frame timer starts, IN FRAME it is the next byte of the frame
(09 R169). -/
def HostLink.takeSync (h : HostLink) : HostLink :=
  match h.assembler with
  | none => { h with assembler := some [0xA5], frameTimer := some 0 }
  | some taken => { h with assembler := some (taken ++ [0xA5]) }

/-- HOST_SYNC_BYTE (09 R169). -/
def execHostSyncByte (s : State) : Host.Outcome State Fault Refusal :=
  (if s.hostListening then s.modHl HostLink.takeSync else s).done

/-- HOST_CHARACTER_FRAMING_ERROR (09 R167): the character is not taken, a frame is abandoned, and it is counted. -/
def execHostCharacterFramingError (s : State) : Host.Outcome State Fault Refusal :=
  (if s.hostListening then s.modHl fun h => { h.hunt with charFraming := inc16 h.charFraming } else s).done

/-- HOST_FRAME_OVERLENGTH (09 R169): the frame is dropped at its length byte. -/
def execHostFrameOverlength (s : State) : Host.Outcome State Fault Refusal :=
  (if s.hostFraming then s.modHl fun h => { h.hunt with overlength := inc16 h.overlength } else s).done

/-- HOST_FRAME_CRC_ERROR (09 R169): the frame is dropped at its second CRC byte. -/
def execHostFrameCrcError (s : State) : Host.Outcome State Fault Refusal :=
  (if s.hostFraming then s.modHl fun h => { h.hunt with crcErrors := inc16 h.crcErrors } else s).done

/-- FRAME_TIMER_EXPIRY (09 R169): the frame is dropped. -/
def execFrameTimerExpiry (s : State) : Host.Outcome State Fault Refusal :=
  (if s.expires s.hl.frameTimer 20 then s.modHl fun h => { h.hunt with frameTimeouts := inc16 h.frameTimeouts }
   else s).done

/-- The message in transmission ends; the end of a Soft Reset reply is the soft reset, which reads RATESEL. The command does not
name the level of the pin: it is a free value (09 R167, R172, R173; log entry 27). -/
def State.messageSent (s : State) : State :=
  if s.hl.endsInReset then
    State.softReset { s with sys := { s.sys with freeCount := s.sys.freeCount + 1 } } (Config.openRatesel s.sys.freeCount)
  else s.modHl HostLink.messageEnds

/-- HOST_MESSAGE_SENT (09 R172). -/
def execHostMessageSent (s : State) : Host.Outcome State Fault Refusal :=
  (if s.hostSending then s.messageSent else s).done

end Sys2Proof.Machine
end

