-- ==== Sys2Proof/Machine/Dispatch.lean ====
section
/-! DEFINITION. One arm per command: a direct call of its meaning. -/

namespace Sys2Proof.Machine

def exec (i : Instr) (s : State) : Host.Outcome State Fault Refusal :=
  match i with
  | .powerOnReset => Sys2Proof.Machine.execPowerOnReset s
  | .hardReset => Sys2Proof.Machine.execHardReset s
  | .resetRelease line ratesel => Sys2Proof.Machine.execResetRelease line ratesel s
  | .startupEnd => Sys2Proof.Machine.execStartupEnd s
  | .hostTxMarkSettled => Sys2Proof.Machine.execHostTxMarkSettled s
  | .refclkLoss stopped => Sys2Proof.Machine.execRefclkLoss stopped s
  | .coupledInputChange p coupled => Sys2Proof.Machine.execCoupledInputChange p coupled s
  | .couplerSenseDebounce p => Sys2Proof.Machine.execCouplerSenseDebounce p s
  | .leafInputChange n closed => Sys2Proof.Machine.execLeafInputChange n closed s
  | .leafDebounce n => Sys2Proof.Machine.execLeafDebounce n s
  | .openTimerBoost => Sys2Proof.Machine.execOpenTimerBoost s
  | .falseStart p q => Sys2Proof.Machine.execFalseStart p q s
  | .strayCharacterFramingError p q => Sys2Proof.Machine.execStrayCharacterFramingError p q s
  | .lineIdleAbandon p q => Sys2Proof.Machine.execLineIdleAbandon p q s
  | .badFrame p q cause => Sys2Proof.Machine.execBadFrame p q cause s
  | .patternRepetition p q sampled => Sys2Proof.Machine.execPatternRepetition p q sampled s
  | .pattern p q ready rate => Sys2Proof.Machine.execPattern p q ready rate s
  | .patternTimer p => Sys2Proof.Machine.execPatternTimer p s
  | .attemptTimerExpiry p => Sys2Proof.Machine.execAttemptTimerExpiry p s
  | .retryTimerExpiry p => Sys2Proof.Machine.execRetryTimerExpiry p s
  | .pairBreak p q => Sys2Proof.Machine.execPairBreak p q s
  | .breakEnd p q => Sys2Proof.Machine.execBreakEnd p q s
  | .silenceTimerExpiry p q => Sys2Proof.Machine.execSilenceTimerExpiry p q s
  | .heldCopyTimerExpiry p => Sys2Proof.Machine.execHeldCopyTimerExpiry p s
  | .transmitEnd p => Sys2Proof.Machine.execTransmitEnd p s
  | .headFrameAging p c => Sys2Proof.Machine.execHeadFrameAging p c s
  | .malformedFrame p q seq gen kind direction payload => Sys2Proof.Machine.execMalformedFrame p q seq gen kind direction payload s
  | .beatTimerExpiry p => Sys2Proof.Machine.execBeatTimerExpiry p s
  | .beat p q seq gen body => Sys2Proof.Machine.execBeat p q seq gen body s
  | .neighbourTimeout p => Sys2Proof.Machine.execNeighbourTimeout p s
  | .walk p q seq gen leader next => Sys2Proof.Machine.execWalk p q seq gen leader next s
  | .node p q seq gen line => Sys2Proof.Machine.execNode p q seq gen line s
  | .tail p q seq gen flags last serial => Sys2Proof.Machine.execTail p q seq gen flags last serial s
  | .clash p q seq gen claimant leader => Sys2Proof.Machine.execClash p q seq gen claimant leader s
  | .call p q seq gen serial position cause port => Sys2Proof.Machine.execCall p q seq gen serial position cause port s
  | .settleTimerExpiry => Sys2Proof.Machine.execSettleTimerExpiry s
  | .walkTimerExpiry => Sys2Proof.Machine.execWalkTimerExpiry s
  | .confirm p q seq gen n reason entries => Sys2Proof.Machine.execConfirm p q seq gen n reason entries s
  | .confirmTimerExpiry => Sys2Proof.Machine.execConfirmTimerExpiry s
  | .sweepSilenceTimerExpiry => Sys2Proof.Machine.execSweepSilenceTimerExpiry s
  | .intervalTimerExpiry => Sys2Proof.Machine.execIntervalTimerExpiry s
  | .sweep p q seq gen number flags n list => Sys2Proof.Machine.execSweep p q seq gen number flags n list s
  | .sweepReturn p q seq gen number flags n list => Sys2Proof.Machine.execSweepReturn p q seq gen number flags n list s
  | .sweepTimeout => Sys2Proof.Machine.execSweepTimeout s
  | .door p q seq gen id action side first last => Sys2Proof.Machine.execDoor p q seq gen id action side first last s
  | .echo p q seq gen id applied => Sys2Proof.Machine.execEcho p q seq gen id applied s
  | .echoTimerExpiry => Sys2Proof.Machine.execEchoTimerExpiry s
  | .grant p q seq gen cause number n grants => Sys2Proof.Machine.execGrant p q seq gen cause number n grants s
  | .grantWatchdogExpiry => Sys2Proof.Machine.execGrantWatchdogExpiry s
  | .holdOffExpiry => Sys2Proof.Machine.execHoldOffExpiry s
  | .tripEntryRemoval => Sys2Proof.Machine.execTripEntryRemoval s
  | .getIdentity tag payload => Sys2Proof.Machine.execGetIdentity tag payload s
  | .setCoach tag payload => Sys2Proof.Machine.execSetCoach tag payload s
  | .claimLead tag payload => Sys2Proof.Machine.execClaimLead tag payload s
  | .dropLead tag payload => Sys2Proof.Machine.execDropLead tag payload s
  | .startInauguration tag payload => Sys2Proof.Machine.execStartInauguration tag payload s
  | .getConsist tag payload => Sys2Proof.Machine.execGetConsist tag payload s
  | .getNode tag payload => Sys2Proof.Machine.execGetNode tag payload s
  | .setWindow tag payload => Sys2Proof.Machine.execSetWindow tag payload s
  | .doorCommand tag payload => Sys2Proof.Machine.execDoorCommand tag payload s
  | .getDoorResults tag payload => Sys2Proof.Machine.execGetDoorResults tag payload s
  | .setStandstill tag payload => Sys2Proof.Machine.execSetStandstill tag payload s
  | .setHeatLevel tag payload => Sys2Proof.Machine.execSetHeatLevel tag payload s
  | .setSupply tag payload => Sys2Proof.Machine.execSetSupply tag payload s
  | .supplyTrip tag payload => Sys2Proof.Machine.execSupplyTrip tag payload s
  | .getHeating tag payload => Sys2Proof.Machine.execGetHeating tag payload s
  | .setSweepInterval tag payload => Sys2Proof.Machine.execSetSweepInterval tag payload s
  | .setPortMaximumRate tag payload => Sys2Proof.Machine.execSetPortMaximumRate tag payload s
  | .setPortLoopMode tag payload => Sys2Proof.Machine.execSetPortLoopMode tag payload s
  | .setPortForceRealign tag payload => Sys2Proof.Machine.execSetPortForceRealign tag payload s
  | .getPort tag payload => Sys2Proof.Machine.execGetPort tag payload s
  | .isolateLeaves tag payload => Sys2Proof.Machine.execIsolateLeaves tag payload s
  | .enterIsolation tag payload => Sys2Proof.Machine.execEnterIsolation tag payload s
  | .leaveIsolation tag payload => Sys2Proof.Machine.execLeaveIsolation tag payload s
  | .setNotices tag payload => Sys2Proof.Machine.execSetNotices tag payload s
  | .softReset tag payload => Sys2Proof.Machine.execSoftReset tag payload s
  | .softResetEffect ratesel => Sys2Proof.Machine.execSoftResetEffect ratesel s
  | .unknownRequest kind tag payload => Sys2Proof.Machine.execUnknownRequest kind tag payload s
  | .hostCharacterFramingError => Sys2Proof.Machine.execHostCharacterFramingError s
  | .hostFrameOverlength => Sys2Proof.Machine.execHostFrameOverlength s
  | .hostFrameCrcError => Sys2Proof.Machine.execHostFrameCrcError s
  | .frameTimerExpiry => Sys2Proof.Machine.execFrameTimerExpiry s
  | .hostMessageSent => Sys2Proof.Machine.execHostMessageSent s
  | .pairCharacterTaken p q char => Sys2Proof.Machine.execPairCharacterTaken p q char s
  | .hostSyncByte => Sys2Proof.Machine.execHostSyncByte s

end Sys2Proof.Machine
end

