-- ==== Sys2Proof/Safety.lean ====
section
/-! DEFINITION. The terms in which claims about the block are stated: what a next state shares with the state before, when a
frame is delivered at once, when a request takes a slot, and the invariants of the part. -/

namespace Sys2Proof.Machine

/-! ### What stays -/

/-- The Host Link but for its pending notices and the message in transmission. -/
def HostLink.still (h : HostLink) : HostLink := { h with notices := 0, tx := none }

/-- Nothing of the Host Link changes but pending notices and the message in transmission. -/
def sameHost (s t : State) : Prop := t.hl.still = s.hl.still

/-- The system state and the waiting commands stay. -/
def sameSystem (s t : State) : Prop := t.sys = s.sys ∧ t.pending = s.pending

/-- The blocks of the node stay: Consist Controller, Sweep Engine, Door Control Unit, Heating Allocator. -/
def sameNode (s t : State) : Prop := t.cc = s.cc ∧ t.se = s.se ∧ t.dcu = s.dcu ∧ t.ha = s.ha

/-- Both ports stay. -/
def samePorts (s t : State) : Prop := t.port1 = s.port1 ∧ t.port2 = s.port2

/-- A coupler port but for what a frame end changes: its pairs, L, the lost-frame counter, the held copy. -/
def Coupler.settled (c : Coupler) : Coupler :=
  { c with pairA := Pair.reset, pairB := Pair.reset, lastDelivered := none, lostFrames := 0, held := none,
           heldTimer := none }

/-- A Neighbour Monitor but for its neighbour timeout timer. -/
def Nbr.settled (n : Nbr) : Nbr := { n with timeout := none }

/-- The two ports of t are those of u, but for what a delivery changes in port p. -/
def portsBut (u t : State) (p : PortId) : Prop :=
  (t.cp p).settled = (u.cp p).settled ∧ (t.nm p).settled = (u.nm p).settled ∧ t.lr p = u.lr p ∧
    t.port (other p) = u.port (other p)

/-- Every block of t holds its power-on and hard reset values, but for the levels of the input pins, which are those of s
(10 R181). -/
def blocksReset (s t : State) : Prop :=
  (∀ p, t.cp p = Coupler.reset ∧ t.lr p = Relay.reset ∧ t.nm p = { Nbr.reset with raw := (s.nm p).raw }) ∧
    t.cc = Consist.reset ∧ t.se = SweepState.reset ∧ t.ha = Heating.reset ∧ t.hl = HostLink.reset ∧
    t.dcu = { Doors.reset with leaves := s.dcu.leaves.map fun l => { raw := l.raw, closed := l.raw, stab := none } }

/-- A notice kind is told to the host: its flag is pending, or its notice is in transmission. -/
def told (t : State) (k : Notice) : Prop := t.hl.flagged k = true ∨ ∃ l, t.hl.tx = some (.notice k l)

/-- A notice kind is in the mask. -/
def HostLink.masked (h : HostLink) (k : Notice) : Bool := h.mask.getLsbD (noticeBit k)

/-- The state a port enters from OPEN at once, or OPEN if it stays (01 R6). -/
def State.fromOpen (s : State) (p : PortId) : PortState :=
  if s.thruHold = false then .open
  else if (s.cp p).loopMode ≠ .normal then .loop
  else if (s.nm p).sense = true then .aligning
  else .open

/-- The other blocks at a departure from OPERATIONAL (04 R66, 06 R107, 07 R139, 08 R148, R151): releases, held grant and
watchdog fall; at a leader every door command ends ABORTED, TRAIN-CLOSED falls, sweeping stops and the grants are 0. At a node that was
not OPERATIONAL nothing of this changes. -/
def leftOperational (s t : State) : Prop :=
  (s.cc.node = .operational →
    t.dcu.release1 = false ∧ t.dcu.release2 = false ∧ t.ha.held = 0 ∧ t.ha.watchdog = none ∧
    (s.hl.masked .consist = true → told t .consist) ∧
    (s.cc.claim.isSome = true →
      t.dcu.queue = [] ∧ t.dcu.inFlight = none ∧ t.dcu.echoTimer = none ∧ t.dcu.trainClosed = false ∧
      t.dcu.fence = false ∧ t.se.outstanding = none ∧ t.se.launchDue = false ∧ t.se.timeout = none ∧
      t.se.intervalTimer = none ∧ t.se.lostSweeps = s.se.lostSweeps ∧ t.ha.grants = List.replicate 32 0 ∧
      t.dcu.results = joinResults s.dcu.results
        (abortResults (s.dcu.inFlight.map fun f => (f.first, f.last)) s.dcu.queue)) ∧
    (s.cc.claim = none → t.dcu.results = s.dcu.results ∧ t.ha.grants = s.ha.grants)) ∧
  (s.cc.node ≠ .operational → t.dcu.release1 = s.dcu.release1 ∧ t.dcu.release2 = s.dcu.release2 ∧
    t.ha.held = s.ha.held ∧ t.ha.watchdog = s.ha.watchdog ∧ t.dcu.queue = s.dcu.queue ∧
    t.dcu.inFlight = s.dcu.inFlight ∧ t.dcu.results = s.dcu.results ∧ t.dcu.trainClosed = s.dcu.trainClosed ∧
    t.se.outstanding = s.se.outstanding ∧ t.ha.grants = s.ha.grants)

/-- On port f a node of state s has emitted a CALL with a cause and the port it names, if f is its front port and LINKED and it
holds no claim, and nothing otherwise (04 R68). -/
def called (s t : State) (f : PortId) (cause port : Nat) : Prop :=
  t.lr f = if s.cc.claim = none ∧ s.cc.front = some f ∧ (s.cp f).st = .linked then
    (s.offer f { gen := s.cc.gen, body := .call s.sys.serial (s.cc.position.getD 0xFF) cause port }).lr f
  else s.lr f

/-- The Consist Controller of a node at a loss or change of its neighbour at port p (04 R67): without a claim it leaves PROVISIONAL or
OPERATIONAL for SUSPENDED with cause NEIGHBOUR; at a leader whose rear port it is it leaves OPERATIONAL, and the walk engine takes a
walk trigger. In any other node state nothing changes. A claim with its cab end at p has no neighbour there. -/
def neighbourGone (s t : State) (p : PortId) : Prop :=
  (s.cc.claim = none →
    t.cc = { s.cc with
      node := if s.cc.node = .operational ∨ s.cc.node = .provisional then .suspended else s.cc.node,
      lastExit := if s.cc.node = .operational ∨ s.cc.node = .provisional then .neighbour else s.cc.lastExit,
      confirmTimer := if s.cc.node = .provisional then none else s.cc.confirmTimer,
      silenceTimer := if s.cc.node = .operational then none else s.cc.silenceTimer }) ∧
  (s.cc.claim = some (other p) →
    t.cc = { s.cc with
      node := if s.cc.node = .operational then .suspended else s.cc.node,
      lastExit := if s.cc.node = .operational then .neighbour else s.cc.lastExit,
      silenceTimer := if s.cc.node = .operational then none else s.cc.silenceTimer,
      walk := if s.cc.walk = .idle then .settling else s.cc.walk,
      settleTimer := if s.cc.walk = .idle then some 0 else s.cc.settleTimer }) ∧
  (s.cc.claim ≠ some p → leftOperational s t)

/-- Port p has left its link (03 R54, 04 R67, R68): a neighbour that was PRESENT is lost, and a node without a claim that this
suspends calls on its other port with cause NEIGHBOUR; with none PRESENT the node and the other port's frames stay. -/
def neighbourLost (s t : State) (p : PortId) : Prop :=
  ((s.nm p).status = .present → neighbourGone s t p ∧
    (s.cc.node = .operational ∨ s.cc.node = .provisional → called s t (other p) 0 (portNumber p)) ∧
    (s.cc.node ≠ .operational → s.cc.node ≠ .provisional → t.lr (other p) = s.lr (other p)) ∧
    (s.hl.masked .neighbour = true → told t .neighbour)) ∧
  ((s.nm p).status ≠ .present → sameNode s t ∧ t.lr (other p) = s.lr (other p))

/-- Port p, not in OPEN in s, has entered OPEN with a cause, and has left it again at once where its conditions held (01 R6, 02
R43, 03 R54): rate, step, failures, ready, held copy and link sequence are cleared, the staged maximum is active, the pairs keep
their scores, phases and counters, the queues are emptied and counted, the neighbour is gone, and the Consist
Controller takes its loss (04 R67). -/
def openedWith (s t : State) (p : PortId) (cause : OpenCause) : Prop :=
  (t.cp p).openCause = cause ∧ (t.cp p).st = t.fromOpen p ∧ (t.cp p).activeMax = (s.cp p).stagedMax ∧
    (t.cp p).stagedMax = (s.cp p).stagedMax ∧ (t.cp p).rateCapped = false ∧ (t.cp p).step = .none ∧
    (t.cp p).failCount = 0 ∧ (t.cp p).ready = false ∧ (t.cp p).rateSettled = false ∧ (t.cp p).lastDelivered = none ∧
    (t.cp p).held = none ∧ (t.cp p).heldTimer = none ∧ (t.cp p).retryTimer = none ∧
    (t.cp p).rate = (if (t.cp p).localLoop then (s.cp p).stagedMax else 0) ∧
    (∀ q, ((t.cp p).pair q).brk = false ∧ ((t.cp p).pair q).lastGood = none ∧ ((t.cp p).pair q).silence = none ∧
      ((t.cp p).pair q).crcErrors = ((s.cp p).pair q).crcErrors) ∧
    (t.lr p).waitingFrames = 0 ∧ (t.lr p).tx = none ∧
    (t.lr p).dropped = min 65535 ((s.lr p).dropped + (s.lr p).waitingFrames + (s.lr p).cutFrames) ∧
    (t.nm p).status = .absent ∧ (t.nm p).record = none ∧ (t.nm p).candidate = none ∧ (t.nm p).beatTimer = none ∧
    (t.nm p).timeout = none ∧ (s.hl.masked .port = true → told t .port) ∧ sameSystem s t ∧ sameHost s t ∧
    (t.cp (other p)).st = (s.cp (other p)).st ∧ t.nm (other p) = s.nm (other p) ∧ neighbourLost s t p

/-- Pair q of a LINKED port has ended a good frame other than PATTERN with a sequence (01 R18, R19). Of the sequences delivered from
the other pair's copies, m lie after its last good sequence and before this one; the score takes 4 for each of the m above the bad
frames ended since, stops at 15, and falls by 1. Of those sequences the port keeps the ones that still lie ahead (log entry 15). -/
def goodFrameCharged (c d : Coupler) (q : PairId) (seq : Nat) : Prop :=
  let m := match (c.pair q).lastGood with
    | none => 0
    | some l => ((c.pair (otherPair q)).copies.filter fun k =>
        decide (0 < seqDist k l) && decide (seqDist k l < seqDist seq l)).length
  (d.pair q).score = min 15 ((c.pair q).score + 4 * (m - (c.pair q).badSince)) - 1 ∧
    (d.pair q).lastGood = some seq ∧ (d.pair q).badSince = 0 ∧ (d.pair q).silence = some 0 ∧
    (d.pair q).deliveredSince = false ∧ (d.pair q).inFrame = false ∧
    (d.pair (otherPair q)).copies = (c.pair (otherPair q)).copies.filter (seqNewer · seq) ∧
    (d.pair (otherPair q)).score = (c.pair (otherPair q)).score

/-- The settings and the counters that no walk and no departure changes. -/
def sameSettings (s t : State) : Prop :=
  t.dcu.leaves = s.dcu.leaves ∧ t.dcu.isolated = s.dcu.isolated ∧ t.dcu.windows = s.dcu.windows ∧
    t.dcu.standstill = s.dcu.standstill ∧ t.dcu.lastId = s.dcu.lastId ∧ t.dcu.openTimer = s.dcu.openTimer ∧
    t.dcu.boost = s.dcu.boost ∧ t.ha.level = s.ha.level ∧ t.ha.capacity = s.ha.capacity ∧ t.ha.ramp = s.ha.ramp ∧
    t.ha.holdOff = s.ha.holdOff ∧ t.ha.lockout = s.ha.lockout ∧ t.ha.trips = s.ha.trips ∧
    t.se.interval = s.se.interval ∧ t.cc.coach = s.cc.coach

/-- A leader's walk attempt has started with a WALK on its rear port (05 R84, 04 R62): the next generation, position 1, its own
entry collected, the walk timer running. -/
def attemptStarted (s t : State) (which : WalkState) : Prop :=
  t.cc = { s.cc with
    gen := s.cc.gen % 255 + 1, position := some 1, node := .provisional, table := Table.empty, walk := which,
    settleTimer := none, walkTimer := some 0, callHeld := false,
    records := [{ serial := s.sys.serial, position := 1, orientation := s.cc.orientation.getD .forward,
                  cls := s.cc.coach.cls, leaves1 := s.cc.coach.leaves1, leaves2 := s.cc.coach.leaves2,
                  stepPower := s.cc.coach.stepPower, lead := true }],
    lastExit := if s.cc.node = .operational then .walk else s.cc.lastExit,
    silenceTimer := if s.cc.node = .operational then none else s.cc.silenceTimer } ∧
  t.se.lastSeen = none ∧ t.se.gap = false ∧ t.se.lastSent = none ∧ t.dcu.lastDoor = none ∧ t.ha.lastTaken = none ∧
  leftOperational s t ∧ sameSettings s t ∧ sameSystem s t ∧ sameHost s t

/-- A claim has fallen for a conflict (05 R79, R90, 04 R69): the walk is abandoned and the node is SUSPENDED; front port and
orientation stay only with a position. -/
def claimFell (s t : State) : Prop :=
  t.cc = { s.cc with
    claim := none, leadCause := .conflict, node := .suspended, lastExit := .conflict, walk := .idle,
    settleTimer := none, walkTimer := none, records := [], callHeld := false,
    confirmTimer := if s.cc.node = .provisional then none else s.cc.confirmTimer,
    silenceTimer := if s.cc.node = .operational then none else s.cc.silenceTimer,
    front := if s.cc.position.isSome then s.cc.front else none,
    orientation := if s.cc.position.isSome then s.cc.orientation else none } ∧
  leftOperational s t ∧ sameSettings s t ∧ (s.hl.masked .lead = true → told t .lead) ∧ sameSystem s t ∧ sameHost s t

/-- The collected records of positions 1 to n, in order (05 R93). -/
def heldEntries (s : State) (n : Nat) : List Entry := (List.range n).filterMap fun i => recordAt s.cc.records (i + 1)

/-- A leader has confirmed its walk at n positions and launched the first sweep of the generation (05 R93, 06 R103, R105, 08
R151). -/
def walkConfirmed (s t : State) (n : Nat) (reason : Reason) : Prop :=
  t.cc = { s.cc with
    table := { gen := s.cc.gen, reason, entries := heldEntries s n }, walkTimer := none, confirmTimer := none,
    node := .operational, confirmCheck := true, walk := if s.cc.callHeld then .settling else .idle,
    settleTimer := if s.cc.callHeld then some 0 else s.cc.settleTimer, records := [], callHeld := false } ∧
  t.se = { s.se with
    outstanding := some 0, lastLaunched := some 0, launchDue := false, refresh := false, lostRow := 0,
    timeout := some 0, intervalTimer := some 0, intervalPeriod := s.se.interval, summary := none,
    lastFull := List.replicate 32 none, demand := List.replicate 32 0, lastSeen := some 0,
    gap := false, lastSent := t.se.lastSent } ∧
  t.ha = { s.ha with grants := List.replicate 32 0, rotation := 1 } ∧ t.dcu = s.dcu ∧
  (s.hl.masked .consist = true → told t .consist) ∧ sameSystem s t ∧ sameHost s t

/-- The record a node builds for a sweep of a number, with the gap flag after its check (06 R108, R112). -/
def State.sweptRecord (s : State) (number : Nat) : Record :=
  { s.buildRecord with
    gap := s.se.gap || decide (number ≠ match s.se.lastSeen with
      | none => 0
      | some n => (n + 1) % 16) }

/-- The node sends a NIL in place of the record it has just built (06 R109). -/
def State.sendsNil (s : State) (r : Record) (refresh : Bool) : Bool :=
  !refresh && s.se.lastSent == some r && r.closed && !r.relLeft && !r.relRight && s.cc.node == .operational

/-- The element a node appends (06 R109). -/
def State.sweptElement (s : State) (r : Record) (refresh : Bool) : Element :=
  if s.sendsNil r refresh then .nil else .full r

/-- The node-side sweep state after an element is appended (06 R102, R109, R112). -/
def SweepState.answered (e : SweepState) (number : Nat) (r : Record) (x : Element) : SweepState :=
  { e with lastSeen := some number, gap := false, lastSent := if x = .nil then e.lastSent else some r }

/-- The outstanding sweep of an OPERATIONAL leader is lost, with no launch due (06 R118, 07 R143). -/
def sweepLost (s t : State) (cause : LossCause) (failures : Nat) : Prop :=
  t.se = { s.se with
    outstanding := none, timeout := none, lostRow := min 255 (s.se.lostRow + 1),
    lostSweeps := min 65535 (s.se.lostSweeps + 1), refresh := true, coverageFailures := failures,
    lastLost := s.se.outstanding.map fun n => { gen := s.cc.gen, number := n, cause } } ∧
  t.dcu = { s.dcu with trainClosed := false, fence := false } ∧
  (s.dcu.trainClosed = true → s.hl.masked .closed = true → told t .closed) ∧
  (s.hl.masked .sweepLost = true → told t .sweepLost) ∧ t.ha = s.ha ∧
  t.cc = (if 1 ≤ s.se.lostRow ∧ s.cc.walk = .idle then { s.cc with walk := .settling, settleTimer := some 0 } else s.cc) ∧
  sameSystem s t ∧ sameHost s t

/-! ### When a command takes effect -/

/-- The outcome is a next state of which P holds. -/
def completes (o : Host.Outcome State Fault Refusal) (P : State → Prop) : Prop := ∃ t, o = .next t ∧ P t

/-- The command that stands for a good frame which pair q of port p ends with a link sequence. -/
def Frame.command (f : Frame) (p : PortId) (q : PairId) (seq : Nat) : Instr :=
  match f.body with
  | .pattern ready rate => .pattern p q ready rate
  | .beat b => .beat p q seq f.gen b
  | .walk leader next => .walk p q seq f.gen leader next
  | .node e => .node p q seq f.gen e
  | .tail flags last serial => .tail p q seq f.gen flags last serial
  | .clash claimant leader => .clash p q seq f.gen claimant leader
  | .confirm n reason entries => .confirm p q seq f.gen n reason entries
  | .call serial position cause port => .call p q seq f.gen serial position cause port
  | .door id action side first last => .door p q seq f.gen id action side first last
  | .echo id applied => .echo p q seq f.gen id applied
  | .sweep number flags n list => .sweep p q seq f.gen number flags n list
  | .ret number flags n list => .sweepReturn p q seq f.gen number flags n list
  | .grant cause number n grants => .grant p q seq f.gen cause number n grants
  | .raw kind direction payload => .malformedFrame p q seq f.gen kind direction payload

/-- Pair q of port p frames characters in LINKED, it is the preferred pair, no copy is held, and the sequence is new: a good
frame other than PATTERN that it ends is delivered at once (01 R21), before its pair's health changes (log entry 13). -/
abbrev deliversNow (s : State) (p : PortId) (q : PairId) (seq : Nat) : Prop :=
  s.clocked = true ∧ (s.cp p).st = .linked ∧ q = (s.cp p).preferred ∧ (s.cp p).held = none ∧
    isNew (s.cp p).lastDelivered seq = true

/-- A request that arrives is received, its frame standing in the assembler, and finds a slot free (09 R169, R170). -/
abbrev takesSlot (s : State) : Prop := s.hostListening = true ∧ s.hl.inFrame = true ∧ s.hl.slots.length < 4

/-- A request of this kind and tag has taken a slot, and its reply has joined the reply queue; the assembler hunts
(09 R169 to R171). Nothing else changes. -/
def State.replied (s : State) (kind tag : Nat) (payload : List Nat) (status : Status) (fields : List Nat) : State :=
  { s with hl := { s.hl with
      assembler := none, frameTimer := none, slots := s.hl.slots ++ [{ kind, tag, payload }],
      replies := s.hl.replies ++ [{ kind, tag, status, fields }] } }

/-- The request that a command stands for: its kind, its tag and its payload (09 R174; log entry 10 for the three rows of Set Port);
none for a command that is no request. -/
def requestOf : Instr → Option Request
  | .getIdentity tag payload => some { kind := 0x01, tag, payload }
  | .setCoach tag payload => some { kind := 0x02, tag, payload }
  | .claimLead tag payload => some { kind := 0x03, tag, payload }
  | .dropLead tag payload => some { kind := 0x04, tag, payload }
  | .startInauguration tag payload => some { kind := 0x05, tag, payload }
  | .getConsist tag payload => some { kind := 0x06, tag, payload }
  | .getNode tag payload => some { kind := 0x07, tag, payload }
  | .setWindow tag payload => some { kind := 0x08, tag, payload }
  | .doorCommand tag payload => some { kind := 0x09, tag, payload }
  | .getDoorResults tag payload => some { kind := 0x0A, tag, payload }
  | .setStandstill tag payload => some { kind := 0x0B, tag, payload }
  | .setHeatLevel tag payload => some { kind := 0x0C, tag, payload }
  | .setSupply tag payload => some { kind := 0x0D, tag, payload }
  | .supplyTrip tag payload => some { kind := 0x0E, tag, payload }
  | .getHeating tag payload => some { kind := 0x0F, tag, payload }
  | .setSweepInterval tag payload => some { kind := 0x10, tag, payload }
  | .setPortMaximumRate tag payload => some { kind := 0x11, tag, payload }
  | .setPortLoopMode tag payload => some { kind := 0x11, tag, payload }
  | .setPortForceRealign tag payload => some { kind := 0x11, tag, payload }
  | .getPort tag payload => some { kind := 0x12, tag, payload }
  | .isolateLeaves tag payload => some { kind := 0x13, tag, payload }
  | .enterIsolation tag payload => some { kind := 0x14, tag, payload }
  | .leaveIsolation tag payload => some { kind := 0x15, tag, payload }
  | .setNotices tag payload => some { kind := 0x16, tag, payload }
  | .softReset tag payload => some { kind := 0x17, tag, payload }
  | .unknownRequest kind tag payload => some { kind, tag, payload }
  | _ => none

/-- The records that one element of a RETURN's list stands for at position p of the train, over the records the leader holds
(06 R115): a full record of that position, or the held records of the positions a NIL or a NIL-RUN covers. -/
def elementStands (held : List (Option Record)) (p : Nat) (x : Element) (part : List Record) : Prop :=
  match x with
  | .full r => part = [r] ∧ r.position = p
  | .nil => part.length = 1 ∧ part.map some = (held.drop (p - 1)).take 1
  | .nilRun k => 2 ≤ k ∧ k ≤ 32 ∧ part.length = k ∧ part.map some = (held.drop (p - 1)).take k

/-- The records that a list stands for from position p on, element by element (06 R115). -/
def listStands (held : List (Option Record)) : Nat → List Element → List Record → Prop
  | _, [], records => records = []
  | p, x :: l, records => ∃ part rest, records = part ++ rest ∧ elementStands held p x part ∧
      listStands held (p + part.length) l rest

/-! ### Invariants -/

/-- Outside OPERATIONAL nothing is released and nothing is granted (04 R66, 07 R124, 08 R148). -/
def State.quietOutside (s : State) : Prop :=
  s.cc.node ≠ .operational →
    s.dcu.release1 = false ∧ s.dcu.release2 = false ∧ s.ha.held = 0 ∧ s.ha.watchdog = none

/-- The leader's state that stands only at an OPERATIONAL leader: door commands, the closed proof and its fence, a sweep
outstanding or due, grants, and the timers of these (06 R107, 07 R125, 08 R151). -/
def State.holdsLeaderState (s : State) : Prop :=
  s.dcu.queue ≠ [] ∨ s.dcu.inFlight.isSome = true ∨ s.dcu.echoTimer.isSome = true ∨ s.dcu.trainClosed = true ∨
    s.dcu.fence = true ∨ s.se.outstanding.isSome = true ∨ s.se.launchDue = true ∨ s.se.timeout.isSome = true ∨
    s.se.intervalTimer.isSome = true ∨ s.ha.grants.any (· != 0) = true

/-- Only an OPERATIONAL leader holds it. -/
def State.leaderOnly (s : State) : Prop := s.holdsLeaderState → s.operationalLeader = true

/-- The walk engine runs only while a lead claim is held, and its settle timer only in SETTLING (05 section 5.1). -/
def State.walkOfClaim (s : State) : Prop :=
  (s.cc.walk ≠ .idle → s.cc.claim.isSome = true) ∧ (s.cc.settleTimer.isSome = true → s.cc.walk = .settling) ∧
    (s.cc.walkTimer.isSome = true → s.cc.walking = true)

/-- The safety invariant of the node. -/
def State.nodeInv (s : State) : Prop := s.quietOutside ∧ s.leaderOnly ∧ s.walkOfClaim

/-- The coach record's fields lie in their ranges (04 R74). -/
def Coach.inRange (c : Coach) : Prop :=
  c.cls ≤ 15 ∧ c.leaves1 ≤ 4 ∧ c.leaves2 ≤ 4 ∧ 1 ≤ c.stepPower ∧ c.stepPower ≤ 40

/-- The collected records can stand in a table, and an attempt holds the leader's own (05 R78, R84, R89). -/
def Consist.recordsInv (c : Consist) : Prop :=
  (∀ e ∈ c.records, entryInRange e = true ∧ e.lead = (e.position == 1)) ∧
    (c.walking = true → (recordAt c.records 1).isSome = true)

/-- Position, generation, orientation and front port belong together (04 R61, R62, R72, R77). -/
def Consist.placeInv (c : Consist) : Prop :=
  (c.position.isSome = true ↔ c.gen ≠ 0) ∧ c.orientation.isSome = c.front.isSome ∧
    (c.position.isSome = true → c.front.isSome = true) ∧ (c.claim.isSome = true → c.front = c.claim) ∧
    (c.node = .detached ∨ c.node = .isolated → c.gen = 0) ∧ (c.node = .isolated → c.claim = none)

/-- The table is the empty one, or well-formed, of the node's generation, in OPERATIONAL or SUSPENDED (04 R70, R71). -/
def Consist.tableInv (c : Consist) : Prop :=
  (c.table.entries = [] → c.table = Table.empty ∧ c.node ≠ .operational) ∧
    (c.table.entries ≠ [] → tableWellFormed c.table.entries.length c.table.entries = true ∧ c.table.gen = c.gen ∧
      (c.node = .operational ∨ c.node = .suspended))

/-- The consist invariant of the node, with its own serial not zero (03 R48). -/
def State.consistInv (s : State) : Prop :=
  s.sys.serial ≠ 0 ∧ s.cc.coach.inRange ∧ s.cc.recordsInv ∧ s.cc.placeInv ∧ s.cc.tableInv

/-- The heating invariant (08 R145, R151, R158): levels and demands lie in 0 to 7, grants lie within the demand table, total
at most the capacity over the table's positions, and are 0 in hold-off and lockout; the rotation start names a position. -/
def State.heatInv (s : State) : Prop :=
  s.ha.grants.length = 32 ∧ s.se.demand.length = 32 ∧ s.ha.level ≤ 7 ∧ s.ha.held ≤ 7 ∧
    (∀ d ∈ s.se.demand, d ≤ 7) ∧ (∀ i < 32, s.ha.grants.getD i 0 ≤ s.se.demand.getD i 0) ∧
    totalPower (s.ha.grants.take s.consistN) s.powers ≤ s.ha.capacity ∧
    (s.ha.barred = true → ∀ g ∈ s.ha.grants, g = 0) ∧
    1 ≤ s.ha.rotation ∧ (s.operationalLeader = true → s.ha.rotation ≤ s.consistN)

/-- The host link's bookkeeping: a reply for every held slot, at most four (09 R170), and a message in transmission that
still stands in its queue (09 R172). -/
def State.hostInv (s : State) : Prop :=
  s.hl.replies.length = s.hl.slots.length ∧ s.hl.slots.length ≤ 4 ∧
    (s.hl.tx = some .reply → s.hl.replies ≠ []) ∧ (s.hl.tx = some .busy → s.hl.refusal.isSome = true)

/-- A port's queues keep their sizes, its holding slot is used only behind a full queue, and no head has improved its level more
often than its waiting time has reached a multiple of 5 ms (02 R37 to R40). -/
def Relay.inv (r : Relay) : Prop :=
  r.control.frames.length ≤ 4 ∧ r.door.frames.length ≤ 4 ∧ r.grant.frames.length ≤ 4 ∧ r.sweep.frames.length ≤ 4 ∧
    r.beat.frames.length ≤ 1 ∧
    (∀ c f, r.slot = some (c, f) → c ≠ .beat ∧ (r.queue c).frames.length = 4) ∧
    ∀ c, (r.queue c).aged ≤ (r.queue c).agings c

/-- Both ports' queues are as their rules leave them. -/
def State.queueInv (s : State) : Prop := s.port1.lr.inv ∧ s.port2.lr.inv

end Sys2Proof.Machine
end

