-- ==== Sys2Proof/WellFormed.lean ====
section
/-! DEFINITION. What a command must satisfy to be one the outside world can send: numbers within the bytes that carry
them (11 R185, R186), leaf inputs LEAF-1 to LEAF-8, host kinds that name no request for UNKNOWN_REQUEST. -/

namespace Sys2Proof

/-- The number fits one byte. -/
abbrev isByte (n : Nat) : Prop := n < 256

/-- A byte string of at most `max` bytes. -/
abbrev isBytes (max : Nat) (l : List Nat) : Prop := l.length ≤ max ∧ ∀ b ∈ l, b < 256

/-- The link sequence and the generation of a header are bytes (11 section 11.2). -/
abbrev isHeader (seq gen : Nat) : Prop := seq < 256 ∧ gen < 256

/-- An entry's fields fit its eight bytes: four bits each for class and leaf counts (11 section 11.2). -/
abbrev Entry.fits (e : Entry) : Prop :=
  e.position < 256 ∧ e.cls < 16 ∧ e.leaves1 < 16 ∧ e.leaves2 < 16 ∧ e.stepPower < 256

/-- An entry on a line, its two unnamed bits included, fits its eight bytes. -/
abbrev LineEntry.fits (e : LineEntry) : Prop := e.entry.fits ∧ e.spare < 4

/-- The tag and the payload of a request message: at most 250 payload bytes (09 R169). -/
abbrev isRequest (tag : Nat) (payload : List Nat) : Prop := tag < 256 ∧ isBytes 250 payload

/-- The command is one the outside world can send. -/
abbrev WellFormed : Instr → Prop
  | .leafInputChange n _ | .leafDebounce n => 1 ≤ n ∧ n ≤ 8
  | .pattern _ _ _ rate => isByte rate
  | .malformedFrame _ _ seq gen kind direction payload =>
      isHeader seq gen ∧ isByte kind ∧ isByte direction ∧ isBytes 300 payload
  | .beat _ _ seq gen b =>
      isHeader seq gen ∧ isByte b.port ∧ isByte b.node ∧ isByte b.maxRate ∧ isByte b.rate
  | .walk _ _ seq gen _ next => isHeader seq gen ∧ isByte next
  | .node _ _ seq gen e => isHeader seq gen ∧ e.fits
  | .tail _ _ seq gen flags last _ => isHeader seq gen ∧ isByte flags ∧ isByte last
  | .clash _ _ seq gen _ _ => isHeader seq gen
  | .call _ _ seq gen _ position cause port =>
      isHeader seq gen ∧ isByte position ∧ isByte cause ∧ isByte port
  | .confirm _ _ seq gen n reason entries =>
      isHeader seq gen ∧ isByte n ∧ isByte reason ∧ entries.length ≤ 32 ∧ 1 ≤ entries.length ∧
        ∀ e ∈ entries, e.fits
  | .sweep _ _ seq gen number flags n list | .sweepReturn _ _ seq gen number flags n list =>
      isHeader seq gen ∧ isByte number ∧ isByte flags ∧ isByte n ∧ isBytes 192 list ∧ 1 ≤ list.length
  | .door _ _ seq gen id action side first last =>
      isHeader seq gen ∧ isByte id ∧ isByte action ∧ isByte side ∧ isByte first ∧ isByte last
  | .echo _ _ seq gen id _ => isHeader seq gen ∧ isByte id
  | .grant _ _ seq gen cause number n grants =>
      isHeader seq gen ∧ isByte cause ∧ isByte number ∧ isByte n ∧ isBytes 32 grants ∧ 1 ≤ grants.length
  | .getIdentity tag payload | .setCoach tag payload | .claimLead tag payload | .dropLead tag payload
  | .startInauguration tag payload | .getConsist tag payload | .getNode tag payload | .setWindow tag payload
  | .doorCommand tag payload | .getDoorResults tag payload | .setStandstill tag payload
  | .setHeatLevel tag payload | .setSupply tag payload | .supplyTrip tag payload | .getHeating tag payload
  | .setSweepInterval tag payload | .setPortMaximumRate tag payload | .setPortLoopMode tag payload
  | .setPortForceRealign tag payload | .getPort tag payload | .isolateLeaves tag payload
  | .enterIsolation tag payload | .leaveIsolation tag payload | .setNotices tag payload
  | .softReset tag payload => isRequest tag payload
  | .unknownRequest kind tag payload => isByte kind ∧ ¬ (1 ≤ kind ∧ kind ≤ 0x17) ∧ isRequest tag payload
  | .pairCharacterTaken _ _ char => isByte char
  | .powerOnReset | .hardReset | .resetRelease _ _ | .startupEnd | .hostTxMarkSettled | .refclkLoss _
  | .coupledInputChange _ _ | .couplerSenseDebounce _ | .openTimerBoost | .falseStart _ _
  | .strayCharacterFramingError _ _ | .lineIdleAbandon _ _ | .badFrame _ _ _ | .patternRepetition _ _ _
  | .patternTimer _ | .attemptTimerExpiry _ | .retryTimerExpiry _ | .pairBreak _ _ | .breakEnd _ _
  | .silenceTimerExpiry _ _ | .heldCopyTimerExpiry _ | .transmitEnd _ | .headFrameAging _ _
  | .beatTimerExpiry _ | .neighbourTimeout _ | .settleTimerExpiry | .walkTimerExpiry | .confirmTimerExpiry
  | .sweepSilenceTimerExpiry | .intervalTimerExpiry | .sweepTimeout | .echoTimerExpiry
  | .grantWatchdogExpiry | .holdOffExpiry | .tripEntryRemoval | .softResetEffect _
  | .hostCharacterFramingError | .hostFrameOverlength | .hostFrameCrcError | .frameTimerExpiry
  | .hostMessageSent | .hostSyncByte => True

end Sys2Proof
end

