-- ==== Sys2Proof/Certificates/Slice0/Obligations.lean ====
section
/-! DEFINITION. The statements for the provers. `completes (exec c s) P` says that command c answers a next state of which
P holds. Where a statement gives a whole next state, `State.hostKick` is the choice of the host transmitter that ends every
event (09 R172), which HostTransmitterServesInOrder states. Each docstring names the rules of spec/ that its statement follows, and the
log entry where it rests on a choice of the model. -/

open Sys2Proof Sys2Proof.Machine

/-- Step runs the command at the front of the queue on the state with the queue's rest (the block's command queue, log entry 2). -/
def Obligations.StepRunsFrontCommand : Prop :=
  ∀ (c : Instr) (s : State), step { s with pending := c :: s.pending } = exec c s

/-- REFCLK and HOST-TX events, and the empty queue (10 R180, R184; log entries 2 and 3): with REFCLK stopped or a reset asserted
nothing moves; else an expiry or an aging that has come due is taken; else one tick passes, which every running timer counts, and the
heads of a LINKED port's five queues wait it. The 10 ms after a PATTERN frame (01 R13) end with their tenth tick. An expiry or aging that is
not due, or with REFCLK stopped or a reset asserted, has no effect. -/
def Obligations.TimebaseTicksWhileRefclkRuns : Prop :=
  ∀ (s : State) (b : Bool),
    exec (.refclkLoss b) s = .next (State.hostKick { s with sys := { s.sys with refclkStopped := b } }) ∧
    (s.running = true →
      exec .hostTxMarkSettled s = .next (State.hostKick { s with hl := { s.hl with txHold := false } })) ∧
    (∀ due c, (due, c) ∈ s.allDue → due = false ∨ s.ticking = false → exec c s = .next s.hostKick) ∧
    (s.pending = [] →
      (s.ticking = false → step s = .next s) ∧
      (∀ c, s.dueEvent = some c → step s = exec c s) ∧
      (s.ticking = true → s.dueEvent = none → completes (step s) fun t =>
        t.sys = { s.sys with ticks := s.sys.ticks + 1, init := s.sys.init.map (· + 1) } ∧
        t.cc = { s.cc with
          confirmTimer := s.cc.confirmTimer.map (· + 1), silenceTimer := s.cc.silenceTimer.map (· + 1),
          settleTimer := s.cc.settleTimer.map (· + 1), walkTimer := s.cc.walkTimer.map (· + 1) } ∧
        t.se = { s.se with intervalTimer := s.se.intervalTimer.map (· + 1), timeout := s.se.timeout.map (· + 1) } ∧
        t.ha = { s.ha with watchdog := s.ha.watchdog.map (· + 1), holdOff := s.ha.holdOff.map (· + 1) } ∧
        t.dcu = { s.dcu with
          leaves := s.dcu.leaves.map fun l => { l with stab := l.stab.map (· + 1) },
          openTimer := s.dcu.openTimer.map (· + 1), echoTimer := s.dcu.echoTimer.map (· + 1) } ∧
        t.hl.frameTimer = s.hl.frameTimer.map (· + 1) ∧
        ∀ p, t.nm p = { s.nm p with
            beatTimer := (s.nm p).beatTimer.map (· + 1), timeout := (s.nm p).timeout.map (· + 1),
            stab := (s.nm p).stab.map (· + 1) } ∧
          t.cp p = { s.cp p with
            heldTimer := (s.cp p).heldTimer.map (· + 1), attemptTimer := (s.cp p).attemptTimer.map (· + 1),
            retryTimer := (s.cp p).retryTimer.map (· + 1), patternTimer := (s.cp p).patternTimer.map (· + 1),
            answerGuard := (s.cp p).answerGuard.bind fun k => if k < 9 then some (k + 1) else none,
            pairA := { (s.cp p).pairA with silence := (s.cp p).pairA.silence.map (· + 1) },
            pairB := { (s.cp p).pairB with silence := (s.cp p).pairB.silence.map (· + 1) } } ∧
          ((s.cp p).st ≠ .linked → t.lr p = s.lr p) ∧
          ((s.cp p).st = .linked →
            (∀ c, (t.lr p).queue c = { (s.lr p).queue c with
              waited := if ((s.lr p).queue c).frames = [] then ((s.lr p).queue c).waited
                else ((s.lr p).queue c).waited + 1 }) ∧
            { t.lr p with control := .empty, door := .empty, grant := .empty, sweep := .empty, beat := .empty } =
              { s.lr p with control := .empty, door := .empty, grant := .empty, sweep := .empty, beat := .empty })))

/-- Every output is low outside the running phase; running, HEAT-ENABLE, SUPPLY-ENABLE, RELEASE and THRU-HOLD follow the
conditions of 08 R147, R153, 07 R124, 03 R58 (10 R183). -/
def Obligations.OutputPinsFollowTheirConditions : Prop :=
  ∀ (s : State),
    (s.running = false →
      s.release1Out = false ∧ s.release2Out = false ∧ s.heatEnable = false ∧ s.supplyEnable = false ∧
        s.trainClosedOut = false ∧ s.thruHold = false ∧ s.hostTxDriven = false) ∧
    (s.running = true →
      (s.heatEnable = true ↔ s.cc.node = .operational ∧ 0 < s.ha.held ∧ s.ha.watchdog ≠ none) ∧
      (s.supplyEnable = true ↔ s.cc.claim ≠ none ∧ s.cc.node = .operational ∧ 0 < s.ha.capacity ∧
        s.ha.holdOff = none ∧ s.ha.lockout = false) ∧
      s.release1Out = s.dcu.release1 ∧ s.release2Out = s.dcu.release2 ∧ s.trainClosedOut = s.dcu.trainClosed ∧
      (s.thruHold = true ↔ s.cc.node ≠ .isolated))

/-- Power-on and hard reset, and their release (10 R181, R182; 03 R57; 07 R120). A reset that still stands keeps the part in
reset; the last release starts the initialisation, reads RATESEL and starts the input timers. A power-on reset ends on REFCLK, so
its release has no effect while REFCLK stands still. Log entry 25: which line a release names. -/
def Obligations.ResetsRestoreEveryBlockAndReleaseStartsUp : Prop :=
  ∀ (s : State) (line : ResetLine) (r : Bool),
    completes (exec .powerOnReset s) (fun t => blocksReset s t ∧ t.pending = s.pending ∧
      t.sys = { s.sys with porAsserted := true, cause := .power, init := none, ticks := 0 }) ∧
    completes (exec .hardReset s) (fun t => blocksReset s t ∧ t.pending = s.pending ∧
      t.sys = { s.sys with
        pinAsserted := true, cause := if s.sys.porAsserted then .power else .pin, init := none, ticks := 0 }) ∧
    (s.sys.releases .power = true ↔ s.sys.porAsserted = true ∧ s.clocked = true) ∧
    (s.sys.releases .pin = true ↔ s.sys.pinAsserted = true) ∧
    (s.sys.releases line = false → exec (.resetRelease line r) s = .next s.hostKick) ∧
    (s.sys.releases line = true → s.sys.porAsserted = true → s.sys.pinAsserted = true →
      exec (.resetRelease line r) s = .next { s with sys := s.sys.release line }) ∧
    (s.sys.releases line = true → (s.sys.release line).porAsserted = false →
      (s.sys.release line).pinAsserted = false →
      completes (exec (.resetRelease line r) s) fun t =>
        t.sys = { s.sys.release line with init := some 0, ticks := 0, ratesel := r } ∧ t.hl.rateHigh = r ∧
        t.cc = s.cc ∧ t.se = s.se ∧ t.ha = s.ha ∧ t.pending = s.pending ∧
        t.dcu.leaves = (s.dcu.leaves.map fun l => { raw := l.raw, closed := l.raw, stab := some 0 }) ∧
        t.dcu.openTimer.isSome = t.anyLeafOpen ∧ t.dcu.release1 = s.dcu.release1 ∧ t.dcu.release2 = s.dcu.release2 ∧
        ∀ p, t.cp p = s.cp p ∧ t.lr p = s.lr p ∧ t.nm p = { s.nm p with stab := some 0 })

/-- The end of the initialisation at its 20th tick (10 R182, 03 R58, 01 R6): THRU-HOLD rises, START is raised, HOST-TX settles before the
first message, and each port in OPEN enters LOOP, aligns at base rate, or stays. No PATTERN frame goes out at that event: that the first
one is due 1 ms later is the model's choice (log entry 18). -/
def Obligations.StartupEndOpensThePart : Prop :=
  ∀ (s : State),
    s.ticking = true →
    timerDue s.sys.init 20 = true →
    s.cc.node ≠ .isolated →
    (∀ p, (s.cp p).st = .open ∧ (s.cp p).pairA.brk = false ∧ (s.cp p).pairB.brk = false) →
    completes (exec .startupEnd s) fun t =>
      t.sys = { s.sys with init := none } ∧ t.thruHold = true ∧ t.hl.txHold = true ∧ t.hl.tx = s.hl.tx ∧
      (s.hl.masked .start = true → t.hl.flagged .start = true) ∧ sameNode s t ∧ t.pending = s.pending ∧
      ∀ p, t.lr p = s.lr p ∧
        (t.cp p).st = (if (s.cp p).loopMode ≠ .normal then .loop
          else if (s.nm p).sense = true then .aligning else .open) ∧
        ((t.cp p).st = .aligning → (t.cp p).rate = 0 ∧ (t.cp p).attemptTimer = some 0 ∧
          (t.cp p).pairA.st = .scanning ∧ (t.cp p).pairB.st = .scanning) ∧
        ((t.cp p).st = .open → t.cp p = s.cp p ∧ t.nm p = s.nm p)

/-- The soft reset takes effect when the OK reply of a Soft Reset has been sent, whether its own command or HOST_MESSAGE_SENT names
that event (09 R173, R167, R168; 01 R5; 02 R46; 03 R49; 04 R60; 06 R101; 07 R125; 08 R151). HOST_MESSAGE_SENT does not name the level
of RATESEL that is read then: it is a free value (log entry 27). -/
def Obligations.SoftResetFollowsItsReply : Prop :=
  ∀ (s : State) (r : Bool),
    s.hostSending = true →
    s.hl.endsInReset = true →
    completes (exec (.softResetEffect r) s) (fun t =>
      t.sys = { s.sys with cause := .soft, ratesel := r } ∧ t.pending = s.pending ∧
      t.cc = { Consist.reset with coach := s.cc.coach } ∧
      t.se = { SweepState.reset with interval := s.se.interval, intervalPeriod := s.se.interval } ∧
      t.ha = { Heating.reset with level := s.ha.level, capacity := s.ha.capacity, ramp := s.ha.ramp } ∧
      t.dcu.leaves = s.dcu.leaves ∧ t.dcu.isolated = s.dcu.isolated ∧ t.dcu.windows = s.dcu.windows ∧
      t.dcu.openTimer = (if t.anyLeafOpen then some 0 else none) ∧
      { t.dcu with leaves := [], isolated := 0, windows := [], openTimer := none } =
        { Doors.reset with leaves := [], isolated := 0, windows := [] } ∧
      t.hl.still = { HostLink.reset with rateHigh := r, mask := s.hl.mask } ∧
      (s.hl.masked .start = true → told t .start) ∧ t.thruHold = true ∧
      ∀ p, t.lr p = Relay.reset ∧
        t.nm p = { Nbr.reset with raw := (s.nm p).raw, sense := (s.nm p).sense, stab := (s.nm p).stab } ∧
        (t.cp p).stagedMax = (s.cp p).stagedMax ∧ (t.cp p).activeMax = (s.cp p).stagedMax ∧
        (t.cp p).loopMode = (s.cp p).loopMode ∧
        (t.cp p).st = (if (s.cp p).loopMode ≠ .normal then .loop
          else if (s.nm p).sense = true then .aligning else .open)) ∧
    exec .hostMessageSent s = exec (.softResetEffect (Config.openRatesel s.sys.freeCount))
      { s with sys := { s.sys with freeCount := s.sys.freeCount + 1 } }

/-- The host transmitter: when a message ends, a BUSY reply leaves the refusal slot, a reply leaves its queue and frees its
request's slot (09 R170, R172); an idle transmitter takes the BUSY reply, else the head reply, else, with no soft reset pending, the
first pending notice in the order of 09 R178 with its content as it stands, and clears its flag. -/
def Obligations.HostTransmitterServesInOrder : Prop :=
  ∀ (s : State) (k : Notice) (l : List Nat),
    (s.running = true → s.clocked = true → s.hl.endsInReset = false →
      (s.hl.tx = some .busy → exec .hostMessageSent s =
        .next (State.hostKick { s with hl := { s.hl with tx := none, refusal := none } })) ∧
      (s.hl.tx = some .reply → exec .hostMessageSent s = .next (State.hostKick
        { s with hl := { s.hl with tx := none, replies := s.hl.replies.drop 1, slots := s.hl.slots.drop 1 } })) ∧
      (s.hl.tx = some (.notice k l) → exec .hostMessageSent s =
        .next (State.hostKick { s with hl := { s.hl with tx := none } }))) ∧
    (s.hl.nextNotice = some k ↔ s.hl.flagged k = true ∧ ∀ k', noticeBit k' < noticeBit k → s.hl.flagged k' = false) ∧
    (s.hostTxIdle = false → s.hostKick = s) ∧
    (s.hostTxIdle = true →
      (s.hl.refusal.isSome = true → s.hostKick = { s with hl := { s.hl with tx := some .busy } }) ∧
      (s.hl.refusal = none → s.hl.replies ≠ [] → s.hostKick = { s with hl := { s.hl with tx := some .reply } }) ∧
      (s.hl.refusal = none → s.hl.replies = [] → s.hl.resetPending = true ∨ s.hl.nextNotice = none → s.hostKick = s) ∧
      (s.hl.refusal = none → s.hl.replies = [] → s.hl.resetPending = false → s.hl.nextNotice = some k →
        s.hostKick.hl.tx = some (.notice k (s.noticeFields k)) ∧ s.hostKick.hl.flagged k = false ∧
        (∀ k', k' ≠ k → s.hostKick.hl.flagged k' = s.hl.flagged k') ∧
        { s.hostKick with hl := s.hl } = s ∧ sameHost s s.hostKick))

/-- Coupler sense (03 R57, 01 R6): a raw change restarts the stability timer outside reset; at its expiry the debounced level takes
the raw level. A change to uncoupled takes the port to OPEN with cause DECOUPLED, whatever its state; a change to coupled lets a
port in OPEN with loop mode NORMAL align at base rate while THRU-HOLD is high. That no PATTERN frame goes out at that event is the
model's choice (log entry 18). -/
def Obligations.CouplerSenseDebouncesAndActs : Prop :=
  ∀ (s : State) (p : PortId) (c : Bool),
    ((s.nm p).raw = c → exec (.coupledInputChange p c) s = .next s.hostKick) ∧
    ((s.nm p).raw ≠ c → exec (.coupledInputChange p c) s =
      .next (s.modNm p fun n => { n with raw := c, stab := if s.inReset then none else some 0 }).hostKick) ∧
    (s.ticking = true → timerDue (s.nm p).stab 50 = true →
      ((s.nm p).raw = (s.nm p).sense → exec (.couplerSenseDebounce p) s =
        .next (s.modNm p fun n => { n with stab := none }).hostKick) ∧
      ((s.nm p).raw = false → (s.nm p).sense = true → (s.cp p).st ≠ .open →
        completes (exec (.couplerSenseDebounce p) s) fun t =>
          openedWith s t p .decoupled ∧ (t.nm p).sense = false ∧ (t.nm p).stab = none) ∧
      ((s.nm p).raw = true → (s.nm p).sense = false → (s.cp p).st = .open → (s.cp p).loopMode = .normal →
        s.thruHold = true → (s.cp p).pairA.brk = false → (s.cp p).pairB.brk = false →
        completes (exec (.couplerSenseDebounce p) s) fun t =>
          (t.cp p).st = .aligning ∧ (t.cp p).rate = 0 ∧ (t.cp p).ready = false ∧ (t.cp p).attemptTimer = some 0 ∧
          (t.cp p).pairA.st = .scanning ∧ (t.cp p).pairA.passes = [] ∧
          (t.cp p).pairB.st = .scanning ∧ (t.cp p).pairB.passes = [] ∧
          (t.nm p).sense = true ∧ (t.nm p).stab = none ∧ t.lr p = s.lr p ∧
          (s.hl.masked .port = true → told t .port) ∧ sameSystem s t ∧ sameNode s t ∧ sameHost s t ∧
          t.port (other p) = s.port (other p)))

/-- Leaf inputs (07 R121, R123): a raw change restarts the 20 ms timer outside reset; at its expiry the debounced level takes the
raw level and a change raises LEAF; the open timer starts when a leaf counts as open and stops, clearing boost, when none does; at
60 000 ms boost is set. -/
def Obligations.LeafInputsDebounceAndTimeOpenDoors : Prop :=
  ∀ (s : State) (i : Fin 8) (c : Bool),
    s.dcu.leaves.length = 8 →
    (∀ l, s.dcu.leaves[i.val]? = some l →
      completes (exec (.leafInputChange (i.val + 1) c) s) (fun t =>
        t.dcu = { s.dcu with
          leaves := s.dcu.leaves.set i.val (if l.raw = c then l
            else { l with raw := c, stab := if s.inReset then none else some 0 }) } ∧
        sameSystem s t ∧ samePorts s t ∧ t.cc = s.cc ∧ t.se = s.se ∧ t.ha = s.ha ∧ sameHost s t) ∧
      (s.ticking = true → timerDue l.stab 20 = true →
        completes (exec (.leafDebounce (i.val + 1)) s) fun t =>
          t.dcu.leaves = s.dcu.leaves.set i.val { l with closed := l.raw, stab := none } ∧
          (l.raw ≠ l.closed → s.hl.masked .leaf = true → told t .leaf) ∧
          (l.raw ≠ l.closed → t.dcu.openTimer =
            if t.anyLeafOpen then (if s.dcu.openTimer.isSome then s.dcu.openTimer else some 0) else none) ∧
          (l.raw ≠ l.closed → t.dcu.boost = (t.anyLeafOpen && s.dcu.boost)) ∧
          (l.raw = l.closed → t.dcu = { s.dcu with
            leaves := s.dcu.leaves.set i.val { l with closed := l.raw, stab := none } }) ∧
          t.dcu.release1 = s.dcu.release1 ∧ t.dcu.release2 = s.dcu.release2 ∧ t.dcu.queue = s.dcu.queue ∧
          sameSystem s t ∧ samePorts s t ∧ t.cc = s.cc ∧ t.se = s.se ∧ t.ha = s.ha ∧ sameHost s t)) ∧
    (s.ticking = true → timerDue s.dcu.openTimer 60000 = true → s.dcu.boost = false →
      exec .openTimerBoost s =
        .next ((s.modDcu fun d => { d with boost := true }).raise .leaf).hostKick)

/-- What a framing pair's receiver counts (01 R1, R2, R27), and the characters it takes (01 R2, R22). A start marker opens a frame; a
character on the preferred pair restarts the held-copy timer. Nothing else changes. -/
def Obligations.ReceiverEventsCountOnTheirPair : Prop :=
  ∀ (s : State) (p : PortId) (q : PairId) (char : Nat),
    s.framing p q = true →
    exec (.falseStart p q) s = .next (s.modCp p fun c => c.modPair q fun x =>
      { x with falseStarts := min 65535 (x.falseStarts + 1) }).hostKick ∧
    (((s.cp p).pair q).inFrame = false →
      exec (.strayCharacterFramingError p q) s = .next (s.modCp p fun c => c.modPair q fun x =>
        { x with framingErrors := min 65535 (x.framingErrors + 1) }).hostKick ∧
      exec (.lineIdleAbandon p q) s = .next s.hostKick) ∧
    completes (exec (.pairCharacterTaken p q char) s) fun t =>
      (t.cp p).pair q = { (s.cp p).pair q with inFrame := ((s.cp p).pair q).inFrame || char == 0x7E } ∧
      (t.cp p).pair (otherPair q) = (s.cp p).pair (otherPair q) ∧
      { t.cp p with pairA := (s.cp p).pairA, pairB := (s.cp p).pairB, heldTimer := (s.cp p).heldTimer } = s.cp p ∧
      (t.cp p).heldTimer = (if q = (s.cp p).preferred ∧ (s.cp p).held.isSome = true then some 0 else (s.cp p).heldTimer) ∧
      t.lr p = s.lr p ∧ t.nm p = s.nm p ∧ t.port (other p) = s.port (other p) ∧ sameSystem s t ∧ sameNode s t ∧
      sameHost s t

/-- A bad frame on a LINKED pair (01 R2, R18, R19): its cause is counted, the score rises by 4 and stops at 15, the pair is DEGRADED
from 12 on, its bad frames since the last good one are counted and its silence timer restarts; the node is untouched where no held
copy waits. A framing error or a line idle for 20 bit times inside a frame is a bad frame of cause FRAMING. -/
def Obligations.BadFrameChargesItsPair : Prop :=
  ∀ (s : State) (p : PortId) (q : PairId) (cause : BadCause),
    s.clocked = true →
    (s.cp p).st = .linked →
    (s.cp p).held = none →
    completes (exec (.badFrame p q cause) s) (fun t =>
      (t.cp p).pair q = { (s.cp p).pair q with
        inFrame := false,
        crcErrors := if cause = .crc then min 65535 (((s.cp p).pair q).crcErrors + 1) else ((s.cp p).pair q).crcErrors,
        framingErrors := if cause = .crc then ((s.cp p).pair q).framingErrors
          else min 65535 (((s.cp p).pair q).framingErrors + 1),
        score := min 15 (((s.cp p).pair q).score + 4),
        degraded := decide (12 ≤ min 15 (((s.cp p).pair q).score + 4)) || ((s.cp p).pair q).degraded,
        badSince := min 255 (((s.cp p).pair q).badSince + 1), silence := some 0, deliveredSince := false } ∧
      (t.cp p).pair (otherPair q) = (s.cp p).pair (otherPair q) ∧
      { t.cp p with pairA := (s.cp p).pairA, pairB := (s.cp p).pairB } = s.cp p ∧
      (12 ≤ ((s.cp p).pair q).score + 4 → ((s.cp p).pair q).degraded = false → s.hl.masked .port = true → told t .port) ∧
      t.lr p = s.lr p ∧ t.nm p = s.nm p ∧ t.port (other p) = s.port (other p) ∧ sameSystem s t ∧ sameNode s t ∧
      sameHost s t) ∧
    (((s.cp p).pair q).inFrame = true →
      exec (.strayCharacterFramingError p q) s = exec (.badFrame p q .framing) s ∧
      exec (.lineIdleAbandon p q) s = exec (.badFrame p q .framing) s)

/-- The pass window (01 R10): over sixteen outcomes that are not all passes, the window passes at every position from its start on,
counted circularly, no run is longer, and no run of its length starts lower. -/
def Obligations.PassWindowIsTheWidestLowestRun : Prop :=
  ∀ (passes : List Bool),
    passes.length = 16 →
    (∀ i < (passWindow passes).2, passes.getD (((passWindow passes).1 + i) % 16) false = true) ∧
    (∀ k < 16, ∀ m < 17, (∀ i < m, passes.getD ((k + i) % 16) false = true) →
      m ≤ (passWindow passes).2 ∧ (m = (passWindow passes).2 ∧ 0 < m → (passWindow passes).1 ≤ k)) ∧
    windowPhase passes =
      (if ∀ x ∈ passes, x = true then some 8
       else if 4 ≤ (passWindow passes).2 then some (((passWindow passes).1 + (passWindow passes).2 / 2) % 16) else none)

/-- A pattern repetition at a SCANNING pair (01 R9 to R11): the 32 bits pass only if they alternate; below sixteen outcomes the pair
scans on; at the sixteenth it takes its window's phase and is ALIGNED, and the port is ready, or it is FAILED and keeps its phase.
The attempt is assumed to go on, with the other pair SCANNING or ALIGNED, in the last clause only. -/
def Obligations.RepetitionScansAndAligns : Prop :=
  ∀ (s : State) (p : PortId) (q : PairId) (bits : BitVec 32),
    s.clocked = true →
    (s.cp p).st = .aligning →
    ((s.cp p).pair q).st = .scanning →
    let passes := ((s.cp p).pair q).passes ++ [decide (bits = 0x55555555#32)]
    (passes.length < 16 → completes (exec (.patternRepetition p q bits) s) fun t =>
      (t.cp p).pair q = { (s.cp p).pair q with passes } ∧
      (t.cp p).pair (otherPair q) = (s.cp p).pair (otherPair q) ∧ (t.cp p).st = .aligning ∧
      t.lr p = s.lr p ∧ t.nm p = s.nm p ∧ sameNode s t ∧ t.port (other p) = s.port (other p)) ∧
    (passes.length = 16 → ∀ phase, windowPhase passes = some phase →
      completes (exec (.patternRepetition p q bits) s) fun t =>
        (t.cp p).pair q = { (s.cp p).pair q with passes, st := .aligned, phase } ∧ (t.cp p).ready = true ∧
        (t.cp p).pair (otherPair q) = (s.cp p).pair (otherPair q) ∧ (t.cp p).st = .aligning ∧
        t.lr p = s.lr p ∧ t.nm p = s.nm p ∧ sameNode s t ∧ t.port (other p) = s.port (other p)) ∧
    (passes.length = 16 → windowPhase passes = none → ((s.cp p).pair (otherPair q)).live = true →
      completes (exec (.patternRepetition p q bits) s) fun t =>
        (t.cp p).pair q = { (s.cp p).pair q with passes, st := .failed } ∧
        (t.cp p).pair (otherPair q) = (s.cp p).pair (otherPair q) ∧ (t.cp p).st = .aligning ∧
        t.lr p = s.lr p ∧ t.nm p = s.nm p ∧ sameNode s t ∧ t.port (other p) = s.port (other p))

/-- A good PATTERN frame with ready set at the attempt's rate, taken on an ALIGNED pair, links the port (01 R11, 03 R47, R55):
sequences start at 0, both pairs go IN SERVICE, an unaligned one at phase 8 with score 15, one PATTERN frame with ready set goes out
first, a BEAT is queued behind it, and the BEAT and neighbour timeout timers start. A good frame of any other kind, well formed or not, is
discarded there and counted as an aligning discard (01 R13), and does nothing more, but that its last character restarts a held copy's
timer on the preferred pair (01 R22, log entry 9). -/
def Obligations.ReadyPatternLinksThePort : Prop :=
  ∀ (s : State) (p : PortId) (q : PairId) (f : Frame) (seq gen kind direction : Nat) (payload : List Nat),
    s.clocked = true →
    (s.cp p).st = .aligning →
    ((s.cp p).pair q).st = .aligned →
    let discarded (t : State) : Prop :=
      (t.cp p).aligningDiscards = min 65535 ((s.cp p).aligningDiscards + 1) ∧
      (t.cp p).heldTimer = (if q = (s.cp p).preferred ∧ (s.cp p).held.isSome = true then some 0 else (s.cp p).heldTimer) ∧
      (t.cp p).pair q = { (s.cp p).pair q with inFrame := false } ∧
      (t.cp p).pair (otherPair q) = (s.cp p).pair (otherPair q) ∧
      { t.cp p with
        pairA := (s.cp p).pairA, pairB := (s.cp p).pairB, heldTimer := (s.cp p).heldTimer,
        aligningDiscards := (s.cp p).aligningDiscards } = s.cp p ∧
      t.lr p = s.lr p ∧ t.nm p = s.nm p ∧ t.port (other p) = s.port (other p) ∧ sameNode s t ∧ sameSystem s t ∧ sameHost s t
    (f.body.cls.isSome = true → completes (exec (f.command p q seq) s) discarded) ∧
    (kind ≠ 1 → completes (exec (.malformedFrame p q seq gen kind direction payload) s) discarded) ∧
    completes (exec (.pattern p q true (s.cp p).rate) s) fun t =>
      (t.cp p).st = .linked ∧ (t.cp p).rate = (s.cp p).rate ∧ (t.cp p).attemptTimer = none ∧ (t.cp p).failCount = 0 ∧
      (t.cp p).txSeq = 0 ∧ (t.cp p).lastDelivered = none ∧ (t.cp p).step = .none ∧ (t.cp p).patternTimer = none ∧
      (∀ x, ((t.cp p).pair x).st = .inService ∧ ((t.cp p).pair x).silence = some 0 ∧
        ((t.cp p).pair x).lastGood = none ∧
        (((s.cp p).pair x).st = .aligned → ((t.cp p).pair x).phase = ((s.cp p).pair x).phase ∧
          ((t.cp p).pair x).score = ((s.cp p).pair x).score) ∧
        (((s.cp p).pair x).st ≠ .aligned → ((t.cp p).pair x).phase = 8 ∧ ((t.cp p).pair x).score = 15 ∧
          ((t.cp p).pair x).degraded = true)) ∧
      ((s.lr p).tx = none → (t.lr p).tx = some (.pattern true (s.cp p).rate) ∧ (t.cp p).patternDue = false) ∧
      ((s.lr p).tx.isSome = true → (t.lr p).tx = (s.lr p).tx ∧ (t.cp p).patternDue = true) ∧
      (t.lr p).beat.frames = [{ gen := s.cc.gen, body := .beat {
        serial := s.sys.serial, port := portNumber p, node := nodeStateCode s.cc.node, lead := s.cc.claim.isSome,
        maxRate := (s.cp p).advertised, rate := (s.cp p).rate } }] ∧
      (t.lr p).control = (s.lr p).control ∧ (t.lr p).door = (s.lr p).door ∧ (t.lr p).grant = (s.lr p).grant ∧
      (t.lr p).sweep = (s.lr p).sweep ∧ (t.lr p).slot = (s.lr p).slot ∧ (t.lr p).dropped = (s.lr p).dropped ∧
      t.nm p = { s.nm p with beatTimer := some 0, timeout := some 0 } ∧
      (s.hl.masked .port = true → told t .port) ∧ t.port (other p) = s.port (other p) ∧
      sameNode s t ∧ sameSystem s t ∧ sameHost s t

/-- A good PATTERN frame in LINKED (01 R13, R18): it takes 1 off its pair's score; at another rate it does nothing more; with ready
set it is answered by one PATTERN frame unless the port sent one in the preceding 10 ms (log entry 18); with ready clear at the
port's rate it takes the port to OPEN with cause REALIGN. No held copy waits, so the score delivers nothing. -/
def Obligations.PatternInLinkedAnswersOrRealigns : Prop :=
  ∀ (s : State) (p : PortId) (q : PairId) (ready : Bool) (rate : Nat),
    s.clocked = true →
    (s.cp p).st = .linked →
    (s.cp p).held = none →
    completes (exec (.pattern p q ready rate) s) fun t =>
      ((t.cp p).pair q).score = ((s.cp p).pair q).score - 1 ∧
      ((t.cp p).pair (otherPair q)).score = ((s.cp p).pair (otherPair q)).score ∧
      (rate ≠ (s.cp p).rate ∨ ready = true ∧ (s.cp p).answerGuard.isSome = true → (t.cp p).st = .linked ∧
        ((t.cp p).pair q).silence = some 0 ∧ t.lr p = s.lr p ∧ t.nm p = s.nm p ∧ t.port (other p) = s.port (other p) ∧
        sameNode s t ∧ sameSystem s t ∧ sameHost s t) ∧
      (rate = (s.cp p).rate → ready = true → (s.cp p).answerGuard = none → (t.cp p).st = .linked ∧
        ((s.lr p).tx = none → t.lr p = { s.lr p with tx := some (.pattern true rate) } ∧
          (t.cp p).answerGuard = some 0 ∧ (t.cp p).patternDue = false) ∧
        ((s.lr p).tx.isSome = true → t.lr p = s.lr p ∧ (t.cp p).patternDue = true) ∧
        t.nm p = s.nm p ∧ t.port (other p) = s.port (other p) ∧ sameNode s t ∧ sameSystem s t ∧ sameHost s t) ∧
      (rate = (s.cp p).rate → ready = false → openedWith s t p .realign)

/-- A port's timers: in ALIGNING and LOCAL LOOP a PATTERN frame is due every 1 ms (01 R4, R25); in FAULTED the retry timer starts one
attempt at base rate with the count kept (01 R7); in LINKED a BEAT is offered every 10 ms (03 R47); the neighbour timeout takes the
port to OPEN with cause TIMEOUT (03 R55). A pair in LOCAL LOOP opens a frame with the PATTERN frame its port sends. That an
attempt's first PATTERN frame is due 1 ms after its start is the model's choice (log entry 18). -/
def Obligations.PortTimersSendRetryAndTimeOut : Prop :=
  ∀ (s : State) (p : PortId),
    s.ticking = true →
    (timerDue (s.cp p).patternTimer 1 = true → (s.cp p).maySendPattern = true →
      completes (exec (.patternTimer p) s) fun t =>
        (t.cp p).patternTimer = some 0 ∧ (t.cp p).st = (s.cp p).st ∧
        ((s.lr p).tx = none → t.lr p = { s.lr p with tx := some (.pattern (s.cp p).patternReady (s.cp p).rate) } ∧
          (t.cp p).patternDue = false ∧
          ((s.cp p).localLoop = true → (t.cp p).pairA.inFrame = true ∧ (t.cp p).pairB.inFrame = true)) ∧
        ((s.lr p).tx.isSome = true → t.lr p = s.lr p ∧ (t.cp p).patternDue = true) ∧
        t.nm p = s.nm p ∧ t.port (other p) = s.port (other p) ∧ sameNode s t ∧ sameSystem s t ∧ sameHost s t) ∧
    (timerDue (s.cp p).retryTimer 1000 = true → (s.cp p).st = .faulted → (s.cp p).pairA.brk = false →
      (s.cp p).pairB.brk = false →
      completes (exec (.retryTimerExpiry p) s) fun t =>
        (t.cp p).st = .aligning ∧ (t.cp p).rate = 0 ∧ (t.cp p).failCount = (s.cp p).failCount ∧
        (t.cp p).retryTimer = none ∧ (t.cp p).attemptTimer = some 0 ∧ (t.cp p).patternTimer = some 0 ∧
        (t.cp p).ready = false ∧ (t.cp p).pairA.st = .scanning ∧ (t.cp p).pairB.st = .scanning ∧
        (s.hl.masked .port = true → told t .port) ∧ t.lr p = s.lr p ∧ t.port (other p) = s.port (other p) ∧
        sameNode s t ∧ sameSystem s t ∧ sameHost s t) ∧
    (timerDue (s.nm p).beatTimer 10 = true → (s.cp p).st = .linked →
      exec (.beatTimerExpiry p) s = .next ((s.offer p { gen := s.cc.gen, body := .beat {
          serial := s.sys.serial, port := portNumber p, node := nodeStateCode s.cc.node, lead := s.cc.claim.isSome,
          maxRate := (s.cp p).advertised, rate := (s.cp p).rate } }).modNm p
            fun n => { n with beatTimer := some 0 }).hostKick) ∧
    (timerDue (s.nm p).timeout 35 = true → (s.cp p).st = .linked →
      completes (exec (.neighbourTimeout p) s) fun t => openedWith s t p .timeout)

/-- A failed attempt (01 R12, R16, R7; 03 R54, 04 R67): the attempt of a rate step falls back to base rate, capped and uncounted, the step
still in progress; another is counted and starts anew at base rate; the third takes the port to FAULTED, where its queues are emptied and
its neighbour is lost. Neither pair is in BREAK, so the new attempt scans. The relay is left as it is at a new attempt by the model's
choice: a PATTERN frame in transmission runs on (log entry 22), and the next is due 1 ms later (log entry 18). -/
def Obligations.FailedAttemptsRetryThenFault : Prop :=
  ∀ (s : State) (p : PortId),
    s.ticking = true →
    timerDue (s.cp p).attemptTimer 200 = true →
    (s.cp p).st = .aligning →
    (s.cp p).pairA.brk = false →
    (s.cp p).pairB.brk = false →
    completes (exec (.attemptTimerExpiry p) s) fun t =>
      sameSystem s t ∧ sameHost s t ∧ (t.cp (other p)).st = (s.cp (other p)).st ∧ t.nm (other p) = s.nm (other p) ∧
      (((s.cp p).stepAttempt = true ∨ (s.cp p).failCount < 2) →
        (t.cp p).st = .aligning ∧ (t.cp p).rate = 0 ∧ (t.cp p).ready = false ∧ (t.cp p).attemptTimer = some 0 ∧
        (t.cp p).step = (s.cp p).step ∧ (t.cp p).pairA.st = .scanning ∧ (t.cp p).pairA.passes = [] ∧
        (t.cp p).pairB.st = .scanning ∧ (t.cp p).pairB.passes = [] ∧
        (t.cp p).failCount = (if (s.cp p).stepAttempt then 0 else (s.cp p).failCount + 1) ∧
        (t.cp p).rateCapped = ((s.cp p).stepAttempt || (s.cp p).rateCapped) ∧
        t.lr p = s.lr p ∧ (t.nm p).status = (s.nm p).status ∧ (t.nm p).record = (s.nm p).record ∧
        t.port (other p) = s.port (other p) ∧ sameNode s t) ∧
      ((s.cp p).stepAttempt = false → 2 ≤ (s.cp p).failCount →
        (t.cp p).st = .faulted ∧ (t.cp p).failCount = 3 ∧ (t.cp p).rate = 0 ∧ (t.cp p).step = .none ∧
        (t.cp p).retryTimer = some 0 ∧ (t.cp p).attemptTimer = none ∧ (t.cp p).patternTimer = none ∧
        (t.cp p).pairA.st = .idle ∧ (t.cp p).pairB.st = .idle ∧ (t.lr p).waitingFrames = 0 ∧ (t.lr p).tx = none ∧
        (t.lr p).dropped = min 65535 ((s.lr p).dropped + (s.lr p).waitingFrames + (s.lr p).cutFrames) ∧
        (t.nm p).status = .absent ∧ (t.nm p).record = none ∧ (t.nm p).candidate = none ∧ neighbourLost s t p ∧
        (s.hl.masked .port = true → told t .port))

/-- BREAK and its end (01 R23), and the silence timer (01 R19). In LINKED the first pair's break flag is set, its counter counts, its
score is 15; with the other pair in BREAK too the port enters OPEN. In ALIGNING the pair is FAILED and the ready flag falls with the only
ALIGNED pair. A frame open at BREAK counts as log entry 32 says. A silent pair is charged 4 where a delivery was made since its timer
started. -/
def Obligations.BreakAndSilenceChargeThePair : Prop :=
  ∀ (s : State) (p : PortId) (q : PairId),
    s.clocked = true →
    (s.cp p).held = none →
    exec (.breakEnd p q) s = .next (s.modCp p fun c => c.modPair q fun x => { x with brk := false }).hostKick ∧
    ((s.cp p).st = .linked → ((s.cp p).pair q).brk = false →
      ((s.cp p).pair (otherPair q)).brk = false →
      completes (exec (.pairBreak p q) s) fun t =>
        ((t.cp p).pair q).brk = true ∧ ((t.cp p).pair q).score = 15 ∧ ((t.cp p).pair q).degraded = true ∧
        ((t.cp p).pair q).breaks = min 65535 (((s.cp p).pair q).breaks + 1) ∧ ((t.cp p).pair q).inFrame = false ∧
        ((t.cp p).pair q).framingErrors = (if ((s.cp p).pair q).inFrame then
          min 65535 (((s.cp p).pair q).framingErrors + 1) else ((s.cp p).pair q).framingErrors) ∧
        (t.cp p).pair (otherPair q) = (s.cp p).pair (otherPair q) ∧
        { t.cp p with pairA := (s.cp p).pairA, pairB := (s.cp p).pairB } = s.cp p ∧
        (((s.cp p).pair q).degraded = false → s.hl.masked .port = true → told t .port) ∧
        t.lr p = s.lr p ∧ t.nm p = s.nm p ∧ t.port (other p) = s.port (other p) ∧ sameNode s t ∧ sameSystem s t ∧
        sameHost s t) ∧
    ((s.cp p).st = .linked → ((s.cp p).pair q).brk = false →
      ((s.cp p).pair (otherPair q)).brk = true →
      completes (exec (.pairBreak p q) s) fun t => openedWith s t p .break ∧ ((t.cp p).pair q).score = 15 ∧
        ((t.cp p).pair q).breaks = min 65535 (((s.cp p).pair q).breaks + 1)) ∧
    ((s.cp p).st = .aligning → ((s.cp p).pair q).brk = false →
      ((s.cp p).pair (otherPair q)).live = true →
      completes (exec (.pairBreak p q) s) fun t =>
        ((t.cp p).pair q).st = .failed ∧ ((t.cp p).pair q).brk = true ∧ ((t.cp p).pair q).score = 15 ∧
        ((t.cp p).pair q).breaks = min 65535 (((s.cp p).pair q).breaks + 1) ∧
        (t.cp p).ready = ((s.cp p).ready && ((s.cp p).pair (otherPair q)).st == .aligned) ∧
        (t.cp p).st = .aligning ∧ (t.cp p).pair (otherPair q) = (s.cp p).pair (otherPair q) ∧
        t.lr p = s.lr p ∧ t.nm p = s.nm p ∧ t.port (other p) = s.port (other p) ∧ sameNode s t ∧ sameSystem s t ∧
        sameHost s t) ∧
    (s.inReset = false → timerDue ((s.cp p).pair q).silence 20 = true →
      completes (exec (.silenceTimerExpiry p q) s) fun t =>
        ((t.cp p).pair q).score = (if ((s.cp p).pair q).deliveredSince then min 15 (((s.cp p).pair q).score + 4)
          else ((s.cp p).pair q).score) ∧
        ((t.cp p).pair q).silence = some 0 ∧ ((t.cp p).pair q).deliveredSince = false ∧
        (t.cp p).pair (otherPair q) = (s.cp p).pair (otherPair q) ∧
        { t.cp p with pairA := (s.cp p).pairA, pairB := (s.cp p).pairB } = s.cp p ∧
        t.lr p = s.lr p ∧ t.nm p = s.nm p ∧ t.port (other p) = s.port (other p) ∧ sameNode s t ∧ sameSystem s t ∧
        sameHost s t)

/-- The preferred pair and the indications DEGRADED-PAIR and IMPAIRED (01 R20). -/
def Obligations.PreferredPairFollowsHealth : Prop :=
  ∀ (c : Coupler),
    c.preferred = (if c.pairA.degraded = true ∧ c.pairB.degraded = false then .b else .a) ∧
    ((c.pair c.preferred).degraded = true → (c.pair (otherPair c.preferred)).degraded = true) ∧
    (c.degradedPair = true ↔ ∃ q, (c.pair q).degraded = true) ∧
    (c.impaired = true ↔ ∀ q, (c.pair q).degraded = true)

/-- Delivery by link sequence (01 R21, R22), for every good frame other than PATTERN on a LINKED port with no held copy: an old sequence
reaches no block; a new one on pair B, with pair A GOOD and so preferred, waits in the held copy. A held copy, here a CALL that a node
without a claim relays, leaves its slot by five of the six exits of 01 R22: delivered where its timer expires, the preferred pair ends a
bad frame or another pair becomes preferred; before a newer frame of the preferred pair; or replaced by that pair's frame of its sequence.
A PATTERN frame on the preferred pair restarts its timer (log entry 9). An old frame, and a new CALL on the preferred pair, charge their
pair 4 for each frame it missed and did not end bad since its last good one, stop at 15, and take 1 off (01 R18, R19); of the sequences
delivered from the other pair those ahead of the frame stay (log entry 15). The sixth exit, the port leaving LINKED with the slot emptied
and nothing delivered, is part of openedWith (PatternInLinkedAnswersOrRealigns among others); that a newer frame of the other pair takes
the slot is not stated. -/
def Obligations.OldSequencesAreNotDelivered : Prop :=
  ∀ (s : State) (p : PortId) (q : PairId) (seq : Nat) (f : Frame) (h : Held) (serial : Serial) (a b c : Nat)
      (cause : BadCause) (ready : Bool) (rate : Nat),
    s.clocked = true →
    (s.cp p).st = .linked →
    f.body.cls.isSome = true →
    ((s.cp p).held = none → isNew (s.cp p).lastDelivered seq = false →
      completes (exec (f.command p q seq) s) fun t =>
        (t.cp p).lastDelivered = (s.cp p).lastDelivered ∧ (t.cp p).lostFrames = (s.cp p).lostFrames ∧
        (t.cp p).held = none ∧ (t.cp p).st = .linked ∧ goodFrameCharged (s.cp p) (t.cp p) q seq ∧
        ((t.cp p).pair q).copies = ((s.cp p).pair q).copies ∧ t.lr p = s.lr p ∧ t.nm p = s.nm p ∧ t.port (other p) = s.port (other p) ∧ sameNode s t ∧ sameSystem s t ∧
        sameHost s t) ∧
    ((s.cp p).held = none → isNew (s.cp p).lastDelivered seq = true → (s.cp p).pairA.degraded = false →
      completes (exec (f.command p .b seq) s) fun t =>
        (t.cp p).held = some { seq, pair := .b, frame := f } ∧ (t.cp p).heldTimer = some 0 ∧
        (t.cp p).lastDelivered = (s.cp p).lastDelivered ∧ (t.cp p).lostFrames = (s.cp p).lostFrames ∧
        t.lr p = s.lr p ∧ t.nm p = s.nm p ∧ t.port (other p) = s.port (other p) ∧ sameNode s t ∧ sameSystem s t ∧
        sameHost s t) ∧
    (deliversNow s p q seq → f.body = .call serial a b c → s.cc.claim = none → s.cc.front ≠ some p →
      completes (exec (f.command p q seq) s) fun t =>
        goodFrameCharged (s.cp p) (t.cp p) q seq ∧ seq ∈ ((t.cp p).pair q).copies ∧
        (t.cp p).lastDelivered = some seq ∧ ((t.cp p).pair (otherPair q)).deliveredSince = true ∧
        (t.nm p).timeout = some 0 ∧ portsBut (s.offer (other p) f) t p ∧ sameNode s t ∧ sameSystem s t ∧ sameHost s t) ∧
    ((s.cp p).held = some h → h.frame.body = .call serial a b c → s.cc.claim = none → s.cc.front ≠ some p →
      let lost := match (s.cp p).lastDelivered with
        | none => (s.cp p).lostFrames
        | some l => min 65535 ((s.cp p).lostFrames + (seqDist h.seq l - 1))
      let released (t : State) : Prop := (t.cp p).held = none ∧ (t.cp p).heldTimer = none ∧
        (t.cp p).lastDelivered = some h.seq ∧ (t.cp p).lostFrames = lost ∧ (t.nm p).timeout = some 0 ∧
        portsBut (s.offer (other p) h.frame) t p ∧ sameNode s t ∧ sameSystem s t ∧ sameHost s t
      (s.inReset = false → timerDue (s.cp p).heldTimer 2 = true → completes (exec (.heldCopyTimerExpiry p) s) released) ∧
      (q = (s.cp p).preferred → completes (exec (.badFrame p q cause) s) released) ∧
      ((s.cp p).pairA.degraded = false → (s.cp p).pairB.degraded = false → (s.cp p).pairA.brk = false →
        (s.cp p).pairB.brk = false → (s.cp p).pairA.inFrame = false → completes (exec (.pairBreak p .a) s) released) ∧
      (q = (s.cp p).preferred → ((s.cp p).pair q).degraded = true ∨ ((s.cp p).pair q).score ≤ 12 → rate ≠ (s.cp p).rate →
        completes (exec (.pattern p q ready rate) s) fun t =>
          (t.cp p).held = some h ∧ (t.cp p).heldTimer = some 0 ∧ portsBut s t p ∧ sameNode s t ∧ sameSystem s t ∧
          sameHost s t) ∧
      (q = (s.cp p).preferred → f.body = .call serial a b c →
        (seq = h.seq → completes (exec (f.command p q seq) s) fun t =>
          (t.cp p).held = none ∧ (t.cp p).heldTimer = none ∧ (t.cp p).lastDelivered = some seq ∧
          (t.cp p).lostFrames = lost ∧ (t.nm p).timeout = some 0 ∧ portsBut (s.offer (other p) f) t p ∧ sameNode s t ∧
          sameSystem s t ∧ sameHost s t) ∧
        (seqNewer seq h.seq = true → completes (exec (f.command p q seq) s) fun t =>
          (t.cp p).held = none ∧ (t.cp p).heldTimer = none ∧ (t.cp p).lastDelivered = some seq ∧
          (t.cp p).lostFrames = min 65535 (lost + (seqDist seq h.seq - 1)) ∧ (t.nm p).timeout = some 0 ∧
          portsBut ((s.offer (other p) h.frame).offer (other p) f) t p ∧ sameNode s t ∧ sameSystem s t ∧ sameHost s t)))

/-- A frame offered to a port (02 R36, R37, R39): dropped and counted in OPEN, FAULTED and LOOP; with a busy transmitter it joins the
tail of its class queue, or with that queue full the holding slot, whose occupant is discarded and counted; on a LINKED port with
nothing queued, due or in transmission it is sent at once with the transmit link sequence, which advances (01 R4). -/
def Obligations.OfferedFramesQueueWaitOrDrop : Prop :=
  ∀ (s : State) (p : PortId) (f : Frame) (c : Cls),
    f.body.cls = some c →
    ((s.cp p).st = .open ∨ (s.cp p).st = .faulted ∨ (s.cp p).st = .loop →
      s.offer p f = s.modLr p fun r => { r with dropped := min 65535 (r.dropped + 1) }) ∧
    ((s.cp p).st = .linked ∨ (s.cp p).st = .aligning → (s.lr p).tx.isSome = true → c ≠ .beat →
      (((s.lr p).queue c).frames.length < 4 →
        (((s.offer p f).lr p).queue c).frames = ((s.lr p).queue c).frames ++ [f] ∧
        (∀ c', c' ≠ c → ((s.offer p f).lr p).queue c' = (s.lr p).queue c') ∧
        ((s.offer p f).lr p).slot = (s.lr p).slot ∧ ((s.offer p f).lr p).overrun = (s.lr p).overrun ∧
        (s.offer p f).cp p = s.cp p ∧ (s.offer p f).port (other p) = s.port (other p)) ∧
      (4 ≤ ((s.lr p).queue c).frames.length →
        s.offer p f = s.modLr p fun r => { r with
          slot := some (c, f), overrun := if r.slot.isSome then min 255 (r.overrun + 1) else r.overrun })) ∧
    ((s.cp p).st = .linked → (s.lr p).tx = none → (s.cp p).patternDue = false → (s.lr p).choice = none →
      (s.lr p).slot = none →
      ((s.offer p f).lr p).tx = some (.frame c (s.cp p).txSeq f (s.cp p).stepPending) ∧
      (s.offer p f).cp p = { s.cp p with txSeq := ((s.cp p).txSeq + 1) % 256 } ∧
      ((s.offer p f).lr p).waitingFrames = 0 ∧ (s.offer p f).port (other p) = s.port (other p))

/-- The BEAT queue (02 R38): a BEAT joins the empty queue, or takes the place of the older one with its waiting time and level, which is not
counted, and never uses the holding slot. -/
def Obligations.BeatQueueHoldsTheLatestBeat : Prop :=
  ∀ (s : State) (p : PortId) (f : Frame),
    f.body.cls = some .beat →
    (s.cp p).takesFrames = true →
    (s.lr p).tx.isSome = true →
    s.offer p f = s.modLr p fun r =>
      { r with beat := if r.beat.frames = [] then { frames := [f], waited := 0, aged := 0 } else { r.beat with frames := [f] } }

/-- The arbiter's choice (02 R40, R41): a head of the best current level, and among equals the class first in the order CONTROL, DOOR,
GRANT, SWEEP, BEAT; no choice only when every queue is empty. A head's level is its initial level, and in a relay of the queue
invariant whose head has no aging due (log entry 3) it is the initial level less floor(w/5) after w ms, and not below 0. -/
def Obligations.ArbiterTakesTheBestLevel : Prop :=
  ∀ (r : Relay) (c : Cls),
    (r.choice = some c ↔ (r.queue c).frames ≠ [] ∧ ∀ c', (r.queue c').frames ≠ [] →
      headLevel c (r.queue c).aged < headLevel c' (r.queue c').aged ∨
      headLevel c (r.queue c).aged = headLevel c' (r.queue c').aged ∧ initialLevel c ≤ initialLevel c') ∧
    (r.choice = none ↔ ∀ c', (r.queue c').frames = []) ∧
    headLevel c 0 = initialLevel c ∧
    (r.inv → (r.queue c).frames ≠ [] → (r.queue c).agingDue c = false →
      headLevel c (r.queue c).aged = initialLevel c - (r.queue c).waited / 5)

/-- The end of a transmission in LINKED (02 R41, R39; 01 R4, R15), and aging (02 R40; log entry 3): a head of
a LINKED port whose waiting time has reached a multiple of 5 ms that its level does not show yet improves it by one, stopping at 0, and any
other aging has no effect. A due PATTERN frame goes first, then the
arbiter's choice, whose queue takes in the frame of its class from the holding slot; the BEAT after which a pending rate step begins
takes the port to ALIGNING at the target, with queues and neighbour kept and the first PATTERN frame due 1 ms later, the model's choice
(log entry 18). In LOCAL LOOP a PATTERN frame sent ends good at both pairs
(01 R25). -/
def Obligations.TransmitEndSendsTheNextFrame : Prop :=
  ∀ (s : State) (p : PortId) (x : LineTx) (c : Cls) (f : Frame) (rest : List Frame) (target : Nat)
      (ready : Bool) (rate : Nat),
    s.clocked = true →
    let head := (s.lr p).queue c
    (s.inReset = false → (s.cp p).st = .linked → head.frames ≠ [] → 5 * (head.aged + 1) ≤ head.waited →
      0 < headLevel c head.aged →
      exec (.headFrameAging p c) s =
        .next (s.modLr p fun r => r.setQueue c { head with aged := head.aged + 1 }).hostKick ∧
      headLevel c (head.aged + 1) + 1 = headLevel c head.aged) ∧
    ((s.cp p).st ≠ .linked ∨ head.frames = [] ∨ head.waited < 5 * (head.aged + 1) ∨ headLevel c head.aged = 0 →
      exec (.headFrameAging p c) s = .next s.hostKick) ∧
    ((s.cp p).st = .linked → (s.lr p).tx = some x → x.startsStep = false →
      ((s.cp p).patternDue = true → completes (exec (.transmitEnd p) s) fun t =>
        t.lr p = { s.lr p with tx := some (.pattern true (s.cp p).rate) } ∧ (t.cp p).patternDue = false ∧
        t.nm p = s.nm p ∧ t.port (other p) = s.port (other p) ∧ sameNode s t ∧ sameSystem s t ∧ sameHost s t) ∧
      ((s.cp p).patternDue = false → (s.lr p).choice = none → completes (exec (.transmitEnd p) s) fun t =>
        t.lr p = { s.lr p with tx := none } ∧ t.cp p = s.cp p ∧ t.nm p = s.nm p ∧
        t.port (other p) = s.port (other p) ∧ sameNode s t ∧ sameSystem s t ∧ sameHost s t) ∧
      ((s.cp p).patternDue = false → (s.lr p).choice = some c → ((s.lr p).queue c).frames = f :: rest →
        completes (exec (.transmitEnd p) s) fun t =>
          (t.lr p).tx = some (.frame c (s.cp p).txSeq f (s.cp p).stepPending) ∧
          t.cp p = { s.cp p with txSeq := ((s.cp p).txSeq + 1) % 256 } ∧ ((t.lr p).queue c).waited = 0 ∧
          ((t.lr p).queue c).aged = 0 ∧
          (∀ c', c' ≠ c → (t.lr p).queue c' = (s.lr p).queue c') ∧
          (∀ g, (s.lr p).slot = some (c, g) → ((t.lr p).queue c).frames = rest ++ [g] ∧ (t.lr p).slot = none) ∧
          ((s.lr p).slot.map Prod.fst ≠ some c → ((t.lr p).queue c).frames = rest ∧ (t.lr p).slot = (s.lr p).slot) ∧
          t.nm p = s.nm p ∧ t.port (other p) = s.port (other p) ∧ sameNode s t ∧ sameSystem s t ∧ sameHost s t)) ∧
    ((s.cp p).localLoop = true → (s.lr p).tx = some (.pattern ready rate) → (s.cp p).patternDue = false →
      (s.cp p).held = none → (s.cp p).pairA.inFrame = true → (s.cp p).pairB.inFrame = true →
      completes (exec (.transmitEnd p) s) fun t =>
        (∀ q, ((t.cp p).pair q).inFrame = false ∧ ((t.cp p).pair q).score = ((s.cp p).pair q).score - 1 ∧
          ((t.cp p).pair q).degraded = (((s.cp p).pair q).degraded && 1 < ((s.cp p).pair q).score ||
            !((s.cp p).pair q).degraded && 13 ≤ ((s.cp p).pair q).score) ∧
          ((t.cp p).pair q).crcErrors = ((s.cp p).pair q).crcErrors) ∧
        (t.cp p).st = .loop ∧ t.lr p = { s.lr p with tx := none } ∧ t.nm p = s.nm p ∧
        t.port (other p) = s.port (other p) ∧ sameNode s t ∧ sameSystem s t ∧ sameHost s t) ∧
    ((s.cp p).st = .linked → (s.lr p).tx = some x → x.startsStep = true → (s.cp p).step = .pending target →
      (s.cp p).pairA.brk = false → (s.cp p).pairB.brk = false →
      completes (exec (.transmitEnd p) s) fun t =>
        (t.cp p).st = .aligning ∧ (t.cp p).rate = target ∧ (t.cp p).step = .inProgress target ∧
        (t.cp p).ready = false ∧ (t.cp p).attemptTimer = some 0 ∧ (t.cp p).pairA.st = .scanning ∧
        (t.cp p).pairB.st = .scanning ∧ t.lr p = { s.lr p with tx := none } ∧
        t.nm p = { s.nm p with beatTimer := none, timeout := none } ∧ t.port (other p) = s.port (other p) ∧
        sameNode s t ∧ sameSystem s t ∧ sameHost s t)

/-- A frame of any kind, direction and payload (02 R29, 03 R50; log entry 31): a delivered frame of no kind of 02 R28, of a wrong
direction or of a wrong length counts as malformed and reaches no block; a BEAT of a wrong length counts as invalid; a PATTERN of a
wrong length is discarded uncounted, and takes 1 off its pair's score in LINKED (01 R13, R18); whatever has the form of its kind is that
frame. -/
def Obligations.MalformedFramesAreCountedAndDropped : Prop :=
  ∀ (s : State) (p : PortId) (q : PairId) (seq gen kind direction : Nat) (payload : List Nat),
    exec (.malformedFrame p q seq gen kind direction payload) s =
      exec (Frame.command { gen, body := parseBody kind direction payload } p q seq) s ∧
    (deliversNow s p q seq → kind ≠ 1 → kind ≠ 2 →
      directionOfKind kind ≠ some direction ∨ bodyOfPayload kind payload = none →
      completes (exec (.malformedFrame p q seq gen kind direction payload) s) fun t =>
        t.lr p = { s.lr p with malformed := min 65535 ((s.lr p).malformed + 1) } ∧
        (t.cp p).lastDelivered = some seq ∧ (t.cp p).settled = (s.cp p).settled ∧
        t.nm p = { s.nm p with timeout := some 0 } ∧ t.port (other p) = s.port (other p) ∧
        sameNode s t ∧ sameSystem s t ∧ sameHost s t) ∧
    (deliversNow s p q seq → kind = 2 → payload.length ≠ 9 →
      completes (exec (.malformedFrame p q seq gen kind direction payload) s) fun t =>
        t.nm p = { s.nm p with timeout := some 0, invalidBeats := min 65535 ((s.nm p).invalidBeats + 1) } ∧
        (t.cp p).lastDelivered = some seq ∧ (t.cp p).settled = (s.cp p).settled ∧
        t.lr p = s.lr p ∧ t.port (other p) = s.port (other p) ∧ sameNode s t ∧ sameSystem s t ∧ sameHost s t) ∧
    (s.clocked = true → (s.cp p).st = .linked ∨ (s.cp p).st = .aligning ∧ ((s.cp p).pair q).st = .aligned →
      (s.cp p).held = none → kind = 1 → payload.length ≠ 6 →
      completes (exec (.malformedFrame p q seq gen kind direction payload) s) fun t =>
        ((t.cp p).pair q).score = ((s.cp p).pair q).score - (if (s.cp p).st = .linked then 1 else 0) ∧
        ((t.cp p).pair q).inFrame = false ∧ (t.cp p).pair (otherPair q) = (s.cp p).pair (otherPair q) ∧
        { t.cp p with pairA := (s.cp p).pairA, pairB := (s.cp p).pairB } = s.cp p ∧ t.lr p = s.lr p ∧
        t.nm p = s.nm p ∧ t.port (other p) = s.port (other p) ∧ sameNode s t ∧ sameSystem s t ∧ sameHost s t)

/-- A delivered BEAT (03 R50 to R53, R55; 01 R14; 04 R67): invalid, it is counted and does nothing more; with the node's own
serial it shows an echo; otherwise, on an unsettled port at base rate with no step, the lower maximum above the port's rate makes a step
pending and is not announced, else the port settles (01 R16, log entry 40), and an ABSENT neighbour is announced, a PRESENT one updated
or replaced. A member without a claim CALLs on its front port: JOIN where it stays OPERATIONAL, NEIGHBOUR where it is suspended (04 R68).
A leader's rear port triggers a walk. -/
def Obligations.BeatsAnnounceNeighboursAndDecideTheRate : Prop :=
  ∀ (s : State) (p : PortId) (q : PairId) (seq gen : Nat) (b : BeatBody) (far : PortId) (node : NodeState)
      (held : NbrRecord),
    deliversNow s p q seq →
    let record : NbrRecord :=
      { serial := b.serial, farPort := far, farNode := node, farLead := b.lead, farGen := gen }
    (b.serial = 0 ∨ b.port = 0 ∨ 2 < b.port ∨ 4 < b.node ∨ 2 < b.maxRate ∨ 2 < b.rate →
      completes (exec (.beat p q seq gen b) s) fun t =>
        t.nm p = { s.nm p with timeout := some 0, invalidBeats := min 65535 ((s.nm p).invalidBeats + 1) } ∧
        (t.cp p).settled = (s.cp p).settled ∧ t.lr p = s.lr p ∧ t.port (other p) = s.port (other p) ∧
        sameNode s t ∧ sameSystem s t ∧ sameHost s t) ∧
    (b.serial ≠ 0 → portOfNumber b.port = some far → nodeStateOfCode b.node = some node → b.maxRate ≤ 2 → b.rate ≤ 2 →
      (b.serial = s.sys.serial → (s.nm p).status = .absent →
        completes (exec (.beat p q seq gen b) s) fun t =>
          t.nm p = { s.nm p with timeout := some 0, status := .echoSeen, candidate := none } ∧
          (s.hl.masked .neighbour = true → told t .neighbour) ∧
          (t.cp p).settled = (s.cp p).settled ∧ t.lr p = s.lr p ∧ t.port (other p) = s.port (other p) ∧
          sameNode s t ∧ sameSystem s t ∧ sameHost s t) ∧
      (b.serial ≠ s.sys.serial → (s.cp p).step = .none → (s.cp p).rateSettled = false →
        (s.cp p).rate = 0 → (s.cp p).rate < min (s.cp p).advertised b.maxRate → (s.nm p).status = .absent →
        completes (exec (.beat p q seq gen b) s) fun t =>
          (t.cp p).step = .pending (min (s.cp p).advertised b.maxRate) ∧ (t.cp p).rateSettled = false ∧
          (t.cp p).st = .linked ∧ t.nm p = { s.nm p with timeout := some 0, candidate := some record } ∧
          t.lr p = s.lr p ∧ t.port (other p) = s.port (other p) ∧ sameNode s t ∧ sameSystem s t ∧ sameHost s t) ∧
      (b.serial ≠ s.sys.serial → (s.cp p).step = .none →
        (s.cp p).rateSettled = true ∨ (s.cp p).rate ≠ 0 ∨ min (s.cp p).advertised b.maxRate ≤ (s.cp p).rate →
        completes (exec (.beat p q seq gen b) s) fun t =>
          (t.cp p).rateSettled = true ∧ (t.cp p).step = .none ∧ (t.cp p).st = .linked ∧ (t.nm p).timeout = some 0 ∧
          (t.nm p).status = .present ∧ (t.nm p).record = some record ∧ sameSystem s t ∧ sameHost s t ∧
          t.nm (other p) = s.nm (other p) ∧
          ((s.nm p).status ≠ .present → (t.nm p).candidate = none ∧ (s.hl.masked .neighbour = true → told t .neighbour) ∧
            (s.cc.claim = none → s.cc.node ≠ .provisional → t.cc = s.cc) ∧
            (s.cc.claim = none → s.cc.node = .provisional → neighbourGone s t p ∧ ∀ x, called s t x 0 (portNumber p)) ∧
            (s.cc.node = .operational → ∀ x, called s t x 1 (portNumber p)) ∧
            (s.cc.node ≠ .operational → s.cc.node ≠ .provisional → ∀ x, t.lr x = s.lr x) ∧
            (s.cc.claim = some p → t.cc.claim = none ∧ t.cc.leadCause = .cabEnd ∧ t.cc.node = .suspended) ∧
            (s.cc.claim = some (other p) → t.cc.node = s.cc.node ∧ t.cc.claim = s.cc.claim ∧
              (s.cc.walk = .idle → t.cc.walk = .settling ∧ t.cc.settleTimer = some 0))) ∧
          ((s.nm p).status = .present → (s.nm p).record = some held → held.serial = b.serial → held.farPort = far →
            t.cc = s.cc ∧ t.lr p = s.lr p ∧ (t.nm p).changes = (s.nm p).changes) ∧
          ((s.nm p).status = .present → (s.nm p).record = some held → held.serial ≠ b.serial ∨ held.farPort ≠ far →
            (t.nm p).changes = min 65535 ((s.nm p).changes + 1) ∧
            (s.hl.masked .neighbour = true → told t .neighbour) ∧ neighbourGone s t p ∧
            (s.cc.node = .operational ∨ s.cc.node = .provisional → ∀ x, called s t x 0 (portNumber p)) ∧
            (s.cc.node ≠ .operational → s.cc.node ≠ .provisional → ∀ x, t.lr x = s.lr x))))

/-- Two claimants (05 R85, R90, R79; 04 R69): a WALK of another leader at a claimant is answered by CLASH on its port, and a CLASH of
the current generation reaches the leader; either way the claim falls with cause CONFLICT, the walk is abandoned, and the node is
SUSPENDED. Front port and orientation stay only with a position. The current generation is the node's as it stands, also at a claimant
that has made no attempt yet, which is the model's reading (log entry 42). -/
def Obligations.ConflictingClaimsFall : Prop :=
  ∀ (s : State) (p : PortId) (q : PairId) (seq gen next : Nat) (leader claimant : Serial),
    deliversNow s p q seq →
    s.cc.claim.isSome = true →
    (leader ≠ s.sys.serial → completes (exec (.walk p q seq gen leader next) s) fun t =>
      claimFell s t ∧ portsBut (s.offer p { gen, body := .clash s.sys.serial leader }) t p) ∧
    (s.cc.claim = some (other p) → completes (exec (.clash p q seq s.cc.gen claimant leader) s) fun t =>
      claimFell s t ∧ portsBut s t p) ∧
    (s.cc.claim = some (other p) → gen ≠ s.cc.gen → completes (exec (.clash p q seq gen claimant leader) s) fun t =>
      sameNode s t ∧ portsBut (s.countStale p) t p ∧ sameSystem s t ∧ sameHost s t)

/-- A WALK at a node without a claim (05 R85 to R88, 04 R62). It takes the position: PROVISIONAL in the WALK's generation with front port
and orientation from its arrival port, its confirm timer running, what belongs to one consist reset; it offers its NODE and then the
WALK onward, or a TAIL where its other port has no neighbour. One's own WALK, one of next position 0 or 1 or of generation 0, counted as
malformed, a duplicate of the attempt already joined, and an overlength one, answered by TAIL, leave the node as it is. -/
def Obligations.WalkGivesAMemberItsPosition : Prop :=
  ∀ (s : State) (p : PortId) (q : PairId) (seq gen next : Nat) (leader : Serial),
    deliversNow s p q seq →
    let facing : Orientation := match p with
      | .p1 => .forward
      | .p2 => .reversed
    let own : Frame := { gen, body := .node { spare := 0, entry := {
      serial := s.sys.serial, position := next, orientation := facing, cls := s.cc.coach.cls,
      leaves1 := s.cc.coach.leaves1, leaves2 := s.cc.coach.leaves2, stepPower := s.cc.coach.stepPower, lead := false } } }
    completes (exec (.walk p q seq gen s.sys.serial next) s) (fun t =>
      portsBut s t p ∧ sameNode s t ∧ sameSystem s t ∧ sameHost s t) ∧
    (s.cc.claim = none → s.cc.node ≠ .isolated → leader ≠ s.sys.serial →
      completes (exec (.walk p q seq gen leader next) s) fun t => sameSystem s t ∧ sameHost s t ∧
        (2 ≤ next → next ≤ 32 → gen ≠ 0 → ¬ (s.cc.node = .provisional ∧ s.cc.gen = gen) →
          t.cc = { s.cc with
            node := .provisional, gen, position := some next, front := some p, orientation := some facing,
            table := Table.empty, confirmTimer := some 0, silenceTimer := none,
            lastExit := if s.cc.node = .operational then .walk else s.cc.lastExit } ∧
          t.se = { s.se with lastSeen := none, gap := false, lastSent := none } ∧
          t.dcu.lastDoor = none ∧ t.ha.lastTaken = none ∧ leftOperational s t ∧ sameSettings s t ∧
          (s.hasNeighbour (other p) = true → portsBut
            ((s.offer p own).offer (other p) { gen, body := .walk leader (next + 1) }) t p) ∧
          (s.hasNeighbour (other p) = false → portsBut
            ((s.offer p own).offer p { gen, body := .tail 0 next s.sys.serial }) t p)) ∧
        (next ≤ 1 ∨ gen = 0 → portsBut (s.countMalformed p) t p ∧ sameNode s t) ∧
        (2 ≤ next → gen ≠ 0 → s.cc.node = .provisional → s.cc.gen = gen → portsBut s t p ∧ sameNode s t) ∧
        (33 ≤ next → gen ≠ 0 → ¬ (s.cc.node = .provisional ∧ s.cc.gen = gen) →
          portsBut (s.offer p { gen, body := .tail 1 32 s.sys.serial }) t p ∧ sameNode s t))

/-- A NODE or a CALL at the leader's rear port (05 R89, R92; 02 R44): a NODE of the generation is stored once per position in a walk, its
lead flag cleared (log entry 7), whatever its unnamed bits hold (11 section 11.1); a CALL triggers a walk, is absorbed, or is held during
a walk, and one whose cause names none is malformed (11 R185); another generation counts as stale. The current generation is the node's as
it stands, also at a claimant that has made no attempt yet, which is the model's reading (log entry 42). -/
def Obligations.LeaderTakesNodesAndCalls : Prop :=
  ∀ (s : State) (p : PortId) (q : PairId) (seq gen : Nat) (e : Entry) (k : Nat) (serial : Serial) (a b c : Nat),
    deliversNow s p q seq →
    s.cc.claim = some (other p) →
    completes (exec (.node p q seq s.cc.gen { entry := e, spare := k }) s) (fun t =>
      portsBut s t p ∧ t.se = s.se ∧ t.dcu = s.dcu ∧ t.ha = s.ha ∧ sameSystem s t ∧ sameHost s t ∧
      t.cc = { s.cc with records := t.cc.records } ∧
      (s.cc.walking = true → 2 ≤ e.position → e.position ≤ 32 → recordAt s.cc.records e.position = none →
        entryInRange e = true →
        recordAt t.cc.records e.position = some { e with lead := false } ∧
        ∀ x < 33, x ≠ e.position → recordAt t.cc.records x = recordAt s.cc.records x) ∧
      (s.cc.walking = false ∨ e.position ≤ 1 ∨ 33 ≤ e.position ∨ entryInRange e = false ∨
        (recordAt s.cc.records e.position).isSome = true → t.cc.records = s.cc.records)) ∧
    (3 < b → completes (exec (.call p q seq s.cc.gen serial a b c) s) fun t =>
      portsBut (s.countMalformed p) t p ∧ sameNode s t ∧ sameSystem s t ∧ sameHost s t) ∧
    (b ≤ 3 → completes (exec (.call p q seq s.cc.gen serial a b c) s) fun t =>
      portsBut s t p ∧ t.se = s.se ∧ t.dcu = s.dcu ∧ t.ha = s.ha ∧ sameSystem s t ∧ sameHost s t ∧
      (s.cc.walk = .idle → t.cc = { s.cc with walk := .settling, settleTimer := some 0 }) ∧
      (s.cc.walk = .settling → t.cc = s.cc) ∧
      (s.cc.walk = .walkFirst ∨ s.cc.walk = .walkSecond → t.cc = { s.cc with callHeld := true })) ∧
    (gen ≠ s.cc.gen →
      completes (exec (.node p q seq gen { entry := e, spare := k }) s) (fun t =>
        portsBut (s.countStale p) t p ∧ sameNode s t ∧ sameSystem s t ∧ sameHost s t) ∧
      completes (exec (.call p q seq gen serial a b c) s) (fun t =>
        portsBut (s.countStale p) t p ∧ sameNode s t ∧ sameSystem s t ∧ sameHost s t))

/-- Routing (02 R32, R33, R35): a frontward frame on the cab end of a leader or on a member's front port is misrouted, and counted;
at any other node without a claim it is relayed out of the other port, an ECHO with the node's own mark (07 R134). A rearward
frame other than WALK is misrouted at a claimant, and at a member whose front port is the other one. -/
def Obligations.FramesAreRelayedOrMisrouted : Prop :=
  ∀ (s : State) (p : PortId) (q : PairId) (seq : Nat) (f : Frame),
    deliversNow s p q seq →
    f.body.routable = true →
    (directionOfKind f.body.kindCode = some 0 →
      (s.cc.claim = some p ∨ s.cc.claim = none ∧ s.cc.front = some p → completes (exec (f.command p q seq) s) fun t =>
        portsBut (s.countMisroute p) t p ∧ sameNode s t ∧ sameSystem s t ∧ sameHost s t) ∧
      (s.cc.claim = none → s.cc.front ≠ some p → completes (exec (f.command p q seq) s) fun t =>
        portsBut (s.offer (other p) (s.marked f)) t p ∧ sameNode s t ∧ sameSystem s t ∧ sameHost s t)) ∧
    (directionOfKind f.body.kindCode = some 1 → f.body.kindCode ≠ 0x03 →
      s.cc.claim.isSome = true ∨ s.cc.front = some (other p) → completes (exec (f.command p q seq) s) fun t =>
        portsBut (s.countMisroute p) t p ∧ sameNode s t ∧ sameSystem s t ∧ sameHost s t) ∧
    ∀ id applied, (s.marked { gen := f.gen, body := .echo id applied }).gen = f.gen ∧
      (s.marked { gen := f.gen, body := .echo id applied }).body = .echo id (if s.dcu.lastDoor =
        some { gen := f.gen, id, applied := true } then applied ||| posBit s.pos else applied)

/-- The settle timer starts the first attempt (05 R84): with a neighbour at the rear a WALK goes out; with none the leader confirms
itself as a consist of one, whose first sweep completes at once with its own record (05 R93, 06 R105). In WALK_FIRST the walk timer starts
the second attempt (05 R92). -/
def Obligations.WalkAttemptsStartOrConfirmAlone : Prop :=
  ∀ (s : State) (e : PortId),
    s.ticking = true →
    s.nodeInv →
    s.cc.claim = some e →
    (timerDue s.cc.settleTimer 100 = true → s.cc.walk = .settling → s.hasNeighbour (other e) = true →
      completes (exec .settleTimerExpiry s) fun t => attemptStarted s t .walkFirst ∧
        samePorts (s.offer (other e)
          { gen := s.cc.gen % 255 + 1, body := .walk s.sys.serial 2 }) t) ∧
    (timerDue s.cc.walkTimer 500 = true → s.cc.walk = .walkFirst → s.hasNeighbour (other e) = true →
      completes (exec .walkTimerExpiry s) fun t => attemptStarted s t .walkSecond ∧
        samePorts (s.offer (other e)
          { gen := s.cc.gen % 255 + 1, body := .walk s.sys.serial 2 }) t) ∧
    (timerDue s.cc.settleTimer 100 = true → s.cc.walk = .settling → s.hasNeighbour (other e) = false →
      completes (exec .settleTimerExpiry s) fun t =>
      t.cc.node = .operational ∧ t.cc.walk = .idle ∧ t.cc.gen = s.cc.gen % 255 + 1 ∧ t.cc.position = some 1 ∧
      t.cc.claim = some e ∧ t.cc.records = [] ∧
      t.cc.table = { gen := s.cc.gen % 255 + 1, reason := .none, entries := [{
        serial := s.sys.serial, position := 1, orientation := s.cc.orientation.getD .forward,
        cls := s.cc.coach.cls, leaves1 := s.cc.coach.leaves1, leaves2 := s.cc.coach.leaves2,
        stepPower := s.cc.coach.stepPower, lead := true }] } ∧
      t.se.outstanding = none ∧ t.se.lastLaunched = some 0 ∧ t.se.timeout = none ∧ t.se.intervalTimer = some 0 ∧
      (t.se.summary.map fun m => (m.gen, m.number, m.flags.length)) = some (s.cc.gen % 255 + 1, 0, 1) ∧
      t.ha.lastIssued = some (if s.ha.barred then .held else .allocation, some 0) ∧
      t.ha.watchdog = some 0 ∧ t.dcu.queue = (if s.cc.node = .operational then [] else s.dcu.queue) ∧
      (s.hl.masked .consist = true → told t .consist) ∧ samePorts s t ∧ sameHost s t)

/-- A TAIL at a walking leader, and the walk timer in WALK_SECOND (05 R91 to R93; 06 R103, R105; 08 R151): with every record up to the
last position held and no serial twice, the leader is OPERATIONAL with their table, offers CONFIRM and then the first SWEEP, and its
sweep, demand and grant state start afresh; with OVERLENGTH, bit 0 of its flags, it is the table of 32 with that reason; a missing record
in WALK_FIRST starts the second attempt; otherwise the walk ends truncated with reason TIMEOUT. The SWEEP's record shows DEGRADED as it
stood before the TAIL changed its pair's health, which is the model's choice (log entry 13). -/
def Obligations.TailConfirmsTheWalk : Prop :=
  ∀ (s : State) (p : PortId) (q : PairId) (seq flags last k : Nat) (serial : Serial),
    deliversNow s p q seq →
    s.cc.claim = some (other p) →
    s.cc.walking = true →
    s.se.lastSeen = none →
    s.se.gap = false →
    (flags % 2 = 0 → 2 ≤ last → last ≤ 32 → heldUpTo s.cc.records last = true → ((heldEntries s last).map Entry.serial).Nodup →
      s.se.lastSent = none →
      completes (exec (.tail p q seq s.cc.gen flags last serial) s) fun t =>
        walkConfirmed s t last .none ∧
        portsBut ((s.offer p { gen := s.cc.gen, body := .confirm last 0 ((heldEntries s last).map plainEntry) }).offer p
          { gen := s.cc.gen, body := .sweep 0 0 last
              { t.buildRecord with degraded := s.port1.cp.degradedPair || s.port2.cp.degradedPair }.bytes }) t p) ∧
    (flags % 2 = 1 → heldUpTo s.cc.records 32 = true → ((heldEntries s 32).map Entry.serial).Nodup → s.se.lastSent = none →
      completes (exec (.tail p q seq s.cc.gen flags last serial) s) fun t => walkConfirmed s t 32 .overlength) ∧
    (flags % 2 = 0 → 2 ≤ last → last ≤ 32 → heldUpTo s.cc.records last = false → s.cc.walk = .walkFirst → s.hasNeighbour p = true →
      completes (exec (.tail p q seq s.cc.gen flags last serial) s) fun t =>
        attemptStarted s t .walkSecond ∧
        portsBut (s.offer p { gen := s.cc.gen % 255 + 1, body := .walk s.sys.serial 2 }) t p) ∧
    (flags % 2 = 0 → last ≤ 1 ∨ 32 < last → completes (exec (.tail p q seq s.cc.gen flags last serial) s) fun t =>
      portsBut (s.countMalformed p) t p ∧ sameNode s t ∧ sameSystem s t ∧ sameHost s t) ∧
    (s.cc.walk = .walkSecond → s.inReset = false → timerDue s.cc.walkTimer 500 = true → 2 ≤ k → k ≤ 32 →
      heldUpTo s.cc.records k = true → (k = 32 ∨ recordAt s.cc.records (k + 1) = none) →
      ((heldEntries s k).map Entry.serial).Nodup → s.se.lastSent = none →
      completes (exec .walkTimerExpiry s) fun t => walkConfirmed s t k .timeout)

/-- A CONFIRM at a node without a claim (05 R94 to R96, 04 R64, R68): a PROVISIONAL member of its generation whose place it names becomes
OPERATIONAL with its table and passes it on below N, its unnamed bits among it (log entry 33); one that fails the check suspends the
member with cause MISMATCH, which CALLs on its front port; another generation counts as stale; any other node state discards it. A table
is well-formed by the conditions of 04 R70, in position order (log entry 36). -/
def Obligations.ConfirmMakesMembersOperational : Prop :=
  ∀ (s : State) (p : PortId) (q : PairId) (seq gen n reason x : Nat) (entries : List LineEntry) (e : Entry) (r : Reason),
    deliversNow s p q seq →
    s.cc.claim = none →
    s.cc.front = some p →
    entries ≠ [] →
    entries.length ≤ 32 →
    let table := entries.map LineEntry.entry
    (tableWellFormed n table = true ↔ 1 ≤ n ∧ n ≤ 32 ∧ table.length = n ∧
      (∀ i x, table[i]? = some x → x.position = i + 1) ∧ (table.map Entry.serial).Nodup ∧
      ∀ x ∈ table, x.serial ≠ 0 ∧ x.cls ≤ 15 ∧ x.leaves1 ≤ 4 ∧ x.leaves2 ≤ 4 ∧ 1 ≤ x.stepPower ∧ x.stepPower ≤ 40 ∧
        (x.lead = true ↔ x.position = 1)) ∧
    (gen = s.cc.gen → s.cc.node = .provisional → tableWellFormed n table = true → reasonOfCode reason = some r →
      s.cc.position = some x → recordAt table x = some e → e.serial = s.sys.serial →
      s.cc.orientation = some e.orientation →
      completes (exec (.confirm p q seq gen n reason entries) s) fun t =>
        t.cc = { s.cc with
          table := { gen, reason := r, entries := table }, node := .operational, confirmTimer := none,
          silenceTimer := some 0 } ∧
        t.se = s.se ∧ t.dcu = s.dcu ∧ t.ha = s.ha ∧ (s.hl.masked .consist = true → told t .consist) ∧
        sameSystem s t ∧ sameHost s t ∧
        (x < n → portsBut (s.offer (other p) { gen, body := .confirm n reason entries }) t p) ∧
        (n ≤ x → portsBut s t p)) ∧
    (gen = s.cc.gen → s.cc.node = .provisional → s.cc.position = some x →
      tableWellFormed n table = false ∨ n < x ∨ recordAt table x = some e ∧ e.serial ≠ s.sys.serial →
      completes (exec (.confirm p q seq gen n reason entries) s) fun t =>
        t.cc = { s.cc with node := .suspended, lastExit := .mismatch, confirmTimer := none } ∧
        t.se = s.se ∧ t.dcu = s.dcu ∧ t.ha = s.ha ∧ sameSystem s t ∧ sameHost s t ∧
        portsBut (s.offer p { gen := s.cc.gen, body := .call s.sys.serial x 3 0 }) t p) ∧
    (gen ≠ s.cc.gen → completes (exec (.confirm p q seq gen n reason entries) s) fun t =>
      portsBut (s.countStale p) t p ∧ sameNode s t ∧ sameSystem s t ∧ sameHost s t) ∧
    (gen = s.cc.gen → s.cc.node = .operational ∨ s.cc.node = .suspended →
      completes (exec (.confirm p q seq gen n reason entries) s) fun t =>
        portsBut s t p ∧ sameNode s t ∧ sameSystem s t ∧ sameHost s t)

/-- A node's own timers (04 R63, R65; 08 R148, R162, R163): the confirm timer suspends a PROVISIONAL member, the sweep-silence timer
an OPERATIONAL member; the watchdog zeroes the held grant; the hold-off ends with a SUPPLY notice and no run; the oldest trip leaves the
history 60 000 ms after it. -/
def Obligations.NodeTimersExpire : Prop :=
  ∀ (s : State) (t0 : Nat) (rest : List Nat),
    s.ticking = true →
    (timerDue s.cc.confirmTimer 1500 = true → s.cc.node = .provisional → exec .confirmTimerExpiry s =
      .next (State.hostKick { s with cc := { s.cc with
        node := .suspended, lastExit := .confirmTimeout, confirmTimer := none } })) ∧
    (timerDue s.cc.silenceTimer 3000 = true → s.cc.node = .operational →
      completes (exec .sweepSilenceTimerExpiry s) fun t =>
        t.cc = { s.cc with node := .suspended, lastExit := .silence, silenceTimer := none } ∧ leftOperational s t ∧
        sameSettings s t ∧ samePorts s t ∧ sameSystem s t ∧ sameHost s t) ∧
    (timerDue s.ha.watchdog 3000 = true → completes (exec .grantWatchdogExpiry s) fun t =>
      t.ha = { s.ha with held := 0, watchdog := none } ∧ t.heatEnable = false ∧ t.cc = s.cc ∧ t.se = s.se ∧
      t.dcu = s.dcu ∧ (s.hl.masked .grant = true → told t .grant) ∧ samePorts s t ∧ sameSystem s t ∧ sameHost s t) ∧
    (timerDue s.ha.holdOff 5000 = true → completes (exec .holdOffExpiry s) fun t =>
      t.ha = { s.ha with holdOff := none } ∧ t.cc = s.cc ∧ t.se = s.se ∧ t.dcu = s.dcu ∧
      (s.hl.masked .supply = true → told t .supply) ∧ samePorts s t ∧ sameSystem s t ∧ sameHost s t) ∧
    (s.ha.trips = t0 :: rest → t0 + 60000 ≤ s.sys.ticks →
      exec .tripEntryRemoval s = .next (State.hostKick { s with ha := { s.ha with trips := rest } }))

/-- A SWEEP at a member (06 R108, R109, R111 to R113; 04 R65): the gap check, the record or a NIL at the end of the list, and the sweep
sent on below N with a neighbour beyond, else turned back as a RETURN; a wrong generation counts as stale, a list that fails the check as
malformed; either way but the first an OPERATIONAL member's sweep-silence timer restarts. A list passes that decodes, covers less than 32
positions and holds runs of 2 to 32. Four points rest on the model's readings: the record shows DEGRADED as it stood before the frame
changed its pair's health (log entry 13), generation 0 counts as stale (log entry 21), and a SWEEP sent on carries REFRESH as its only
flag bit and, as a RETURN does, the list's earlier bytes as they arrived (11 section 11.1, 11 section 11.2, log entry 33). -/
def Obligations.NodesAnswerASweep : Prop :=
  ∀ (s : State) (p : PortId) (q : PairId) (seq gen number flags n : Nat) (list : List Nat)
      (l : List Element),
    deliversNow s p q seq →
    s.cc.claim = none →
    s.cc.front = some p →
    list ≠ [] →
    list.length ≤ 192 →
    let record := s.sweptRecord number
    let refresh := decide (flags % 2 = 1)
    let element := s.sweptElement record refresh
    let heard : Consist := if s.cc.node = .operational then { s.cc with silenceTimer := some 0 } else s.cc
    (sweepList number n list = some l ↔ decodeList list = some l ∧ number ≤ 15 ∧ 1 ≤ n ∧ n ≤ 32 ∧
      (∀ k, Element.nilRun k ∈ l → 2 ≤ k ∧ k ≤ 32) ∧
      (l.map fun x => match x with
        | .full _ => 1
        | .nil => 1
        | .nilRun k => k).sum < 32) ∧
    (gen = s.cc.gen → gen ≠ 0 → s.cc.node.inConsist = true → sweepList number n list = some l →
      completes (exec (.sweep p q seq gen number flags n list) s) fun t =>
        t.se = s.se.answered number record element ∧ t.cc = heard ∧ t.dcu = s.dcu ∧ t.ha = s.ha ∧
        sameSystem s t ∧ sameHost s t ∧
        (s.pos < n ∧ s.hasNeighbour (other p) = true → portsBut (s.offer (other p)
          { gen, body := .sweep number (if refresh then 1 else 0) n (appendBytes list l element) }) t p) ∧
        (n ≤ s.pos ∨ s.hasNeighbour (other p) = false → portsBut (s.offer p
          { gen, body := .ret number flags n (appendBytes list l element) }) t p)) ∧
    (gen = s.cc.gen → gen ≠ 0 → s.cc.node.inConsist = true → sweepList number n list = none →
      completes (exec (.sweep p q seq gen number flags n list) s) fun t =>
        portsBut (s.countMalformed p) t p ∧ t.cc = heard ∧ t.se = s.se ∧ t.dcu = s.dcu ∧ t.ha = s.ha ∧
        sameSystem s t ∧ sameHost s t) ∧
    (gen ≠ s.cc.gen ∨ gen = 0 → completes (exec (.sweep p q seq gen number flags n list) s) fun t =>
      portsBut (s.countStale p) t p ∧ sameNode s t ∧ sameSystem s t ∧ sameHost s t)

/-- The end of a sweep's list (06 R110): a full record is appended as it is; a NIL is appended behind nothing or a full record, and
merges with a NIL or a NIL-RUN at the end; elements before the last stay, byte for byte as they arrived. The bytes with the element
appended decode to the list with the element appended. The clauses over bytes, that earlier bytes stay with the bits that no field names
among them and that a merged element is written anew, are the model's reading (11 section 11.1, 11 section 11.2, log entry 33). -/
def Obligations.ElementsMergeAtTheListEnd : Prop :=
  ∀ (l : List Element) (r : Record) (k b b' : Nat) (head list : List Nat),
    appendElement l (.full r) = l ++ [.full r] ∧
    appendElement [] .nil = [.nil] ∧
    appendElement (l ++ [.full r]) .nil = l ++ [.full r, .nil] ∧
    appendElement (l ++ [.nil]) .nil = l ++ [.nilRun 2] ∧
    appendElement (l ++ [.nilRun k]) .nil = l ++ [.nilRun (k + 1)] ∧
    listCovers (appendElement l .nil) = listCovers l + 1 ∧
    appendBytes (head ++ [b]) (l ++ [.nil]) .nil = head ++ [0x80, 2] ∧
    appendBytes (head ++ [b, b']) (l ++ [.nilRun k]) .nil = head ++ [0x80, (k + 1) % 256] ∧
    appendBytes head (l ++ [.full r]) .nil = head ++ [0x40] ∧ appendBytes head l (.full r) = head ++ r.bytes ∧
    (decodeList list = some l → (∀ n, Element.nilRun n ∈ l → n < 255) → 1 ≤ r.position → r.position ≤ 32 → r.demand < 256 →
      decodeList (appendBytes list l .nil) = some (appendElement l .nil) ∧
      decodeList (appendBytes list l (.full r)) = some (appendElement l (.full r)))

/-- The interval timer at an OPERATIONAL leader (06 R104, R105, R101): with a sweep outstanding the next launch becomes due; otherwise
the next number is launched, with the leader's own element and the timeout timer. A node that is no OPERATIONAL leader launches
nothing. -/
def Obligations.IntervalTimerLaunchesOrWaits : Prop :=
  ∀ (s : State) (e : PortId),
    s.ticking = true →
    timerDue s.se.intervalTimer s.se.intervalPeriod = true →
    (s.operationalLeader = false →
      exec .intervalTimerExpiry s = .next (State.hostKick { s with se := { s.se with intervalTimer := none } })) ∧
    (s.operationalLeader = true → s.se.outstanding.isSome = true →
      exec .intervalTimerExpiry s =
        .next (State.hostKick { s with se := { s.se with intervalTimer := none, launchDue := true } })) ∧
    (s.operationalLeader = true → s.cc.claim = some e → s.se.outstanding = none → 2 ≤ s.consistN →
      let number := match s.se.lastLaunched with
        | none => 0
        | some n => (n + 1) % 16
      let record := s.sweptRecord number
      let element := s.sweptElement record s.se.refresh
      completes (exec .intervalTimerExpiry s) fun t =>
        t.se = { s.se.answered number record element with
          lastLaunched := some number, outstanding := some number, intervalTimer := some 0,
          intervalPeriod := s.se.interval, timeout := some 0 } ∧
        samePorts (s.offer (other e)
          { gen := s.cc.gen, body := .sweep number (if s.se.refresh then 1 else 0) s.consistN (listBytes [element]) }) t ∧
        t.cc = s.cc ∧ t.dcu = s.dcu ∧ t.ha = s.ha ∧ sameSystem s t ∧ sameHost s t)

/-- A RETURN that covers positions 1 to N completes the sweep (06 R114 to R117, 07 R142, 08 R154, R158, 05 R98): tables, summary,
TRAIN-CLOSED, one run and its GRANT, the confirm check. A demand above 7 is a free value (log entry 6). Any other number, or a leader
that is not OPERATIONAL, counts a stale RETURN. A list covers 1 to N where its elements stand for one record at each position, in turn; that
a NIL-RUN of a number outside 2 to 32 fails is the model's reading (log entry 20). -/
def Obligations.ReturnCompletesTheSweep : Prop :=
  ∀ (s : State) (p : PortId) (q : PairId) (seq gen number flags n : Nat) (list : List Nat)
      (records : List Record),
    deliversNow s p q seq →
    s.cc.claim = some (other p) →
    list ≠ [] →
    list.length ≤ 192 →
    (s.covered n list = some records ↔ n = s.consistN ∧ records.length = n ∧
      ∃ l, decodeList list = some l ∧ listStands s.se.lastFull 1 l records) ∧
    (gen = s.cc.gen → s.cc.node = .operational → s.se.outstanding = some number → 2 ≤ s.consistN →
      s.covered n list = some records → s.se.launchDue = false →
      completes (exec (.sweepReturn p q seq gen number flags n list) s) fun t =>
        let grants := if s.ha.barred then List.replicate 32 0 else grantTable (fullRun (s.ha.grants.take s.consistN)
          (t.se.demand.take s.consistN) s.powers s.ha.rotation s.ha.capacity s.ha.ramp)
        let cause : GrantCause := if s.ha.barred then .held else .allocation
        t.se = { s.se with
          outstanding := none, timeout := none, lostRow := 0, refresh := false,
          lastFull := records.map some ++ s.se.lastFull.drop records.length,
          demand := records.map (takenDemand s.sys.freeCount) ++ s.se.demand.drop records.length,
          summary := some { gen, number, flags := records.map fun r =>
            { operational := r.operational, closed := r.closed, relLeft := r.relLeft, relRight := r.relRight } } } ∧
        t.dcu = { s.dcu with
          trainClosed := (records.all fun r => r.operational && r.closed && !r.relLeft && !r.relRight) &&
            !s.dcu.releaseInFlight && !s.dcu.fence,
          fence := false } ∧
        (t.dcu.trainClosed ≠ s.dcu.trainClosed → s.hl.masked .closed = true → told t .closed) ∧
        t.ha = { s.ha with
          grants, rotation := if s.ha.barred then s.ha.rotation else if s.ha.rotation < s.consistN then s.ha.rotation + 1 else 1,
          held := grants.getD 0 0, watchdog := some 0, lastIssued := some (cause, some number),
          lastTaken := some { gen, cause, number := some number } } ∧
        portsBut (s.offer p
          { gen, body := .grant (grantCauseCode cause) number s.consistN (grants.take s.consistN) }) t p ∧
        t.cc = (if s.cc.confirmCheck = true ∧ (records.drop 1).any (fun r => !r.operational) = true ∧ s.cc.walk = .idle
          then { s.cc with confirmCheck := false, walk := .settling, settleTimer := some 0 }
          else { s.cc with confirmCheck := false }) ∧
        t.sys = { s.sys with freeCount := s.sys.freeCount + 1 } ∧ t.pending = s.pending ∧ sameHost s t) ∧
    (∀ r ∈ records, r.demand ≤ 7 → takenDemand s.sys.freeCount r = if r.operational then r.demand else 0) ∧
    (gen = s.cc.gen → s.cc.node ≠ .operational ∨ s.se.outstanding ≠ some number →
      completes (exec (.sweepReturn p q seq gen number flags n list) s) fun t =>
        t.se = { s.se with staleReturns := min 65535 (s.se.staleReturns + 1) } ∧ t.cc = s.cc ∧ t.dcu = s.dcu ∧
        t.ha = s.ha ∧ portsBut s t p ∧ sameSystem s t ∧ sameHost s t) ∧
    (gen ≠ s.cc.gen → completes (exec (.sweepReturn p q seq gen number flags n list) s) fun t =>
      portsBut (s.countStale p) t p ∧ sameNode s t ∧ sameSystem s t ∧ sameHost s t)

/-- A lost sweep (06 R115, R118; 07 R143): on the timeout, or on a RETURN that does not cover 1 to N, which also counts a coverage
failure. The second lost in a row triggers a walk. A launch that is due follows at the same event. -/
def Obligations.LostSweepsAreCountedAndMayWalk : Prop :=
  ∀ (s : State) (p : PortId) (q : PairId) (seq number flags n : Nat) (list : List Nat),
    s.operationalLeader = true →
    (s.ticking = true → timerDue s.se.timeout 150 = true → s.se.launchDue = false →
      completes (exec .sweepTimeout s) fun t => sweepLost s t .timeout s.se.coverageFailures ∧ samePorts s t) ∧
    (deliversNow s p q seq → s.cc.claim = some (other p) → s.se.outstanding = some number →
      s.covered n list = none → list ≠ [] → list.length ≤ 192 → s.se.launchDue = false →
      completes (exec (.sweepReturn p q seq s.cc.gen number flags n list) s) fun t =>
        sweepLost s t .coverage (min 65535 (s.se.coverageFailures + 1)) ∧ portsBut s t p) ∧
    (s.ticking = true → timerDue s.se.timeout 150 = true → s.se.launchDue = true → 2 ≤ s.consistN →
      completes (exec .sweepTimeout s) fun t =>
        t.se.launchDue = false ∧ t.se.outstanding = t.se.lastLaunched ∧ t.se.timeout = some 0 ∧
        t.se.intervalTimer = some 0 ∧ t.se.refresh = true ∧ t.se.lostSweeps = min 65535 (s.se.lostSweeps + 1) ∧
        t.se.lastLaunched = some (match s.se.lastLaunched with
          | none => 0
          | some k => (k + 1) % 16))

/-- A DOOR at a member (07 R131 to R133): in range and OPERATIONAL it sets or clears the release flags of the mapped coach sides; it
keeps the door record; at last or with no neighbour beyond it turns the command back as an ECHO, else it sends the DOOR on. Another
generation than the node's counts as stale, a field out of its range as malformed. That generation 0 counts as stale at every node, one of
generation 0 among them, is the model's reading (log entry 21). -/
def Obligations.NodesHandleADoor : Prop :=
  ∀ (s : State) (p : PortId) (q : PairId) (seq gen id first last x y : Nat) (a : Action) (side : TrainSide) (o : Orientation),
    deliversNow s p q seq →
    s.cc.claim = none →
    s.cc.front = some p →
    (gen = s.cc.gen → gen ≠ 0 → s.cc.orientation = some o → id ≤ 15 → ¬ (a = .release ∧ side = .both) → 1 ≤ first →
      first ≤ last → last ≤ 32 →
      let applies := s.cc.node == .operational && decide (first ≤ s.pos) && decide (s.pos ≤ last)
      let side1 := side == .both || (side == .left) == (o == .forward)
      let side2 := side == .both || (side == .right) == (o == .forward)
      completes (exec (.door p q seq gen id (actionCode a) (trainSideCode side) first last) s) fun t =>
        t.dcu = { s.dcu with
          lastDoor := some { gen, id, applied := applies },
          release1 := if applies && side1 then a == .release else s.dcu.release1,
          release2 := if applies && side2 then a == .release else s.dcu.release2 } ∧
        (t.dcu.release1 ≠ s.dcu.release1 ∨ t.dcu.release2 ≠ s.dcu.release2 → s.hl.masked .release = true →
          told t .release) ∧
        t.cc = s.cc ∧ t.se = s.se ∧ t.ha = s.ha ∧ sameSystem s t ∧ sameHost s t ∧
        (last ≤ s.pos ∨ s.hasNeighbour (other p) = false → portsBut (s.offer p
          { gen, body := .echo id (if applies then posBit s.pos else 0) }) t p) ∧
        (s.pos < last → s.hasNeighbour (other p) = true → portsBut (s.offer (other p)
          { gen, body := .door id (actionCode a) (trainSideCode side) first last }) t p)) ∧
    (gen = s.cc.gen → gen ≠ 0 →
      15 < id ∨ 1 < x ∨ 2 < y ∨ x = 0 ∧ y = 2 ∨ first = 0 ∨ last < first ∨ 32 < last →
      completes (exec (.door p q seq gen id x y first last) s) fun t =>
        portsBut (s.countMalformed p) t p ∧ sameNode s t ∧ sameSystem s t ∧ sameHost s t) ∧
    (gen ≠ s.cc.gen ∨ gen = 0 → completes (exec (.door p q seq gen id x y first last) s) fun t =>
      portsBut (s.countStale p) t p ∧ sameNode s t ∧ sameSystem s t ∧ sameHost s t)

/-- A window resolved at dispatch (07 R127): 0 is the whole train; a window of offset N or more is empty, and its command ends with
result EMPTY, its first and last kept as resolved (log entry 19); any other range lies within 1 to N. -/
def Obligations.WindowsResolveAtTheConsistLength : Prop :=
  ∀ (s : State) (w : Window) (n : Nat) (c : DoorCmd),
    1 ≤ n →
    1 ≤ w.count →
    s.resolve 0 = (1, s.consistN) ∧
    (w.anchor = .front → resolveWindow w n = (1 + w.offset, min n ((1 + w.offset) + w.count - 1))) ∧
    (w.anchor = .rear → w.offset < n →
      resolveWindow w n = ((max 1 ((n - w.offset : Int) - w.count + 1)).toNat, n - w.offset)) ∧
    (n ≤ w.offset ↔ (resolveWindow w n).2 < (resolveWindow w n).1) ∧
    (w.offset < n → 1 ≤ (resolveWindow w n).1 ∧ (resolveWindow w n).1 ≤ (resolveWindow w n).2 ∧
      (resolveWindow w n).2 ≤ n) ∧
    (∀ k < 4, s.resolve (k + 1) = resolveWindow (s.dcu.windows.getD k Window.default) s.consistN) ∧
    (s.dcu.queue = [c] → (s.resolve c.window).2 < (s.resolve c.window).1 →
      s.dispatchQueue.dcu = { s.dcu with
        queue := [], inFlight := none, echoTimer := none,
        results := joinResults s.dcu.results
          [{ cmd := c, range := some (s.resolve c.window), ending := .empty, applied := some 0 }] } ∧
      samePorts s s.dispatchQueue)

/-- The end of a command in flight at the leader (07 R135 to R138): an ECHO of its id and generation ends it, marked for the leader,
COMPLETE if the applied set holds every expected position, else PARTIAL; the echo timer ends it TIMEOUT; the next head is
dispatched at the same event. Its applied set until its own ECHO, position 1, is the model's choice (log entry 38). Another
ECHO is late, or stale by its generation. -/
def Obligations.EchoesEndTheCommandInFlight : Prop :=
  ∀ (s : State) (p : PortId) (q : PairId) (seq gen id : Nat) (applied : PosSet) (c d : DoorCmd) (rest : List DoorCmd)
      (f : InFlight),
    s.operationalLeader = true →
    s.cc.claim = some (other p) →
    let marked := if s.dcu.lastDoor = some { gen, id, applied := true } then applied ||| posBit 1 else applied
    (deliversNow s p q seq → gen = s.cc.gen → s.dcu.inFlight = some f → c.id = id →
      (s.dcu.queue = [c] → completes (exec (.echo p q seq gen id applied) s) fun t =>
        t.dcu = { s.dcu with
          queue := [], inFlight := none, echoTimer := none,
          results := joinResults s.dcu.results [{
            cmd := c, range := some (f.first, f.last), applied := some marked,
            ending := if f.expected &&& ~~~marked = 0 then .complete else .partialEnd }] } ∧
        (s.hl.masked .doorResult = true → told t .doorResult) ∧ t.cc = s.cc ∧ t.se = s.se ∧ t.ha = s.ha ∧
        portsBut s t p ∧ sameSystem s t ∧ sameHost s t) ∧
      (s.dcu.queue = c :: d :: rest → d.window = 0 → 2 ≤ s.consistN →
        completes (exec (.echo p q seq gen id applied) s) fun t =>
          t.dcu.queue = d :: rest ∧ t.dcu.echoTimer = some 0 ∧
          t.dcu.inFlight = some { first := 1, last := s.consistN, expected := s.expectedSet 1 s.consistN, applied := posBit 1 } ∧
          t.dcu.lastDoor = some { gen, id := d.id, applied := true } ∧
          (d.action = .release → t.dcu.trainClosed = false ∧ t.dcu.fence = (s.dcu.fence || s.se.outstanding.isSome)) ∧
          portsBut (s.offer p
            { gen, body := .door d.id (actionCode d.action) (trainSideCode d.side) 1 s.consistN }) t p)) ∧
    (deliversNow s p q seq → gen = s.cc.gen →
      s.dcu.inFlight = none ∨ s.dcu.queue.head?.map DoorCmd.id ≠ some id →
      completes (exec (.echo p q seq gen id applied) s) fun t =>
        t.dcu = { s.dcu with lateEchoes := min 65535 (s.dcu.lateEchoes + 1) } ∧ t.cc = s.cc ∧ t.se = s.se ∧
        t.ha = s.ha ∧ portsBut s t p ∧ sameSystem s t ∧ sameHost s t) ∧
    (deliversNow s p q seq → gen ≠ s.cc.gen → completes (exec (.echo p q seq gen id applied) s) fun t =>
      portsBut (s.countStale p) t p ∧ sameNode s t ∧ sameSystem s t ∧ sameHost s t) ∧
    (s.ticking = true → timerDue s.dcu.echoTimer 300 = true → s.dcu.inFlight = some f → s.dcu.queue = [c] →
      completes (exec .echoTimerExpiry s) fun t =>
        t.dcu = { s.dcu with
          queue := [], inFlight := none, echoTimer := none,
          results := joinResults s.dcu.results
            [{ cmd := c, range := some (f.first, f.last), ending := .timeout, applied := none }] } ∧
        (s.hl.masked .doorResult = true → told t .doorResult) ∧ t.cc = s.cc ∧ t.se = s.se ∧ t.ha = s.ha ∧
        samePorts s t ∧ sameSystem s t ∧ sameHost s t)

/-- A GRANT at a member (08 R148 to R150): an OPERATIONAL node within N takes its entry, with its watchdog from 0; below N with a
neighbour beyond it sends the same GRANT on. A wrong generation counts as stale, a field out of its range as malformed. That generation 0
counts as stale at every node is the model's reading (log entry 21). -/
def Obligations.NodesTakeAndPassAGrant : Prop :=
  ∀ (s : State) (p : PortId) (q : PairId) (seq gen cause number n : Nat) (grants : List Nat) (c : GrantCause) (k : Option Nat),
    deliversNow s p q seq →
    s.cc.claim = none →
    s.cc.front = some p →
    grants ≠ [] →
    grants.length ≤ 32 →
    (gen = s.cc.gen → gen ≠ 0 → s.cc.node.inConsist = true → grantCauseOfCode cause = some c →
      sweepNumberOfCode number = some k → n = grants.length → (∀ g ∈ grants, g ≤ 7) →
      completes (exec (.grant p q seq gen cause number n grants) s) fun t =>
        t.ha = (if s.cc.node = .operational ∧ s.pos ≤ n then { s.ha with
            held := grants.getD (s.pos - 1) 0, watchdog := some 0, lastTaken := some { gen, cause := c, number := k } }
          else s.ha) ∧
        (t.ha.held ≠ s.ha.held → s.hl.masked .grant = true → told t .grant) ∧
        t.cc = s.cc ∧ t.se = s.se ∧ t.dcu = s.dcu ∧ sameSystem s t ∧ sameHost s t ∧
        (s.pos < n ∧ s.hasNeighbour (other p) = true → portsBut (s.offer (other p)
          { gen, body := .grant cause number n grants }) t p) ∧
        (n ≤ s.pos ∨ s.hasNeighbour (other p) = false → portsBut s t p)) ∧
    (gen = s.cc.gen → gen ≠ 0 →
      3 < cause ∨ 15 < number ∧ number ≠ 255 ∨ n ≠ grants.length ∨ (∃ g ∈ grants, 7 < g) →
      completes (exec (.grant p q seq gen cause number n grants) s) fun t =>
        portsBut (s.countMalformed p) t p ∧ sameNode s t ∧ sameSystem s t ∧ sameHost s t) ∧
    (gen ≠ s.cc.gen ∨ gen = 0 → completes (exec (.grant p q seq gen cause number n grants) s) fun t =>
      portsBut (s.countStale p) t p ∧ sameNode s t ∧ sameSystem s t ∧ sameHost s t)

/-- The allocation runs (08 R155 to R157, R159): the visiting order is 1 to N turned to the rotation start; a shed takes a step from a
greatest level, the last among equals in that order, while the total exceeds the capacity; the shed-only result lies within grants,
demands and capacity, and the full result within demands and capacity, with at most one step more at each position than the shed result
and steps of at most R units in all. -/
def Obligations.AllocationStaysInItsBounds : Prop :=
  ∀ (grants demands powers : List Nat) (start cap ramp : Nat),
    demands.length = grants.length →
    powers.length = grants.length →
    1 ≤ start →
    start ≤ grants.length →
    (∀ w ∈ powers, 1 ≤ w) →
    let n := grants.length
    let kept := shedRun grants demands powers start cap
    let full := fullRun grants demands powers start cap ramp
    visitOrder n start = ((List.range n).map (· + 1)).rotate (start - 1) ∧
    (∀ levels order x, shedChoice levels order = some x ↔ ∃ before after, order = before ++ x :: after ∧
      (∀ y ∈ before, at1 levels y ≤ at1 levels x) ∧ ∀ y ∈ after, at1 levels y < at1 levels x) ∧
    (∀ fuel levels order x, shedChoice levels order = some x → shed (fuel + 1) levels powers order cap =
      if cap < totalPower levels powers then shed fuel (levels.set (x - 1) (at1 levels x - 1)) powers order cap
      else levels) ∧
    kept.length = n ∧ full.length = n ∧ totalPower kept powers ≤ cap ∧ totalPower full powers ≤ cap ∧
    totalPower full powers ≤ totalPower kept powers + ramp ∧
    (∀ i < n, kept.getD i 0 ≤ min (grants.getD i 0) (demands.getD i 0) ∧ kept.getD i 0 ≤ full.getD i 0 ∧
      full.getD i 0 ≤ kept.getD i 0 + 1 ∧ full.getD i 0 ≤ demands.getD i 0) ∧
    (∀ i < n, full.getD i 0 < demands.getD i 0 → full.getD i 0 = kept.getD i 0 →
      cap < totalPower full powers + powers.getD i 0 ∨ totalPower kept powers + ramp < totalPower full powers + powers.getD i 0) ∧
    (totalPower (List.zipWith min grants demands) powers ≤ cap → kept = List.zipWith min grants demands) ∧
    1 ≤ nextRotation start n ∧ nextRotation start n ≤ n

/-- The requests that read state (09 R171, R174, R176; 01 R27, 02 R45, 03 R59, 04 R73, 07 R144, 08 R165): each takes a slot, changes
nothing else, and its OK reply carries the owner's fields as they stand (log entries 11, 26 and 39 for their codes and layouts); a port or
start position outside its range is refused. -/
def Obligations.GetRequestsReplyWithTheirFields : Prop :=
  ∀ (s : State) (tag a : Nat),
    takesSlot s →
    exec (.getIdentity tag []) s =
      .next (s.replied 0x01 tag [] .ok (s.replied 0x01 tag [] .ok []).identityFields).hostKick ∧
    exec (.getNode tag []) s = .next (s.replied 0x07 tag [] .ok s.nodeFields).hostKick ∧
    exec (.getDoorResults tag []) s = .next (s.replied 0x0A tag [] .ok s.doorFields).hostKick ∧
    exec (.getHeating tag []) s = .next (s.replied 0x0F tag [] .ok s.heatingFields).hostKick ∧
    (1 ≤ a → a ≤ 32 → exec (.getConsist tag [a]) s = .next (s.replied 0x06 tag [a] .ok (s.consistFields a)).hostKick) ∧
    (a = 0 ∨ 32 < a → exec (.getConsist tag [a]) s = .next (s.replied 0x06 tag [a] .range []).hostKick) ∧
    (a = 1 → exec (.getPort tag [a]) s = .next (s.replied 0x12 tag [a] .ok s.port1.fields).hostKick) ∧
    (a = 2 → exec (.getPort tag [a]) s = .next (s.replied 0x12 tag [a] .ok s.port2.fields).hostKick) ∧
    (a = 0 ∨ 2 < a → exec (.getPort tag [a]) s = .next (s.replied 0x12 tag [a] .range []).hostKick)

/-- Plain settings (07 R122, R123, R126, R140; 08 R146; 09 R177): a value outside its range is refused and changes nothing, but for a
heat level above 7, which is taken as 7; an accepted one is applied at once. A notice kind that leaves the mask leaves the pending
set. A changed isolation set raises LEAF and re-examines the open timer; standstill given, or withdrawn with no release known, only
sets or clears its flag; that the byte 0 is on and 1 is off is the model's reading of 11 R185 (log entry 11). -/
def Obligations.SettingsAreAppliedOrRefused : Prop :=
  ∀ (s : State) (tag i anchor offset count enabled level m1 m0 v : Nat),
    takesSlot s →
    (i = 0 ∨ 4 < i ∨ 1 < anchor ∨ 31 < offset ∨ count = 0 ∨ 32 < count ∨ 1 < enabled →
      exec (.setWindow tag [i, anchor, offset, count, enabled]) s =
        .next (s.replied 0x08 tag [i, anchor, offset, count, enabled] .range []).hostKick) ∧
    (1 ≤ i → i ≤ 4 → anchor ≤ 1 → offset ≤ 31 → 1 ≤ count → count ≤ 32 → enabled ≤ 1 →
      exec (.setWindow tag [i, anchor, offset, count, enabled]) s =
        .next (State.replied (s.modDcu fun d => { d with
          windows := d.windows.set (i - 1) (Window.mk (if anchor = 0 then .front else .rear) offset count (enabled == 1)) })
          0x08 tag [i, anchor, offset, count, enabled] .ok []).hostKick) ∧
    exec (.setHeatLevel tag [level]) s =
      .next (State.replied { s with ha := { s.ha with level := min 7 level } } 0x0C tag [level] .ok [min 7 level]).hostKick ∧
    (4096 ≤ m1 * 256 + m0 →
      exec (.setNotices tag [m1, m0]) s = .next (s.replied 0x16 tag [m1, m0] .range []).hostKick) ∧
    (m1 * 256 + m0 < 4096 → completes (exec (.setNotices tag [m1, m0]) s) fun t =>
      t.hl.mask = BitVec.ofNat 12 (m1 * 256 + m0) ∧ { t with hl := s.hl } = s ∧
      t.hl.replies = s.hl.replies ++ [{ kind := 0x16, tag, status := .ok, fields := [] }] ∧
      ∀ k, s.hl.masked k = true → t.hl.masked k = false → t.hl.flagged k = false ∧
        (s.hl.tx.isSome = true → t.hl.tx = s.hl.tx)) ∧
    (s.dcu.isolated = BitVec.ofNat 8 v →
      exec (.isolateLeaves tag [v]) s = .next (s.replied 0x13 tag [v] .ok []).hostKick) ∧
    (s.dcu.isolated ≠ BitVec.ofNat 8 v → completes (exec (.isolateLeaves tag [v]) s) fun t =>
      t.dcu = { s.dcu with
        isolated := BitVec.ofNat 8 v, boost := t.anyLeafOpen && s.dcu.boost,
        openTimer := if t.anyLeafOpen then (if s.dcu.openTimer.isSome then s.dcu.openTimer else some 0) else none } ∧
      (s.hl.masked .leaf = true → told t .leaf) ∧ t.cc = s.cc ∧ t.se = s.se ∧ t.ha = s.ha ∧ samePorts s t ∧
      t.hl.replies = s.hl.replies ++ [{ kind := 0x13, tag, status := .ok, fields := [] }] ∧ sameSystem s t) ∧
    (2 ≤ v → exec (.setStandstill tag [v]) s = .next (s.replied 0x0B tag [v] .range []).hostKick) ∧
    exec (.setStandstill tag [0]) s =
      .next (State.replied { s with dcu := { s.dcu with standstill := true } } 0x0B tag [0] .ok []).hostKick ∧
    (s.dcu.standstill = false ∨ s.operationalLeader = false ∨ s.releaseKnown = false →
      exec (.setStandstill tag [1]) s =
        .next (State.replied { s with dcu := { s.dcu with standstill := false } } 0x0B tag [1] .ok []).hostKick)

/-- Set Coach (04 R74, R75; 05 R83; 07 R123): a field out of its range is refused; an unchanged record changes nothing; a changed one
suspends a PROVISIONAL or OPERATIONAL node, which CALLs on its LINKED front port, or triggers a walk at a leader. -/
def Obligations.CoachChangesSuspendTheNode : Prop :=
  ∀ (s : State) (tag cls l1 l2 w : Nat) (f : PortId),
    takesSlot s →
    (15 < cls ∨ 4 < l1 ∨ 4 < l2 ∨ w = 0 ∨ 40 < w →
      exec (.setCoach tag [cls, l1, l2, w]) s = .next (s.replied 0x02 tag [cls, l1, l2, w] .range []).hostKick) ∧
    (cls ≤ 15 → l1 ≤ 4 → l2 ≤ 4 → 1 ≤ w → w ≤ 40 →
      let coach : Coach := { cls, leaves1 := l1, leaves2 := l2, stepPower := w }
      (s.cc.coach = coach →
        exec (.setCoach tag [cls, l1, l2, w]) s = .next (s.replied 0x02 tag [cls, l1, l2, w] .ok []).hostKick) ∧
      (s.cc.coach ≠ coach → completes (exec (.setCoach tag [cls, l1, l2, w]) s) fun t =>
        t.hl.replies = s.hl.replies ++ [{ kind := 0x02, tag, status := .ok, fields := [] }] ∧ sameSystem s t ∧
        t.cc.coach = coach ∧ t.cc.claim = s.cc.claim ∧
        t.dcu.openTimer = (if t.anyLeafOpen then (if s.dcu.openTimer.isSome then s.dcu.openTimer else some 0) else none) ∧
        t.dcu.boost = (t.anyLeafOpen && s.dcu.boost) ∧
        (s.cc.node = .detached ∨ s.cc.node = .suspended ∨ s.cc.node = .isolated →
          t.cc = { s.cc with coach } ∧ samePorts s t ∧ t.se = s.se ∧ t.ha = s.ha) ∧
        (s.cc.node = .operational ∨ s.cc.node = .provisional →
          t.cc.node = .suspended ∧ t.cc.lastExit = .coach ∧ t.cc.table = s.cc.table ∧ leftOperational s t) ∧
        (s.cc.node = .operational ∨ s.cc.node = .provisional → s.cc.claim = none → s.cc.front = some f →
          (s.cp f).st = .linked → samePorts (s.offer f
            { gen := s.cc.gen, body := .call s.sys.serial (s.cc.position.getD 0xFF) 2 0 }) t) ∧
        (s.cc.node = .operational → s.cc.claim.isSome = true → s.cc.walk = .idle → t.cc.walk = .settling ∧
          t.cc.settleTimer = some 0 ∧ samePorts s t) ∧
        (s.cc.node = .provisional → s.cc.claim.isSome = true → t.cc.walk = .settling ∧ t.cc.settleTimer = some 0 ∧
          t.cc.records = [] ∧ t.cc.walkTimer = none ∧ samePorts s t)))

/-- Withdrawal of standstill at an OPERATIONAL leader with a release known and a command in flight (07 R141, R138): queued RELEASEs end
ABORTED, with four commands left the newest behind the head ends ABORTED too, and an automatic CLOSE of both sides of the whole train
stands next, with the next id. DOOR_RESULT is raised if a result joined, and only then (log entry 30). That the byte 1 is off is the
model's reading of 11 R185 (log entry 11). -/
def Obligations.StandstillWithdrawalClosesTheTrain : Prop :=
  ∀ (s : State) (tag : Nat) (head : DoorCmd) (rest : List DoorCmd),
    takesSlot s →
    s.dcu.standstill = true →
    s.operationalLeader = true →
    s.dcu.inFlight.isSome = true →
    s.dcu.queue = head :: rest →
    rest.length ≤ 3 →
    (s.dcu.release1 = true ∨ s.dcu.release2 = true ∨ (∃ c ∈ s.dcu.queue, c.action = .release)) →
    let closes := rest.filter fun c => c.action == .close
    let kept := if closes.length = 3 then closes.take 2 else closes
    let aborted (c : DoorCmd) : DoorResult := { cmd := c, range := none, ending := .aborted, applied := none }
    let results := (rest.filter fun c => c.action == .release).map aborted ++
      (if closes.length = 3 then (closes.drop 2).map aborted else [])
    completes (exec (.setStandstill tag [1]) s) fun t =>
      t.dcu = { s.dcu with
        standstill := false, lastId := (s.dcu.lastId + 1) % 16,
        queue := head ::
          { id := (s.dcu.lastId + 1) % 16, action := .close, side := .both, window := 0, automatic := true } :: kept,
        results := joinResults s.dcu.results results } ∧
      (results ≠ [] → s.hl.masked .doorResult = true → told t .doorResult) ∧
      (results = [] → t.hl.flagged .doorResult = s.hl.flagged .doorResult) ∧ samePorts s t ∧ t.cc = s.cc ∧
      t.se = s.se ∧ t.ha = s.ha ∧ sameSystem s t

/-- Set Sweep Interval (06 R106): a value below 50 is 50, above 1000 is 1000, any other is rounded down to a multiple of 10; it is
applied at once in every node state and replied; a running interval timer keeps its period. -/
def Obligations.SweepIntervalIsClampedAndApplied : Prop :=
  ∀ (s : State) (tag v1 v0 : Nat),
    takesSlot s →
    let v := v1 * 256 + v0
    let applied := if v < 50 then 50 else if 1000 < v then 1000 else v - v % 10
    exec (.setSweepInterval tag [v1, v0]) s =
      .next (State.replied { s with se := { s.se with interval := applied } } 0x10 tag [v1, v0] .ok
        [applied / 256, applied % 256]).hostKick

/-- Claim Lead, Drop Lead and Start Inauguration (05 R80, R81, R83, R99; 04 R69): each is refused in the states its rule names; a claim
suspends its node, makes the cab end its front port and triggers a walk; a drop ends the claim; Start Inauguration triggers a walk
and replies the walk engine's state after it. -/
def Obligations.LeadRequestsChangeTheClaim : Prop :=
  ∀ (s : State) (tag n : Nat) (e : PortId),
    takesSlot s →
    (n = 0 ∨ 2 < n → exec (.claimLead tag [n]) s = .next (s.replied 0x03 tag [n] .range []).hostKick) ∧
    (portOfNumber n = some e →
      s.cc.node = .isolated ∨ s.hasNeighbour e = true ∨ s.cc.claim = some (other e) →
      exec (.claimLead tag [n]) s = .next (s.replied 0x03 tag [n] .state []).hostKick) ∧
    (portOfNumber n = some e → s.cc.node ≠ .isolated → s.hasNeighbour e = false →
      (s.cc.claim = some e → exec (.claimLead tag [n]) s = .next (State.replied s.walkTrigger 0x03 tag [n] .ok []).hostKick) ∧
      (s.cc.claim = none → s.cc.walk = .idle → completes (exec (.claimLead tag [n]) s) fun t =>
        t.cc = { s.cc with
          claim := some e, front := some e, orientation := some (orientationOf e), leadCause := .claimed,
          walk := .settling, settleTimer := some 0,
          node := if s.cc.node = .detached then .detached else .suspended,
          lastExit := if s.cc.node = .operational ∨ s.cc.node = .provisional then .claim else s.cc.lastExit,
          confirmTimer := if s.cc.node = .provisional then none else s.cc.confirmTimer,
          silenceTimer := if s.cc.node = .operational then none else s.cc.silenceTimer } ∧
        leftOperational s t ∧ sameSettings s t ∧ (s.hl.masked .lead = true → told t .lead) ∧ samePorts s t ∧
        t.hl.replies = s.hl.replies ++ [{ kind := 0x03, tag, status := .ok, fields := [] }] ∧ sameSystem s t)) ∧
    (s.cc.claim = none →
      exec (.dropLead tag []) s = .next (s.replied 0x04 tag [] .notLead []).hostKick ∧
      exec (.startInauguration tag []) s = .next (s.replied 0x05 tag [] .notLead []).hostKick) ∧
    (s.cc.claim.isSome = true → completes (exec (.dropLead tag []) s) fun t =>
      t.cc = { s.cc with
        claim := none, leadCause := .dropped, walk := .idle, settleTimer := none, walkTimer := none, records := [],
        callHeld := false, front := if s.cc.position.isSome then s.cc.front else none,
        orientation := if s.cc.position.isSome then s.cc.orientation else none,
        node := if s.cc.node = .operational ∨ s.cc.node = .provisional then .suspended else s.cc.node,
        lastExit := if s.cc.node = .operational ∨ s.cc.node = .provisional then .drop else s.cc.lastExit,
        confirmTimer := if s.cc.node = .provisional then none else s.cc.confirmTimer,
        silenceTimer := if s.cc.node = .operational then none else s.cc.silenceTimer } ∧
      leftOperational s t ∧ sameSettings s t ∧ (s.hl.masked .lead = true → told t .lead) ∧ samePorts s t ∧
      t.hl.replies = s.hl.replies ++ [{ kind := 0x04, tag, status := .ok, fields := [] }] ∧ sameSystem s t) ∧
    (s.cc.claim.isSome = true →
      (s.cc.walk = .idle → exec (.startInauguration tag []) s =
        .next (State.replied { s with cc := { s.cc with walk := .settling, settleTimer := some 0 } } 0x05 tag [] .ok
          [1]).hostKick) ∧
      (s.cc.walk ≠ .idle → exec (.startInauguration tag []) s =
        .next (s.replied 0x05 tag [] .ok [walkStateCode s.cc.walk]).hostKick))

/-- Door Command (07 R128, R130): the refusals in their order; an accepted command takes the next id and joins the tail; with a queue
that was empty it is dispatched at once: here over the whole train, with its DOOR sent, or carried out alone at N = 1. The applied set in
flight until the ECHO, position 1, is the model's choice (log entry 38). -/
def Obligations.DoorCommandsQueueOrAreRefused : Prop :=
  ∀ (s : State) (tag x y w : Nat) (a : Action) (side : TrainSide) (e : PortId),
    takesSlot s →
    let id := (s.dcu.lastId + 1) % 16
    let refused (status : Status) : Prop :=
      exec (.doorCommand tag [x, y, w]) s = .next (s.replied 0x09 tag [x, y, w] status []).hostKick
    (s.operationalLeader = false → refused .notLead) ∧
    (s.operationalLeader = true →
      1 < x ∨ 2 < y ∨ x = 0 ∧ y = 2 ∨ s.dcu.windowUsable w = false → refused .range) ∧
    (s.operationalLeader = true → actionOfCode x = some a → trainSideOfCode y = some side →
      ¬ (a = .release ∧ side = .both) → s.dcu.windowUsable w = true →
      (a = .release → s.dcu.standstill = false → refused .notStandstill) ∧
      (a = .close ∨ s.dcu.standstill = true → 4 ≤ s.dcu.queue.length → refused .queueFull) ∧
      (a = .close ∨ s.dcu.standstill = true → s.dcu.queue ≠ [] → s.dcu.queue.length < 4 →
        exec (.doorCommand tag [x, y, w]) s = .next (State.replied { s with dcu := { s.dcu with
          lastId := id, queue := s.dcu.queue ++ [{ id, action := a, side, window := w, automatic := false }] } }
          0x09 tag [x, y, w] .ok [id]).hostKick) ∧
      (a = .close ∨ s.dcu.standstill = true → s.dcu.queue = [] → w = 0 → s.cc.claim = some e → 2 ≤ s.consistN →
        completes (exec (.doorCommand tag [x, y, w]) s) fun t =>
          t.dcu.queue = [{ id, action := a, side, window := w, automatic := false }] ∧ t.dcu.lastId = id ∧
          t.dcu.inFlight = some { first := 1, last := s.consistN, expected := s.expectedSet 1 s.consistN, applied := posBit 1 } ∧
          t.dcu.echoTimer = some 0 ∧ t.dcu.lastDoor = some { gen := s.cc.gen, id, applied := true } ∧
          (a = .release → t.dcu.trainClosed = false ∧ t.dcu.fence = (s.dcu.fence || s.se.outstanding.isSome)) ∧
          samePorts (s.offer (other e)
            { gen := s.cc.gen, body := .door id (actionCode a) (trainSideCode side) 1 s.consistN }) t ∧
          t.hl.replies = s.hl.replies ++ [{ kind := 0x09, tag, status := .ok, fields := [id] }] ∧
          t.cc = s.cc ∧ t.se = s.se ∧ t.ha = s.ha ∧ sameSystem s t) ∧
      (a = .close ∨ s.dcu.standstill = true → s.dcu.queue = [] → w = 0 → s.consistN = 1 →
        completes (exec (.doorCommand tag [x, y, w]) s) fun t =>
          t.dcu.queue = [] ∧ t.dcu.lastId = id ∧ t.dcu.inFlight = none ∧ t.dcu.echoTimer = none ∧
          t.dcu.results = joinResults s.dcu.results [{
            cmd := { id, action := a, side, window := w, automatic := false }, range := some (1, 1),
            ending := .complete, applied := some (posBit 1) }] ∧
          samePorts s t ∧ (s.hl.masked .doorResult = true → told t .doorResult)))

/-- Set Supply and Supply Trip (08 R151, R152, R158, R159, R161, R162): values are clamped and replied; a standing lockout refuses them
unless it is cleared, with the history; an OPERATIONAL leader outside hold-off and lockout sheds to the new capacity. A trip zeroes
the grants, starts the hold-off, joins the history, and locks out at three. -/
def Obligations.SupplyRequestsShedAndTrip : Prop :=
  ∀ (s : State) (tag c1 c0 r1 r0 clear : Nat) (e : PortId),
    takesSlot s →
    let payload := [c1, c0, r1, r0, clear]
    let number := s.se.summary.map Summary.number
    let cap := min 4000 (c1 * 256 + c0)
    let ramp := max 1 (min 400 (r1 * 256 + r0))
    let lifted := s.ha.lockout && clear == 1
    let ha : Heating := { s.ha with
      capacity := cap, ramp, lockout := s.ha.lockout && !lifted, trips := if lifted then [] else s.ha.trips }
    let grants := grantTable (shedRun (s.ha.grants.take s.consistN) (s.se.demand.take s.consistN) s.powers s.ha.rotation cap)
    let trips := joinTrip s.ha.trips s.sys.ticks
    (1 < clear → exec (.setSupply tag payload) s = .next (s.replied 0x0D tag payload .range []).hostKick) ∧
    (clear = 0 → s.ha.lockout = true →
      exec (.setSupply tag payload) s = .next (s.replied 0x0D tag payload .lockedOut []).hostKick) ∧
    (clear ≤ 1 → clear = 1 ∨ s.ha.lockout = false → completes (exec (.setSupply tag payload) s) fun t =>
      t.hl.replies = s.hl.replies ++
        [{ kind := 0x0D, tag, status := .ok, fields := [cap / 256, cap % 256, ramp / 256, ramp % 256] }] ∧
      (lifted = true → s.hl.masked .supply = true → told t .supply) ∧
      t.cc = s.cc ∧ t.se = s.se ∧ t.dcu = s.dcu ∧ sameSystem s t ∧
      (s.operationalLeader = false ∨ s.ha.holdOff.isSome = true → t.ha = ha ∧ samePorts s t) ∧
      (s.operationalLeader = true → s.ha.holdOff = none → grants = s.ha.grants → t.ha = ha ∧ samePorts s t) ∧
      (s.operationalLeader = true → s.ha.holdOff = none → grants ≠ s.ha.grants → s.cc.claim = some e → 2 ≤ s.consistN →
        t.ha = { ha with
          grants, held := grants.getD 0 0, watchdog := some 0, lastIssued := some (.shed, number),
          lastTaken := some { gen := s.cc.gen, cause := .shed, number := number } } ∧
        samePorts (s.offer (other e)
          { gen := s.cc.gen, body := .grant 2 (number.getD 0xFF) s.consistN (grants.take s.consistN) }) t)) ∧
    (s.cc.claim = none → exec (.supplyTrip tag []) s = .next (s.replied 0x0E tag [] .notLead []).hostKick) ∧
    (s.cc.claim = some e → completes (exec (.supplyTrip tag []) s) fun t =>
      t.ha.grants = List.replicate 32 0 ∧ t.ha.holdOff = some 0 ∧ t.ha.trips = trips ∧ t.supplyEnable = false ∧
      t.ha.lockout = (s.ha.lockout || decide (3 ≤ trips.length)) ∧ t.ha.rotation = s.ha.rotation ∧
      t.ha.capacity = s.ha.capacity ∧ t.ha.ramp = s.ha.ramp ∧ (s.hl.masked .supply = true → told t .supply) ∧
      t.hl.replies = s.hl.replies ++ [{ kind := 0x0E, tag, status := .ok, fields := [] }] ∧
      t.cc = s.cc ∧ t.se = s.se ∧ t.dcu = s.dcu ∧ sameSystem s t ∧
      (s.cc.node ≠ .operational → t.ha.held = s.ha.held ∧ t.ha.lastIssued = s.ha.lastIssued ∧ samePorts s t) ∧
      (s.cc.node = .operational → t.ha.held = 0 ∧ t.ha.watchdog = some 0 ∧
        t.ha.lastIssued = some (.trip, number)) ∧
      (s.cc.node = .operational → 2 ≤ s.consistN → samePorts (s.offer (other e)
        { gen := s.cc.gen, body := .grant 3 (number.getD 0xFF) s.consistN (List.replicate (min s.consistN 32) 0) }) t))

/-- Set Port (01 R17, R24; 09 R175; log entry 10: its three rows are one request): fields out of their ranges and a loop mode in the wrong
node state are refused; the maximum rate is staged, and a port that is in OPEN or stays in its state keeps its active maximum, which for a
port already in OPEN is the model's reading (log entry 41); a changed loop mode sends the port through OPEN; force realign sends a LINKED,
ALIGNING or FAULTED port to OPEN. -/
def Obligations.SetPortStagesLoopsOrRealigns : Prop :=
  ∀ (s : State) (tag n mode rate force : Nat) (p : PortId) (m : LoopMode) (c : Instr),
    takesSlot s →
    let payload := [n, mode, rate, force]
    c = .setPortMaximumRate tag payload ∨ c = .setPortLoopMode tag payload ∨ c = .setPortForceRealign tag payload →
    let staged := s.modCp p fun c => { c with stagedMax := rate }
    (n = 0 ∨ 2 < n ∨ 2 < mode ∨ 2 < rate ∨ 1 < force →
      exec c s = .next (s.replied 0x11 tag payload .range []).hostKick) ∧
    (portOfNumber n = some p → loopModeOfCode mode = some m → rate ≤ 2 → force ≤ 1 →
      (m ≠ .normal → s.cc.node = .operational ∨ s.cc.node = .provisional →
        exec c s = .next (s.replied 0x11 tag payload .state []).hostKick) ∧
      ((s.cp p).loopMode = m → m = .normal ∨ s.cc.node.allowsLoop = true →
        force = 0 ∨ (s.cp p).st = .open ∨ (s.cp p).st = .loop →
        exec c s = .next (staged.replied 0x11 tag payload .ok
          [portStateCode (s.cp p).st, mode, (s.cp p).activeMax % 256, rate]).hostKick) ∧
      ((s.cp p).loopMode = m → m = .normal ∨ s.cc.node.allowsLoop = true → force = 1 →
        (s.cp p).st = .linked ∨ (s.cp p).st = .aligning ∨ (s.cp p).st = .faulted →
        completes (exec c s) fun t =>
          (t.cp p).openCause = .realign ∧ (t.cp p).st = t.fromOpen p ∧ (t.cp p).activeMax = rate ∧
          (t.cp p).stagedMax = rate ∧ (t.cp p).loopMode = m ∧ (t.lr p).waitingFrames = 0 ∧ (t.lr p).tx = none ∧
          (t.nm p).status = .absent ∧ (s.hl.masked .port = true → told t .port) ∧ sameSystem s t ∧
          (t.cp (other p)).st = (s.cp (other p)).st) ∧
      ((s.cp p).loopMode ≠ m → m = .normal ∨ s.cc.node.allowsLoop = true → (s.cp p).st ≠ .open →
        completes (exec c s) fun t =>
          (t.cp p).openCause = .loop ∧ (t.cp p).st = t.fromOpen p ∧ (t.cp p).activeMax = rate ∧
          (t.cp p).stagedMax = rate ∧ (t.cp p).loopMode = m ∧ (t.lr p).waitingFrames = 0 ∧ (t.lr p).tx = none ∧
          (t.nm p).status = .absent ∧ (s.hl.masked .port = true → told t .port) ∧ sameSystem s t ∧
          (t.cp (other p)).st = (s.cp (other p)).st))

/-- Isolation (04 R76, R77; 01 R6; 03 R58): Enter Isolation ends a claim, clears the node's place, lowers THRU-HOLD and takes both ports
to OPEN with cause HOLD; Leave Isolation makes the node DETACHED and raises it again; the other cases reply only. That a port which then
aligns or enters LOCAL LOOP sends no PATTERN frame at that event is the model's choice (log entry 18). -/
def Obligations.IsolationOpensAndReleasesThePorts : Prop :=
  ∀ (s : State) (tag : Nat),
    takesSlot s →
    (s.cc.node = .isolated → exec (.enterIsolation tag []) s = .next (s.replied 0x14 tag [] .ok []).hostKick) ∧
    (s.cc.node ≠ .isolated → exec (.leaveIsolation tag []) s = .next (s.replied 0x15 tag [] .state []).hostKick) ∧
    (s.cc.node ≠ .isolated → completes (exec (.enterIsolation tag []) s) fun t =>
      t.cc.node = .isolated ∧ t.cc.claim = none ∧ t.cc.gen = 0 ∧ t.cc.position = none ∧ t.cc.orientation = none ∧
      t.cc.front = none ∧ t.cc.table = Table.empty ∧ t.cc.confirmTimer = none ∧ t.cc.silenceTimer = none ∧
      t.cc.coach = s.cc.coach ∧
      (s.cc.node = .operational ∨ s.cc.node = .provisional → t.cc.lastExit = .isolation) ∧
      (s.cc.claim.isSome = true → t.cc.leadCause = .isolation ∧ t.cc.walk = .idle) ∧ t.thruHold = false ∧
      leftOperational s t ∧ t.se.lastSeen = none ∧ t.se.lastSent = none ∧ t.dcu.lastDoor = none ∧
      t.ha.lastTaken = none ∧
      t.hl.replies = s.hl.replies ++ [{ kind := 0x14, tag, status := .ok, fields := [] }] ∧ sameSystem s t ∧
      ∀ p, (t.cp p).st = .open ∧ (t.lr p).waitingFrames = (if (s.cp p).st = .open then (s.lr p).waitingFrames else 0) ∧
        ((s.cp p).st ≠ .open → (t.cp p).openCause = .hold ∧ (t.nm p).status = .absent)) ∧
    (s.cc.node = .isolated → (∀ p, (s.cp p).st = .open ∧ (s.cp p).pairA.brk = false ∧ (s.cp p).pairB.brk = false) →
      completes (exec (.leaveIsolation tag []) s) fun t =>
        t.cc = { s.cc with node := .detached } ∧ t.thruHold = true ∧
        t.hl.replies = s.hl.replies ++ [{ kind := 0x15, tag, status := .ok, fields := [] }] ∧ sameSystem s t ∧
        t.se = s.se ∧ t.dcu = s.dcu ∧ t.ha = s.ha ∧
        ∀ p, t.lr p = s.lr p ∧ (t.cp p).st = (if (s.cp p).loopMode ≠ .normal then .loop
          else if (s.nm p).sense = true then .aligning else .open))

/-- The host receiver (09 R167, R169 to R171, R173, R174). A request of any kind whose frame stands in the assembler: with four slots held
it is refused BUSY, and with the refusal slot full it is dropped and counted; with a slot free a kind that names no request is UNKNOWN, a
payload of another length than its kind's is LENGTH. In HUNT, or with the receiver at rest, it does not arrive (log entry 8). Soft Reset is
accepted and waits for its reply. A sync byte opens a frame or is the next byte of one (log entry 9); each error drops the frame and
counts. -/
def Obligations.HostReceiverChecksAndCounts : Prop :=
  ∀ (s : State) (c : Instr) (r : Request) (tag : Nat),
    let dropped : HostLink := { s.hl with assembler := none, frameTimer := none }
    (∀ k n, requestBytes k = some n ↔ (k, n) ∈ [(0x01, 0), (0x02, 4), (0x03, 1), (0x04, 0), (0x05, 0), (0x06, 1), (0x07, 0),
      (0x08, 5), (0x09, 3), (0x0A, 0), (0x0B, 1), (0x0C, 1), (0x0D, 5), (0x0E, 0), (0x0F, 0), (0x10, 2), (0x11, 4), (0x12, 1),
      (0x13, 1), (0x14, 0), (0x15, 0), (0x16, 2), (0x17, 0)]) ∧
    (requestOf c = some r → s.hostListening = false ∨ s.hl.inFrame = false → exec c s = .next s.hostKick) ∧
    (requestOf c = some r → s.hostListening = true → s.hl.inFrame = true →
      (s.hl.slots.length < 4 →
        (requestBytes r.kind = none → exec c s = .next (s.replied r.kind r.tag r.payload .unknown []).hostKick) ∧
        (∀ n, requestBytes r.kind = some n → r.payload.length ≠ n →
          exec c s = .next (s.replied r.kind r.tag r.payload .length []).hostKick)) ∧
      (4 ≤ s.hl.slots.length →
        (s.hl.refusal = none → exec c s = .next (State.hostKick { s with
          hl := { dropped with refusal := some { kind := r.kind, tag := r.tag, status := .busy, fields := [] } } })) ∧
        (s.hl.refusal.isSome = true → exec c s = .next (State.hostKick { s with
          hl := { dropped with droppedReqs := min 65535 (s.hl.droppedReqs + 1) } })))) ∧
    (takesSlot s → ∀ kind payload, requestBytes kind = none → exec (.unknownRequest kind tag payload) s =
      .next (s.replied kind tag payload .unknown []).hostKick) ∧
    (takesSlot s → exec (.softReset tag []) s =
      .next (State.replied { s with hl := { s.hl with resetPending := true } } 0x17 tag [] .ok []).hostKick) ∧
    (s.hostListening = true →
      (s.hl.inFrame = false → exec .hostSyncByte s =
        .next (State.hostKick { s with hl := { s.hl with assembler := some [0xA5], frameTimer := some 0 } })) ∧
      (∀ taken, s.hl.assembler = some taken → exec .hostSyncByte s =
        .next (State.hostKick { s with hl := { s.hl with assembler := some (taken ++ [0xA5]) } })) ∧
      exec .hostCharacterFramingError s = .next (State.hostKick { s with hl := { dropped with
        charFraming := min 65535 (s.hl.charFraming + 1) } }) ∧
      (s.hl.inFrame = true →
        exec .hostFrameOverlength s = .next (State.hostKick { s with hl := { dropped with
          overlength := min 65535 (s.hl.overlength + 1) } }) ∧
        exec .hostFrameCrcError s = .next (State.hostKick { s with hl := { dropped with
          crcErrors := min 65535 (s.hl.crcErrors + 1) } })) ∧
      (s.hl.inFrame = false → exec .hostFrameOverlength s = .next s.hostKick ∧
        exec .hostFrameCrcError s = .next s.hostKick)) ∧
    (s.ticking = true → timerDue s.hl.frameTimer 20 = true → exec .frameTimerExpiry s = .next (State.hostKick { s with
      hl := { dropped with frameTimeouts := min 65535 (s.hl.frameTimeouts + 1) } }))

/-- The invariants hold right after reset. -/
def Obligations.InvariantsHoldAtReset : Prop :=
  State.reset.nodeInv ∧ State.reset.consistInv ∧ State.reset.heatInv ∧ State.reset.hostInv ∧ State.reset.queueInv

/-- Every step keeps three invariants, each by itself. The node's (04 R66, 05 section 5.1, 06 R107, 07 R124, 08 R148, R151): outside
OPERATIONAL nothing is released or granted, only an OPERATIONAL leader holds the leader's state, only a claim walks. The host link's
bookkeeping (09 R170, R172), and the sizes of the transmit queues with the ages of their heads (02 R37 to R40). -/
def Obligations.StepsKeepTheNodeHostAndQueueInvariants : Prop :=
  ∀ (s t : State), step s = .next t →
    (s.nodeInv → t.nodeInv) ∧ (s.hostInv → t.hostInv) ∧ (s.queueInv → t.queueInv)

/-- Every step keeps the consist invariant of a node whose claim alone walks (04 R61, R62, R70 to R74, 05 R79): ranges, place and table
belong together, and a table that stands is well-formed. -/
def Obligations.StepsKeepTheTableWellFormed : Prop :=
  ∀ (s t : State), s.nodeInv → s.consistInv → step s = .next t → t.consistInv

/-- Every step keeps the heating invariant (08 R145, R151, R155 to R162): no grant above its demand, the total within the capacity, no
grant in hold-off or lockout. -/
def Obligations.StepsKeepGrantsWithinDemandAndCapacity : Prop :=
  ∀ (s t : State), s.nodeInv → s.consistInv → s.heatInv → step s = .next t → t.heatInv

/-- A frame read from its own bytes is the frame (11 section 11.2), for every body but a PATTERN's whose fields fit their bytes, and so
is a sweep's list of elements whose records name positions 1 to 32 and whose fields fit theirs; a list with an element of type 11 does
not decode. A frame of any kind but PATTERN and BEAT is read as a body of its kind whose payload is the bytes that arrived, unnamed bits
among them, so that a relayed one leaves with the payload it arrived with (02 R30, FramesAreRelayedOrMisrouted; log entry 33). -/
def Obligations.FramesReadBackFromTheirBytes : Prop :=
  (∀ (f : Frame) (p : PortId) (q : PairId) (seq : Nat), f.body.cls.isSome = true → WellFormed (f.command p q seq) →
    parseBody f.body.kindCode f.body.direction f.body.payload = f.body) ∧
  (∀ l : List Element,
    (∀ x ∈ l, match x with
      | .full r => 1 ≤ r.position ∧ r.position ≤ 32 ∧ r.demand < 256
      | .nil => True
      | .nilRun k => k < 256) →
    decodeList (listBytes l) = some l ∧
      ∀ b rest, 192 ≤ b → b < 256 → decodeList (listBytes l ++ b :: rest) = none) ∧
  ∀ (kind direction : Nat) (pl : List Nat) (b : Body),
    directionOfKind kind = some direction → direction ≠ 2 → (∀ x ∈ pl, x < 256) → bodyOfPayload kind pl = some b →
    parseBody kind direction pl = b ∧ b.kindCode = kind ∧ b.direction = direction ∧ b.payload = pl
end

