-- ==== Sys2Proof/Laws/State.lean ====
section
/-! SUPPORT. What the basic updates of the state do to each field: one lemma per field per update, so that no later proof
unfolds an update. -/

namespace Sys2Proof.Machine

/-! ### Ports -/

@[simp] theorem other_other (p : PortId) : other (other p) = p := by cases p <;> rfl

@[simp] theorem other_ne (p : PortId) : other p ≠ p := by cases p <;> decide

@[simp] theorem ne_other (p : PortId) : p ≠ other p := by cases p <;> decide

theorem eq_other_of_ne {p x : PortId} (h : x ≠ p) : x = other p := by cases p <;> cases x <;> simp_all [other]

@[simp] theorem otherPair_otherPair (q : PairId) : otherPair (otherPair q) = q := by cases q <;> rfl

@[simp] theorem otherPair_ne (q : PairId) : otherPair q ≠ q := by cases q <;> decide

@[simp] theorem portOfNumber_portNumber (p : PortId) : portOfNumber (portNumber p) = some p := by cases p <;> rfl

@[simp] theorem State.setPort_sys (s : State) (p : PortId) (x : Port) : (s.setPort p x).sys = s.sys := by cases p <;> rfl

@[simp] theorem State.setPort_cc (s : State) (p : PortId) (x : Port) : (s.setPort p x).cc = s.cc := by cases p <;> rfl

@[simp] theorem State.setPort_se (s : State) (p : PortId) (x : Port) : (s.setPort p x).se = s.se := by cases p <;> rfl

@[simp] theorem State.setPort_dcu (s : State) (p : PortId) (x : Port) : (s.setPort p x).dcu = s.dcu := by cases p <;> rfl

@[simp] theorem State.setPort_ha (s : State) (p : PortId) (x : Port) : (s.setPort p x).ha = s.ha := by cases p <;> rfl

@[simp] theorem State.setPort_hl (s : State) (p : PortId) (x : Port) : (s.setPort p x).hl = s.hl := by cases p <;> rfl

@[simp] theorem State.setPort_pending (s : State) (p : PortId) (x : Port) : (s.setPort p x).pending = s.pending := by cases p <;> rfl

@[simp] theorem State.setPort_port (s : State) (p : PortId) (x : Port) : (s.setPort p x).port p = x := by cases p <;> rfl

@[simp] theorem State.setPort_port_other (s : State) (p : PortId) (x : Port) :
    (s.setPort p x).port (other p) = s.port (other p) := by cases p <;> rfl

@[simp] theorem State.setPort_port_self (s : State) (p : PortId) : s.setPort p (s.port p) = s := by cases p <;> rfl

@[simp] theorem State.modCp_sys (s : State) (p : PortId) (f : Coupler → Coupler) : (s.modCp p f).sys = s.sys := by
  cases p <;> rfl

@[simp] theorem State.modCp_cc (s : State) (p : PortId) (f : Coupler → Coupler) : (s.modCp p f).cc = s.cc := by
  cases p <;> rfl

@[simp] theorem State.modCp_se (s : State) (p : PortId) (f : Coupler → Coupler) : (s.modCp p f).se = s.se := by
  cases p <;> rfl

@[simp] theorem State.modCp_dcu (s : State) (p : PortId) (f : Coupler → Coupler) : (s.modCp p f).dcu = s.dcu := by
  cases p <;> rfl

@[simp] theorem State.modCp_ha (s : State) (p : PortId) (f : Coupler → Coupler) : (s.modCp p f).ha = s.ha := by
  cases p <;> rfl

@[simp] theorem State.modCp_hl (s : State) (p : PortId) (f : Coupler → Coupler) : (s.modCp p f).hl = s.hl := by
  cases p <;> rfl

@[simp] theorem State.modCp_pending (s : State) (p : PortId) (f : Coupler → Coupler) : (s.modCp p f).pending = s.pending := by
  cases p <;> rfl

@[simp] theorem State.modCp_port_other (s : State) (p : PortId) (f : Coupler → Coupler) :
    (s.modCp p f).port (other p) = s.port (other p) := by cases p <;> rfl

@[simp] theorem State.modCp_cp (s : State) (p : PortId) (f : Coupler → Coupler) : (s.modCp p f).cp p = f (s.cp p) := by
  cases p <;> rfl

@[simp] theorem State.modCp_cp_other (s : State) (p : PortId) (f : Coupler → Coupler) :
    (s.modCp p f).cp (other p) = s.cp (other p) := by cases p <;> rfl

@[simp] theorem State.modCp_lr (s : State) (p : PortId) (f : Coupler → Coupler) : (s.modCp p f).lr p = s.lr p := by
  cases p <;> rfl

@[simp] theorem State.modCp_lr_other (s : State) (p : PortId) (f : Coupler → Coupler) :
    (s.modCp p f).lr (other p) = s.lr (other p) := by cases p <;> rfl

@[simp] theorem State.modCp_nm (s : State) (p : PortId) (f : Coupler → Coupler) : (s.modCp p f).nm p = s.nm p := by
  cases p <;> rfl

@[simp] theorem State.modCp_nm_other (s : State) (p : PortId) (f : Coupler → Coupler) :
    (s.modCp p f).nm (other p) = s.nm (other p) := by cases p <;> rfl

@[simp] theorem State.modLr_sys (s : State) (p : PortId) (f : Relay → Relay) : (s.modLr p f).sys = s.sys := by
  cases p <;> rfl

@[simp] theorem State.modLr_cc (s : State) (p : PortId) (f : Relay → Relay) : (s.modLr p f).cc = s.cc := by
  cases p <;> rfl

@[simp] theorem State.modLr_se (s : State) (p : PortId) (f : Relay → Relay) : (s.modLr p f).se = s.se := by
  cases p <;> rfl

@[simp] theorem State.modLr_dcu (s : State) (p : PortId) (f : Relay → Relay) : (s.modLr p f).dcu = s.dcu := by
  cases p <;> rfl

@[simp] theorem State.modLr_ha (s : State) (p : PortId) (f : Relay → Relay) : (s.modLr p f).ha = s.ha := by
  cases p <;> rfl

@[simp] theorem State.modLr_hl (s : State) (p : PortId) (f : Relay → Relay) : (s.modLr p f).hl = s.hl := by
  cases p <;> rfl

@[simp] theorem State.modLr_pending (s : State) (p : PortId) (f : Relay → Relay) : (s.modLr p f).pending = s.pending := by
  cases p <;> rfl

@[simp] theorem State.modLr_port_other (s : State) (p : PortId) (f : Relay → Relay) :
    (s.modLr p f).port (other p) = s.port (other p) := by cases p <;> rfl

@[simp] theorem State.modLr_cp (s : State) (p : PortId) (f : Relay → Relay) : (s.modLr p f).cp p = s.cp p := by
  cases p <;> rfl

@[simp] theorem State.modLr_cp_other (s : State) (p : PortId) (f : Relay → Relay) :
    (s.modLr p f).cp (other p) = s.cp (other p) := by cases p <;> rfl

@[simp] theorem State.modLr_lr (s : State) (p : PortId) (f : Relay → Relay) : (s.modLr p f).lr p = f (s.lr p) := by
  cases p <;> rfl

@[simp] theorem State.modLr_lr_other (s : State) (p : PortId) (f : Relay → Relay) :
    (s.modLr p f).lr (other p) = s.lr (other p) := by cases p <;> rfl

@[simp] theorem State.modLr_nm (s : State) (p : PortId) (f : Relay → Relay) : (s.modLr p f).nm p = s.nm p := by
  cases p <;> rfl

@[simp] theorem State.modLr_nm_other (s : State) (p : PortId) (f : Relay → Relay) :
    (s.modLr p f).nm (other p) = s.nm (other p) := by cases p <;> rfl

@[simp] theorem State.modNm_sys (s : State) (p : PortId) (f : Nbr → Nbr) : (s.modNm p f).sys = s.sys := by
  cases p <;> rfl

@[simp] theorem State.modNm_cc (s : State) (p : PortId) (f : Nbr → Nbr) : (s.modNm p f).cc = s.cc := by
  cases p <;> rfl

@[simp] theorem State.modNm_se (s : State) (p : PortId) (f : Nbr → Nbr) : (s.modNm p f).se = s.se := by
  cases p <;> rfl

@[simp] theorem State.modNm_dcu (s : State) (p : PortId) (f : Nbr → Nbr) : (s.modNm p f).dcu = s.dcu := by
  cases p <;> rfl

@[simp] theorem State.modNm_ha (s : State) (p : PortId) (f : Nbr → Nbr) : (s.modNm p f).ha = s.ha := by
  cases p <;> rfl

@[simp] theorem State.modNm_hl (s : State) (p : PortId) (f : Nbr → Nbr) : (s.modNm p f).hl = s.hl := by
  cases p <;> rfl

@[simp] theorem State.modNm_pending (s : State) (p : PortId) (f : Nbr → Nbr) : (s.modNm p f).pending = s.pending := by
  cases p <;> rfl

@[simp] theorem State.modNm_port_other (s : State) (p : PortId) (f : Nbr → Nbr) :
    (s.modNm p f).port (other p) = s.port (other p) := by cases p <;> rfl

@[simp] theorem State.modNm_cp (s : State) (p : PortId) (f : Nbr → Nbr) : (s.modNm p f).cp p = s.cp p := by
  cases p <;> rfl

@[simp] theorem State.modNm_cp_other (s : State) (p : PortId) (f : Nbr → Nbr) :
    (s.modNm p f).cp (other p) = s.cp (other p) := by cases p <;> rfl

@[simp] theorem State.modNm_lr (s : State) (p : PortId) (f : Nbr → Nbr) : (s.modNm p f).lr p = s.lr p := by
  cases p <;> rfl

@[simp] theorem State.modNm_lr_other (s : State) (p : PortId) (f : Nbr → Nbr) :
    (s.modNm p f).lr (other p) = s.lr (other p) := by cases p <;> rfl

@[simp] theorem State.modNm_nm (s : State) (p : PortId) (f : Nbr → Nbr) : (s.modNm p f).nm p = f (s.nm p) := by
  cases p <;> rfl

@[simp] theorem State.modNm_nm_other (s : State) (p : PortId) (f : Nbr → Nbr) :
    (s.modNm p f).nm (other p) = s.nm (other p) := by cases p <;> rfl

/-! ### Pairs -/

@[simp] theorem Coupler.modPair_pair (c : Coupler) (q : PairId) (f : Pair → Pair) : (c.modPair q f).pair q = f (c.pair q) := by
  cases q <;> rfl

@[simp] theorem Coupler.modPair_pair_other (c : Coupler) (q : PairId) (f : Pair → Pair) :
    (c.modPair q f).pair (otherPair q) = c.pair (otherPair q) := by cases q <;> rfl

@[simp] theorem Coupler.bothPairs_pair (c : Coupler) (q : PairId) (f : Pair → Pair) : (c.bothPairs f).pair q = f (c.pair q) := by
  cases q <;> rfl

@[simp] theorem Coupler.modPair_st (c : Coupler) (q : PairId) (f : Pair → Pair) : (c.modPair q f).st = c.st := by
  cases q <;> rfl

@[simp] theorem Coupler.modPair_rate (c : Coupler) (q : PairId) (f : Pair → Pair) : (c.modPair q f).rate = c.rate := by
  cases q <;> rfl

@[simp] theorem Coupler.modPair_stagedMax (c : Coupler) (q : PairId) (f : Pair → Pair) : (c.modPair q f).stagedMax = c.stagedMax := by
  cases q <;> rfl

@[simp] theorem Coupler.modPair_activeMax (c : Coupler) (q : PairId) (f : Pair → Pair) : (c.modPair q f).activeMax = c.activeMax := by
  cases q <;> rfl

@[simp] theorem Coupler.modPair_rateCapped (c : Coupler) (q : PairId) (f : Pair → Pair) : (c.modPair q f).rateCapped = c.rateCapped := by
  cases q <;> rfl

@[simp] theorem Coupler.modPair_loopMode (c : Coupler) (q : PairId) (f : Pair → Pair) : (c.modPair q f).loopMode = c.loopMode := by
  cases q <;> rfl

@[simp] theorem Coupler.modPair_step (c : Coupler) (q : PairId) (f : Pair → Pair) : (c.modPair q f).step = c.step := by
  cases q <;> rfl

@[simp] theorem Coupler.modPair_failCount (c : Coupler) (q : PairId) (f : Pair → Pair) : (c.modPair q f).failCount = c.failCount := by
  cases q <;> rfl

@[simp] theorem Coupler.modPair_ready (c : Coupler) (q : PairId) (f : Pair → Pair) : (c.modPair q f).ready = c.ready := by
  cases q <;> rfl

@[simp] theorem Coupler.modPair_rateSettled (c : Coupler) (q : PairId) (f : Pair → Pair) : (c.modPair q f).rateSettled = c.rateSettled := by
  cases q <;> rfl

@[simp] theorem Coupler.modPair_txSeq (c : Coupler) (q : PairId) (f : Pair → Pair) : (c.modPair q f).txSeq = c.txSeq := by
  cases q <;> rfl

@[simp] theorem Coupler.modPair_lastDelivered (c : Coupler) (q : PairId) (f : Pair → Pair) : (c.modPair q f).lastDelivered = c.lastDelivered := by
  cases q <;> rfl

@[simp] theorem Coupler.modPair_held (c : Coupler) (q : PairId) (f : Pair → Pair) : (c.modPair q f).held = c.held := by
  cases q <;> rfl

@[simp] theorem Coupler.modPair_heldTimer (c : Coupler) (q : PairId) (f : Pair → Pair) : (c.modPair q f).heldTimer = c.heldTimer := by
  cases q <;> rfl

@[simp] theorem Coupler.modPair_openCause (c : Coupler) (q : PairId) (f : Pair → Pair) : (c.modPair q f).openCause = c.openCause := by
  cases q <;> rfl

@[simp] theorem Coupler.modPair_lostFrames (c : Coupler) (q : PairId) (f : Pair → Pair) : (c.modPair q f).lostFrames = c.lostFrames := by
  cases q <;> rfl

@[simp] theorem Coupler.modPair_aligningDiscards (c : Coupler) (q : PairId) (f : Pair → Pair) : (c.modPair q f).aligningDiscards = c.aligningDiscards := by
  cases q <;> rfl

@[simp] theorem Coupler.modPair_attemptTimer (c : Coupler) (q : PairId) (f : Pair → Pair) : (c.modPair q f).attemptTimer = c.attemptTimer := by
  cases q <;> rfl

@[simp] theorem Coupler.modPair_retryTimer (c : Coupler) (q : PairId) (f : Pair → Pair) : (c.modPair q f).retryTimer = c.retryTimer := by
  cases q <;> rfl

@[simp] theorem Coupler.modPair_patternTimer (c : Coupler) (q : PairId) (f : Pair → Pair) : (c.modPair q f).patternTimer = c.patternTimer := by
  cases q <;> rfl

@[simp] theorem Coupler.modPair_patternDue (c : Coupler) (q : PairId) (f : Pair → Pair) : (c.modPair q f).patternDue = c.patternDue := by
  cases q <;> rfl

@[simp] theorem Coupler.modPair_answerGuard (c : Coupler) (q : PairId) (f : Pair → Pair) : (c.modPair q f).answerGuard = c.answerGuard := by
  cases q <;> rfl

/-! ### Blocks -/

@[simp] theorem State.modCc_sys (s : State) (f : Consist → Consist) : (s.modCc f).sys = s.sys := rfl

@[simp] theorem State.modCc_port1 (s : State) (f : Consist → Consist) : (s.modCc f).port1 = s.port1 := rfl

@[simp] theorem State.modCc_port2 (s : State) (f : Consist → Consist) : (s.modCc f).port2 = s.port2 := rfl

@[simp] theorem State.modCc_cc (s : State) (f : Consist → Consist) : (s.modCc f).cc = f s.cc := rfl

@[simp] theorem State.modCc_se (s : State) (f : Consist → Consist) : (s.modCc f).se = s.se := rfl

@[simp] theorem State.modCc_dcu (s : State) (f : Consist → Consist) : (s.modCc f).dcu = s.dcu := rfl

@[simp] theorem State.modCc_ha (s : State) (f : Consist → Consist) : (s.modCc f).ha = s.ha := rfl

@[simp] theorem State.modCc_hl (s : State) (f : Consist → Consist) : (s.modCc f).hl = s.hl := rfl

@[simp] theorem State.modCc_pending (s : State) (f : Consist → Consist) : (s.modCc f).pending = s.pending := rfl

@[simp] theorem State.modCc_portAt (s : State) (f : Consist → Consist) (p : PortId) : (s.modCc f).port p = s.port p := by
  cases p <;> rfl

@[simp] theorem State.modCc_cpAt (s : State) (f : Consist → Consist) (p : PortId) : (s.modCc f).cp p = s.cp p := by
  cases p <;> rfl

@[simp] theorem State.modCc_lrAt (s : State) (f : Consist → Consist) (p : PortId) : (s.modCc f).lr p = s.lr p := by
  cases p <;> rfl

@[simp] theorem State.modCc_nmAt (s : State) (f : Consist → Consist) (p : PortId) : (s.modCc f).nm p = s.nm p := by
  cases p <;> rfl

@[simp] theorem State.modSe_sys (s : State) (f : SweepState → SweepState) : (s.modSe f).sys = s.sys := rfl

@[simp] theorem State.modSe_port1 (s : State) (f : SweepState → SweepState) : (s.modSe f).port1 = s.port1 := rfl

@[simp] theorem State.modSe_port2 (s : State) (f : SweepState → SweepState) : (s.modSe f).port2 = s.port2 := rfl

@[simp] theorem State.modSe_cc (s : State) (f : SweepState → SweepState) : (s.modSe f).cc = s.cc := rfl

@[simp] theorem State.modSe_se (s : State) (f : SweepState → SweepState) : (s.modSe f).se = f s.se := rfl

@[simp] theorem State.modSe_dcu (s : State) (f : SweepState → SweepState) : (s.modSe f).dcu = s.dcu := rfl

@[simp] theorem State.modSe_ha (s : State) (f : SweepState → SweepState) : (s.modSe f).ha = s.ha := rfl

@[simp] theorem State.modSe_hl (s : State) (f : SweepState → SweepState) : (s.modSe f).hl = s.hl := rfl

@[simp] theorem State.modSe_pending (s : State) (f : SweepState → SweepState) : (s.modSe f).pending = s.pending := rfl

@[simp] theorem State.modSe_portAt (s : State) (f : SweepState → SweepState) (p : PortId) : (s.modSe f).port p = s.port p := by
  cases p <;> rfl

@[simp] theorem State.modSe_cpAt (s : State) (f : SweepState → SweepState) (p : PortId) : (s.modSe f).cp p = s.cp p := by
  cases p <;> rfl

@[simp] theorem State.modSe_lrAt (s : State) (f : SweepState → SweepState) (p : PortId) : (s.modSe f).lr p = s.lr p := by
  cases p <;> rfl

@[simp] theorem State.modSe_nmAt (s : State) (f : SweepState → SweepState) (p : PortId) : (s.modSe f).nm p = s.nm p := by
  cases p <;> rfl

@[simp] theorem State.modDcu_sys (s : State) (f : Doors → Doors) : (s.modDcu f).sys = s.sys := rfl

@[simp] theorem State.modDcu_port1 (s : State) (f : Doors → Doors) : (s.modDcu f).port1 = s.port1 := rfl

@[simp] theorem State.modDcu_port2 (s : State) (f : Doors → Doors) : (s.modDcu f).port2 = s.port2 := rfl

@[simp] theorem State.modDcu_cc (s : State) (f : Doors → Doors) : (s.modDcu f).cc = s.cc := rfl

@[simp] theorem State.modDcu_se (s : State) (f : Doors → Doors) : (s.modDcu f).se = s.se := rfl

@[simp] theorem State.modDcu_dcu (s : State) (f : Doors → Doors) : (s.modDcu f).dcu = f s.dcu := rfl

@[simp] theorem State.modDcu_ha (s : State) (f : Doors → Doors) : (s.modDcu f).ha = s.ha := rfl

@[simp] theorem State.modDcu_hl (s : State) (f : Doors → Doors) : (s.modDcu f).hl = s.hl := rfl

@[simp] theorem State.modDcu_pending (s : State) (f : Doors → Doors) : (s.modDcu f).pending = s.pending := rfl

@[simp] theorem State.modDcu_portAt (s : State) (f : Doors → Doors) (p : PortId) : (s.modDcu f).port p = s.port p := by
  cases p <;> rfl

@[simp] theorem State.modDcu_cpAt (s : State) (f : Doors → Doors) (p : PortId) : (s.modDcu f).cp p = s.cp p := by
  cases p <;> rfl

@[simp] theorem State.modDcu_lrAt (s : State) (f : Doors → Doors) (p : PortId) : (s.modDcu f).lr p = s.lr p := by
  cases p <;> rfl

@[simp] theorem State.modDcu_nmAt (s : State) (f : Doors → Doors) (p : PortId) : (s.modDcu f).nm p = s.nm p := by
  cases p <;> rfl

@[simp] theorem State.modHa_sys (s : State) (f : Heating → Heating) : (s.modHa f).sys = s.sys := rfl

@[simp] theorem State.modHa_port1 (s : State) (f : Heating → Heating) : (s.modHa f).port1 = s.port1 := rfl

@[simp] theorem State.modHa_port2 (s : State) (f : Heating → Heating) : (s.modHa f).port2 = s.port2 := rfl

@[simp] theorem State.modHa_cc (s : State) (f : Heating → Heating) : (s.modHa f).cc = s.cc := rfl

@[simp] theorem State.modHa_se (s : State) (f : Heating → Heating) : (s.modHa f).se = s.se := rfl

@[simp] theorem State.modHa_dcu (s : State) (f : Heating → Heating) : (s.modHa f).dcu = s.dcu := rfl

@[simp] theorem State.modHa_ha (s : State) (f : Heating → Heating) : (s.modHa f).ha = f s.ha := rfl

@[simp] theorem State.modHa_hl (s : State) (f : Heating → Heating) : (s.modHa f).hl = s.hl := rfl

@[simp] theorem State.modHa_pending (s : State) (f : Heating → Heating) : (s.modHa f).pending = s.pending := rfl

@[simp] theorem State.modHa_portAt (s : State) (f : Heating → Heating) (p : PortId) : (s.modHa f).port p = s.port p := by
  cases p <;> rfl

@[simp] theorem State.modHa_cpAt (s : State) (f : Heating → Heating) (p : PortId) : (s.modHa f).cp p = s.cp p := by
  cases p <;> rfl

@[simp] theorem State.modHa_lrAt (s : State) (f : Heating → Heating) (p : PortId) : (s.modHa f).lr p = s.lr p := by
  cases p <;> rfl

@[simp] theorem State.modHa_nmAt (s : State) (f : Heating → Heating) (p : PortId) : (s.modHa f).nm p = s.nm p := by
  cases p <;> rfl

@[simp] theorem State.modHl_sys (s : State) (f : HostLink → HostLink) : (s.modHl f).sys = s.sys := rfl

@[simp] theorem State.modHl_port1 (s : State) (f : HostLink → HostLink) : (s.modHl f).port1 = s.port1 := rfl

@[simp] theorem State.modHl_port2 (s : State) (f : HostLink → HostLink) : (s.modHl f).port2 = s.port2 := rfl

@[simp] theorem State.modHl_cc (s : State) (f : HostLink → HostLink) : (s.modHl f).cc = s.cc := rfl

@[simp] theorem State.modHl_se (s : State) (f : HostLink → HostLink) : (s.modHl f).se = s.se := rfl

@[simp] theorem State.modHl_dcu (s : State) (f : HostLink → HostLink) : (s.modHl f).dcu = s.dcu := rfl

@[simp] theorem State.modHl_ha (s : State) (f : HostLink → HostLink) : (s.modHl f).ha = s.ha := rfl

@[simp] theorem State.modHl_hl (s : State) (f : HostLink → HostLink) : (s.modHl f).hl = f s.hl := rfl

@[simp] theorem State.modHl_pending (s : State) (f : HostLink → HostLink) : (s.modHl f).pending = s.pending := rfl

@[simp] theorem State.modHl_portAt (s : State) (f : HostLink → HostLink) (p : PortId) : (s.modHl f).port p = s.port p := by
  cases p <;> rfl

@[simp] theorem State.modHl_cpAt (s : State) (f : HostLink → HostLink) (p : PortId) : (s.modHl f).cp p = s.cp p := by
  cases p <;> rfl

@[simp] theorem State.modHl_lrAt (s : State) (f : HostLink → HostLink) (p : PortId) : (s.modHl f).lr p = s.lr p := by
  cases p <;> rfl

@[simp] theorem State.modHl_nmAt (s : State) (f : HostLink → HostLink) (p : PortId) : (s.modHl f).nm p = s.nm p := by
  cases p <;> rfl

/-! ### Notices -/

@[simp] theorem State.raise_sys (s : State) (k : Notice) : (s.raise k).sys = s.sys := rfl

@[simp] theorem State.raise_port1 (s : State) (k : Notice) : (s.raise k).port1 = s.port1 := rfl

@[simp] theorem State.raise_port2 (s : State) (k : Notice) : (s.raise k).port2 = s.port2 := rfl

@[simp] theorem State.raise_cc (s : State) (k : Notice) : (s.raise k).cc = s.cc := rfl

@[simp] theorem State.raise_se (s : State) (k : Notice) : (s.raise k).se = s.se := rfl

@[simp] theorem State.raise_dcu (s : State) (k : Notice) : (s.raise k).dcu = s.dcu := rfl

@[simp] theorem State.raise_ha (s : State) (k : Notice) : (s.raise k).ha = s.ha := rfl

@[simp] theorem State.raise_hl (s : State) (k : Notice) : (s.raise k).hl = s.hl.raise k := rfl

@[simp] theorem State.raise_pending (s : State) (k : Notice) : (s.raise k).pending = s.pending := rfl

@[simp] theorem State.raise_portAt (s : State) (k : Notice) (p : PortId) : (s.raise k).port p = s.port p := by cases p <;> rfl

@[simp] theorem State.raise_cpAt (s : State) (k : Notice) (p : PortId) : (s.raise k).cp p = s.cp p := by cases p <;> rfl

@[simp] theorem State.raise_lrAt (s : State) (k : Notice) (p : PortId) : (s.raise k).lr p = s.lr p := by cases p <;> rfl

@[simp] theorem State.raise_nmAt (s : State) (k : Notice) (p : PortId) : (s.raise k).nm p = s.nm p := by cases p <;> rfl

@[simp] theorem State.raiseIf_sys (s : State) (c : Bool) (k : Notice) : (s.raiseIf c k).sys = s.sys := by cases c <;> rfl

@[simp] theorem State.raiseIf_port1 (s : State) (c : Bool) (k : Notice) : (s.raiseIf c k).port1 = s.port1 := by cases c <;> rfl

@[simp] theorem State.raiseIf_port2 (s : State) (c : Bool) (k : Notice) : (s.raiseIf c k).port2 = s.port2 := by cases c <;> rfl

@[simp] theorem State.raiseIf_cc (s : State) (c : Bool) (k : Notice) : (s.raiseIf c k).cc = s.cc := by cases c <;> rfl

@[simp] theorem State.raiseIf_se (s : State) (c : Bool) (k : Notice) : (s.raiseIf c k).se = s.se := by cases c <;> rfl

@[simp] theorem State.raiseIf_dcu (s : State) (c : Bool) (k : Notice) : (s.raiseIf c k).dcu = s.dcu := by cases c <;> rfl

@[simp] theorem State.raiseIf_ha (s : State) (c : Bool) (k : Notice) : (s.raiseIf c k).ha = s.ha := by cases c <;> rfl

@[simp] theorem State.raiseIf_hl (s : State) (c : Bool) (k : Notice) :
    (s.raiseIf c k).hl = if c then s.hl.raise k else s.hl := by cases c <;> rfl

@[simp] theorem State.raiseIf_pending (s : State) (c : Bool) (k : Notice) : (s.raiseIf c k).pending = s.pending := by cases c <;> rfl

@[simp] theorem State.raiseIf_portAt (s : State) (c : Bool) (k : Notice) (p : PortId) : (s.raiseIf c k).port p = s.port p := by
  cases c <;> cases p <;> rfl

@[simp] theorem State.raiseIf_cpAt (s : State) (c : Bool) (k : Notice) (p : PortId) : (s.raiseIf c k).cp p = s.cp p := by
  cases c <;> cases p <;> rfl

@[simp] theorem State.raiseIf_lrAt (s : State) (c : Bool) (k : Notice) (p : PortId) : (s.raiseIf c k).lr p = s.lr p := by
  cases c <;> cases p <;> rfl

@[simp] theorem State.raiseIf_nmAt (s : State) (c : Bool) (k : Notice) (p : PortId) : (s.raiseIf c k).nm p = s.nm p := by
  cases c <;> cases p <;> rfl

@[simp] theorem HostLink.raise_rateHigh (h : HostLink) (k : Notice) : (h.raise k).rateHigh = h.rateHigh := rfl

@[simp] theorem HostLink.raise_assembler (h : HostLink) (k : Notice) : (h.raise k).assembler = h.assembler := rfl

@[simp] theorem HostLink.raise_inFrame (h : HostLink) (k : Notice) : (h.raise k).inFrame = h.inFrame := rfl

@[simp] theorem HostLink.raise_frameTimer (h : HostLink) (k : Notice) : (h.raise k).frameTimer = h.frameTimer := rfl

@[simp] theorem HostLink.raise_slots (h : HostLink) (k : Notice) : (h.raise k).slots = h.slots := rfl

@[simp] theorem HostLink.raise_replies (h : HostLink) (k : Notice) : (h.raise k).replies = h.replies := rfl

@[simp] theorem HostLink.raise_refusal (h : HostLink) (k : Notice) : (h.raise k).refusal = h.refusal := rfl

@[simp] theorem HostLink.raise_tx (h : HostLink) (k : Notice) : (h.raise k).tx = h.tx := rfl

@[simp] theorem HostLink.raise_mask (h : HostLink) (k : Notice) : (h.raise k).mask = h.mask := rfl

@[simp] theorem HostLink.raise_resetPending (h : HostLink) (k : Notice) : (h.raise k).resetPending = h.resetPending := rfl

@[simp] theorem HostLink.raise_txHold (h : HostLink) (k : Notice) : (h.raise k).txHold = h.txHold := rfl

@[simp] theorem HostLink.raise_frameTimeouts (h : HostLink) (k : Notice) : (h.raise k).frameTimeouts = h.frameTimeouts := rfl

@[simp] theorem HostLink.raise_crcErrors (h : HostLink) (k : Notice) : (h.raise k).crcErrors = h.crcErrors := rfl

@[simp] theorem HostLink.raise_charFraming (h : HostLink) (k : Notice) : (h.raise k).charFraming = h.charFraming := rfl

@[simp] theorem HostLink.raise_overlength (h : HostLink) (k : Notice) : (h.raise k).overlength = h.overlength := rfl

@[simp] theorem HostLink.raise_droppedReqs (h : HostLink) (k : Notice) : (h.raise k).droppedReqs = h.droppedReqs := rfl

/-! ### Timers (10 R180) -/

/-- A timer is due when it runs and has counted its period. -/
theorem timerDue_iff (t : Timer) (n : Nat) : timerDue t n = true ↔ ∃ e, t = some e ∧ n ≤ e := by
  cases t <;> simp [timerDue]

/-- A timer expires when the Timebase ticks and it is due. -/
theorem State.expires_iff (s : State) (t : Timer) (n : Nat) :
    s.expires t n = true ↔ s.ticking = true ∧ timerDue t n = true := by simp [State.expires]

@[simp] theorem timerDue_none (n : Nat) : timerDue none n = false := rfl

@[simp] theorem timerDue_some (e n : Nat) : timerDue (some e) n = decide (n ≤ e) := rfl

end Sys2Proof.Machine
end

