-- ==== Sys2Proof/Laws/Line.lean ====
section
/-! SUPPORT. What the Line Relay's operations can do (02 R36 to R43): the cases of the transmitter and of an offered frame,
what they leave unchanged, and the sizes of the queues. -/

namespace Sys2Proof.Machine

/-! ### Queues -/

@[simp] theorem Relay.setQueue_queue (r : Relay) (c : Cls) (q : ClassQueue) : (r.setQueue c q).queue c = q := by
  cases c <;> rfl

theorem Relay.setQueue_queue_ne (r : Relay) {c c' : Cls} (q : ClassQueue) (h : c' ≠ c) :
    (r.setQueue c q).queue c' = r.queue c' := by
  cases c <;> cases c' <;> first | rfl | exact absurd rfl h

@[simp] theorem Relay.setQueue_slot (r : Relay) (c : Cls) (q : ClassQueue) : (r.setQueue c q).slot = r.slot := by
  cases c <;> rfl

@[simp] theorem Relay.setQueue_tx (r : Relay) (c : Cls) (q : ClassQueue) : (r.setQueue c q).tx = r.tx := by
  cases c <;> rfl

@[simp] theorem Relay.setQueue_overrun (r : Relay) (c : Cls) (q : ClassQueue) : (r.setQueue c q).overrun = r.overrun := by
  cases c <;> rfl

@[simp] theorem Relay.setQueue_misroute (r : Relay) (c : Cls) (q : ClassQueue) : (r.setQueue c q).misroute = r.misroute := by
  cases c <;> rfl

@[simp] theorem Relay.setQueue_malformed (r : Relay) (c : Cls) (q : ClassQueue) : (r.setQueue c q).malformed = r.malformed := by
  cases c <;> rfl

@[simp] theorem Relay.setQueue_dropped (r : Relay) (c : Cls) (q : ClassQueue) : (r.setQueue c q).dropped = r.dropped := by
  cases c <;> rfl

@[simp] theorem Relay.setQueue_stale (r : Relay) (c : Cls) (q : ClassQueue) : (r.setQueue c q).stale = r.stale := by
  cases c <;> rfl

@[simp] theorem ClassQueue.age_frames (q : ClassQueue) : q.age.frames = q.frames := rfl
@[simp] theorem ClassQueue.age_waited (q : ClassQueue) : q.age.waited = q.waited := rfl
@[simp] theorem ClassQueue.age_aged (q : ClassQueue) : q.age.aged = q.aged + 1 := rfl

@[simp] theorem ClassQueue.hold_frames (q : ClassQueue) (l : List Frame) : (q.hold l).frames = l := by
  unfold ClassQueue.hold; split <;> rfl

/-- A queue that takes new contents keeps the age of its head, or starts a new head at 0 (02 R37, R38, R40). -/
theorem ClassQueue.hold_cases (q : ClassQueue) (l : List Frame) :
    (q.frames = [] ∧ q.hold l = { frames := l, waited := 0, aged := 0 }) ∨
      (q.frames ≠ [] ∧ q.hold l = { q with frames := l }) := by
  unfold ClassQueue.hold
  split
  · exact .inl ⟨‹_›, rfl⟩
  · exact .inr ⟨‹_›, rfl⟩

/-- When a head is due to age: its port is LINKED, its waiting time has reached a multiple of 5 ms that its level does not show, and
that level is above 0 (02 R40). -/
theorem State.headAges_iff (s : State) (p : PortId) (c : Cls) :
    s.headAges p c = true ↔ (s.cp p).st = .linked ∧ ((s.lr p).queue c).frames ≠ [] ∧
      5 * (((s.lr p).queue c).aged + 1) ≤ ((s.lr p).queue c).waited ∧ 0 < headLevel c ((s.lr p).queue c).aged := by
  have h : ((s.lr p).queue c).aged < ((s.lr p).queue c).agings c ↔
      5 * (((s.lr p).queue c).aged + 1) ≤ ((s.lr p).queue c).waited ∧ 0 < headLevel c ((s.lr p).queue c).aged := by
    unfold ClassQueue.agings headLevel; omega
  simp [State.headAges, ClassQueue.agingDue, h]

/-- Handing the head of a queue over: what comes out, and what the relay then holds (02 R39, R41). -/
theorem Relay.takeHead_eq_some {r r' : Relay} {c : Cls} {f : Frame} (h : r.takeHead c = some (f, r')) :
    ∃ rest, (r.queue c).frames = f :: rest ∧
      (r'.queue c) = { frames := (joinFromSlot c rest r.slot).1, waited := 0, aged := 0 } ∧
      r'.slot = (joinFromSlot c rest r.slot).2 ∧ (∀ c', c' ≠ c → r'.queue c' = r.queue c') ∧
      r'.tx = r.tx ∧ r'.overrun = r.overrun ∧ r'.misroute = r.misroute ∧ r'.malformed = r.malformed ∧
      r'.dropped = r.dropped ∧ r'.stale = r.stale := by
  unfold Relay.takeHead at h
  cases hq : (r.queue c).frames with
  | nil => simp [hq] at h
  | cons g rest =>
    simp only [hq, Option.some.injEq, Prod.mk.injEq] at h
    obtain ⟨rfl, rfl⟩ := h
    refine ⟨rest, rfl, ?_, rfl, ?_, ?_⟩
    · cases c <;> rfl
    · intro c' hc; cases c <;> cases c' <;> first | rfl | exact absurd rfl hc
    · cases c <;> simp

/-- Joining a class queue leaves the transmitter and every counter but the overrun counter (02 R37 to R39). -/
theorem Relay.enqueue_counters (r : Relay) (c : Cls) (f : Frame) :
    (r.enqueue c f).tx = r.tx ∧ (r.enqueue c f).misroute = r.misroute ∧ (r.enqueue c f).malformed = r.malformed ∧
      (r.enqueue c f).dropped = r.dropped ∧ (r.enqueue c f).stale = r.stale := by
  unfold Relay.enqueue
  cases c <;> simp <;> split <;> simp

/-- A frame that joins a class queue leaves the other queues as they are. -/
theorem Relay.enqueue_queue_ne (r : Relay) {c c' : Cls} (f : Frame) (h : c' ≠ c) :
    (r.enqueue c f).queue c' = r.queue c' := by
  unfold Relay.enqueue
  cases c <;> cases c' <;> first | exact absurd rfl h | rfl | (simp only; split <;> rfl)

/-! ### The transmitter and an offered frame -/

/-- What an idle transmitter can do (02 R41, R42). -/
theorem State.kickLine_cases (s : State) (p : PortId) :
    s.kickLine p = s ∨
    ((s.lr p).tx = none ∧ (s.cp p).patternDue = true ∧ s.kickLine p = s.startPattern p) ∨
    (∃ c, (s.lr p).tx = none ∧ (s.cp p).st = .linked ∧ (s.lr p).choice = some c ∧ s.kickLine p = s.startFrame p c) := by
  unfold State.kickLine
  split
  · exact .inl rfl
  · rename_i htx
    have htx : (s.lr p).tx = none := by simpa using htx
    split
    · rename_i h
      exact .inr (.inl ⟨htx, by simp at h; exact h.1, rfl⟩)
    · split
      · rename_i hl
        split
        · exact .inl rfl
        · rename_i c hc
          exact .inr (.inr ⟨c, htx, by simpa using hl, hc, rfl⟩)
      · exact .inl rfl

/-- What offering a frame can do (02 R36). -/
theorem State.offer_cases (s : State) (p : PortId) (f : Frame) :
    (f.body.cls = none ∧ s.offer p f = s) ∨
    ((s.cp p).takesFrames = false ∧ s.offer p f = s.modLr p fun r => { r with dropped := inc16 r.dropped }) ∨
    (∃ c, f.body.cls = some c ∧ (s.cp p).takesFrames = true ∧
      s.offer p f = (s.modLr p fun r => r.enqueue c f).kickLine p) := by
  unfold State.offer
  split
  · exact .inl ⟨by assumption, rfl⟩
  · rename_i c hc
    split
    · exact .inr (.inr ⟨c, hc, by assumption, rfl⟩)
    · exact .inr (.inl ⟨by simp_all, rfl⟩)

/-- A port that is not in LOCAL LOOP does not hear what it sends (01 R25). -/
theorem Coupler.hearOwn_of_not_localLoop {c : Coupler} (h : c.localLoop = false) : c.hearOwn = c := by
  simp [Coupler.hearOwn, h]

/-- A port that takes frames of the Line Relay is not in LOCAL LOOP (01 R25, 02 R36). -/
theorem Coupler.not_localLoop_of_takesFrames {c : Coupler} (h : c.takesFrames = true) : c.localLoop = false := by
  unfold Coupler.takesFrames at h
  unfold Coupler.localLoop
  cases hs : c.st <;> simp_all

@[simp] theorem Coupler.hearOwn_st (c : Coupler) : c.hearOwn.st = c.st := by unfold Coupler.hearOwn; split <;> rfl

@[simp] theorem Coupler.hearOwn_rate (c : Coupler) : c.hearOwn.rate = c.rate := by unfold Coupler.hearOwn; split <;> rfl

@[simp] theorem Coupler.hearOwn_stagedMax (c : Coupler) : c.hearOwn.stagedMax = c.stagedMax := by unfold Coupler.hearOwn; split <;> rfl

@[simp] theorem Coupler.hearOwn_activeMax (c : Coupler) : c.hearOwn.activeMax = c.activeMax := by unfold Coupler.hearOwn; split <;> rfl

@[simp] theorem Coupler.hearOwn_rateCapped (c : Coupler) : c.hearOwn.rateCapped = c.rateCapped := by unfold Coupler.hearOwn; split <;> rfl

@[simp] theorem Coupler.hearOwn_loopMode (c : Coupler) : c.hearOwn.loopMode = c.loopMode := by unfold Coupler.hearOwn; split <;> rfl

@[simp] theorem Coupler.hearOwn_step (c : Coupler) : c.hearOwn.step = c.step := by unfold Coupler.hearOwn; split <;> rfl

@[simp] theorem Coupler.hearOwn_failCount (c : Coupler) : c.hearOwn.failCount = c.failCount := by unfold Coupler.hearOwn; split <;> rfl

@[simp] theorem Coupler.hearOwn_ready (c : Coupler) : c.hearOwn.ready = c.ready := by unfold Coupler.hearOwn; split <;> rfl

@[simp] theorem Coupler.hearOwn_rateSettled (c : Coupler) : c.hearOwn.rateSettled = c.rateSettled := by unfold Coupler.hearOwn; split <;> rfl

@[simp] theorem Coupler.hearOwn_lastDelivered (c : Coupler) : c.hearOwn.lastDelivered = c.lastDelivered := by unfold Coupler.hearOwn; split <;> rfl

@[simp] theorem Coupler.hearOwn_held (c : Coupler) : c.hearOwn.held = c.held := by unfold Coupler.hearOwn; split <;> rfl

@[simp] theorem Coupler.hearOwn_heldTimer (c : Coupler) : c.hearOwn.heldTimer = c.heldTimer := by unfold Coupler.hearOwn; split <;> rfl

@[simp] theorem Coupler.hearOwn_openCause (c : Coupler) : c.hearOwn.openCause = c.openCause := by unfold Coupler.hearOwn; split <;> rfl

@[simp] theorem Coupler.hearOwn_lostFrames (c : Coupler) : c.hearOwn.lostFrames = c.lostFrames := by unfold Coupler.hearOwn; split <;> rfl

@[simp] theorem Coupler.hearOwn_aligningDiscards (c : Coupler) : c.hearOwn.aligningDiscards = c.aligningDiscards := by unfold Coupler.hearOwn; split <;> rfl

@[simp] theorem Coupler.hearOwn_attemptTimer (c : Coupler) : c.hearOwn.attemptTimer = c.attemptTimer := by unfold Coupler.hearOwn; split <;> rfl

@[simp] theorem Coupler.hearOwn_retryTimer (c : Coupler) : c.hearOwn.retryTimer = c.retryTimer := by unfold Coupler.hearOwn; split <;> rfl

@[simp] theorem Coupler.hearOwn_patternTimer (c : Coupler) : c.hearOwn.patternTimer = c.patternTimer := by unfold Coupler.hearOwn; split <;> rfl

@[simp] theorem Coupler.hearOwn_txSeq (c : Coupler) : c.hearOwn.txSeq = c.txSeq := by unfold Coupler.hearOwn; split <;> rfl

@[simp] theorem Coupler.hearOwn_patternDue (c : Coupler) : c.hearOwn.patternDue = c.patternDue := by unfold Coupler.hearOwn; split <;> rfl

@[simp] theorem Coupler.hearOwn_answerGuard (c : Coupler) : c.hearOwn.answerGuard = c.answerGuard := by unfold Coupler.hearOwn; split <;> rfl

@[simp] theorem State.startPattern_sys (s : State) (p : PortId) : (s.startPattern p).sys = s.sys := by simp [State.startPattern]

@[simp] theorem State.startPattern_cc (s : State) (p : PortId) : (s.startPattern p).cc = s.cc := by simp [State.startPattern]

@[simp] theorem State.startPattern_se (s : State) (p : PortId) : (s.startPattern p).se = s.se := by simp [State.startPattern]

@[simp] theorem State.startPattern_dcu (s : State) (p : PortId) : (s.startPattern p).dcu = s.dcu := by simp [State.startPattern]

@[simp] theorem State.startPattern_ha (s : State) (p : PortId) : (s.startPattern p).ha = s.ha := by simp [State.startPattern]

@[simp] theorem State.startPattern_hl (s : State) (p : PortId) : (s.startPattern p).hl = s.hl := by simp [State.startPattern]

@[simp] theorem State.startPattern_pending (s : State) (p : PortId) : (s.startPattern p).pending = s.pending := by simp [State.startPattern]

@[simp] theorem State.startPattern_nm (s : State) (p : PortId) : (s.startPattern p).nm p = s.nm p := by simp [State.startPattern]

@[simp] theorem State.startPattern_port_other (s : State) (p : PortId) : (s.startPattern p).port (other p) = s.port (other p) := by simp [State.startPattern]

@[simp] theorem State.startPattern_cp_st (s : State) (p : PortId) : ((s.startPattern p).cp p).st = (s.cp p).st := by simp [State.startPattern]

@[simp] theorem State.startPattern_cp_rate (s : State) (p : PortId) : ((s.startPattern p).cp p).rate = (s.cp p).rate := by simp [State.startPattern]

@[simp] theorem State.startPattern_cp_stagedMax (s : State) (p : PortId) : ((s.startPattern p).cp p).stagedMax = (s.cp p).stagedMax := by simp [State.startPattern]

@[simp] theorem State.startPattern_cp_activeMax (s : State) (p : PortId) : ((s.startPattern p).cp p).activeMax = (s.cp p).activeMax := by simp [State.startPattern]

@[simp] theorem State.startPattern_cp_rateCapped (s : State) (p : PortId) : ((s.startPattern p).cp p).rateCapped = (s.cp p).rateCapped := by simp [State.startPattern]

@[simp] theorem State.startPattern_cp_loopMode (s : State) (p : PortId) : ((s.startPattern p).cp p).loopMode = (s.cp p).loopMode := by simp [State.startPattern]

@[simp] theorem State.startPattern_cp_step (s : State) (p : PortId) : ((s.startPattern p).cp p).step = (s.cp p).step := by simp [State.startPattern]

@[simp] theorem State.startPattern_cp_failCount (s : State) (p : PortId) : ((s.startPattern p).cp p).failCount = (s.cp p).failCount := by simp [State.startPattern]

@[simp] theorem State.startPattern_cp_ready (s : State) (p : PortId) : ((s.startPattern p).cp p).ready = (s.cp p).ready := by simp [State.startPattern]

@[simp] theorem State.startPattern_cp_rateSettled (s : State) (p : PortId) : ((s.startPattern p).cp p).rateSettled = (s.cp p).rateSettled := by simp [State.startPattern]

@[simp] theorem State.startPattern_cp_lastDelivered (s : State) (p : PortId) : ((s.startPattern p).cp p).lastDelivered = (s.cp p).lastDelivered := by simp [State.startPattern]

@[simp] theorem State.startPattern_cp_held (s : State) (p : PortId) : ((s.startPattern p).cp p).held = (s.cp p).held := by simp [State.startPattern]

@[simp] theorem State.startPattern_cp_heldTimer (s : State) (p : PortId) : ((s.startPattern p).cp p).heldTimer = (s.cp p).heldTimer := by simp [State.startPattern]

@[simp] theorem State.startPattern_cp_openCause (s : State) (p : PortId) : ((s.startPattern p).cp p).openCause = (s.cp p).openCause := by simp [State.startPattern]

@[simp] theorem State.startPattern_cp_lostFrames (s : State) (p : PortId) : ((s.startPattern p).cp p).lostFrames = (s.cp p).lostFrames := by simp [State.startPattern]

@[simp] theorem State.startPattern_cp_aligningDiscards (s : State) (p : PortId) : ((s.startPattern p).cp p).aligningDiscards = (s.cp p).aligningDiscards := by simp [State.startPattern]

@[simp] theorem State.startPattern_cp_attemptTimer (s : State) (p : PortId) : ((s.startPattern p).cp p).attemptTimer = (s.cp p).attemptTimer := by simp [State.startPattern]

@[simp] theorem State.startPattern_cp_retryTimer (s : State) (p : PortId) : ((s.startPattern p).cp p).retryTimer = (s.cp p).retryTimer := by simp [State.startPattern]

@[simp] theorem State.startPattern_cp_patternTimer (s : State) (p : PortId) : ((s.startPattern p).cp p).patternTimer = (s.cp p).patternTimer := by simp [State.startPattern]

@[simp] theorem State.startPattern_cp_pairA (s : State) (p : PortId) (h : (s.cp p).localLoop = false) :
    ((s.startPattern p).cp p).pairA = (s.cp p).pairA := by
  simp [State.startPattern, Coupler.hearOwn_of_not_localLoop h]

@[simp] theorem State.startPattern_cp_pairB (s : State) (p : PortId) (h : (s.cp p).localLoop = false) :
    ((s.startPattern p).cp p).pairB = (s.cp p).pairB := by
  simp [State.startPattern, Coupler.hearOwn_of_not_localLoop h]

@[simp] theorem State.startFrame_sys (s : State) (p : PortId) (c : Cls) : (s.startFrame p c).sys = s.sys := by unfold State.startFrame; split <;> simp

@[simp] theorem State.startFrame_cc (s : State) (p : PortId) (c : Cls) : (s.startFrame p c).cc = s.cc := by unfold State.startFrame; split <;> simp

@[simp] theorem State.startFrame_se (s : State) (p : PortId) (c : Cls) : (s.startFrame p c).se = s.se := by unfold State.startFrame; split <;> simp

@[simp] theorem State.startFrame_dcu (s : State) (p : PortId) (c : Cls) : (s.startFrame p c).dcu = s.dcu := by unfold State.startFrame; split <;> simp

@[simp] theorem State.startFrame_ha (s : State) (p : PortId) (c : Cls) : (s.startFrame p c).ha = s.ha := by unfold State.startFrame; split <;> simp

@[simp] theorem State.startFrame_hl (s : State) (p : PortId) (c : Cls) : (s.startFrame p c).hl = s.hl := by unfold State.startFrame; split <;> simp

@[simp] theorem State.startFrame_pending (s : State) (p : PortId) (c : Cls) : (s.startFrame p c).pending = s.pending := by unfold State.startFrame; split <;> simp

@[simp] theorem State.startFrame_nm (s : State) (p : PortId) (c : Cls) : (s.startFrame p c).nm p = s.nm p := by unfold State.startFrame; split <;> simp

@[simp] theorem State.startFrame_port_other (s : State) (p : PortId) (c : Cls) : (s.startFrame p c).port (other p) = s.port (other p) := by unfold State.startFrame; split <;> simp

@[simp] theorem State.startFrame_cp_st (s : State) (p : PortId) (c : Cls) : ((s.startFrame p c).cp p).st = (s.cp p).st := by unfold State.startFrame; split <;> simp

@[simp] theorem State.startFrame_cp_rate (s : State) (p : PortId) (c : Cls) : ((s.startFrame p c).cp p).rate = (s.cp p).rate := by unfold State.startFrame; split <;> simp

@[simp] theorem State.startFrame_cp_stagedMax (s : State) (p : PortId) (c : Cls) : ((s.startFrame p c).cp p).stagedMax = (s.cp p).stagedMax := by unfold State.startFrame; split <;> simp

@[simp] theorem State.startFrame_cp_activeMax (s : State) (p : PortId) (c : Cls) : ((s.startFrame p c).cp p).activeMax = (s.cp p).activeMax := by unfold State.startFrame; split <;> simp

@[simp] theorem State.startFrame_cp_rateCapped (s : State) (p : PortId) (c : Cls) : ((s.startFrame p c).cp p).rateCapped = (s.cp p).rateCapped := by unfold State.startFrame; split <;> simp

@[simp] theorem State.startFrame_cp_loopMode (s : State) (p : PortId) (c : Cls) : ((s.startFrame p c).cp p).loopMode = (s.cp p).loopMode := by unfold State.startFrame; split <;> simp

@[simp] theorem State.startFrame_cp_step (s : State) (p : PortId) (c : Cls) : ((s.startFrame p c).cp p).step = (s.cp p).step := by unfold State.startFrame; split <;> simp

@[simp] theorem State.startFrame_cp_failCount (s : State) (p : PortId) (c : Cls) : ((s.startFrame p c).cp p).failCount = (s.cp p).failCount := by unfold State.startFrame; split <;> simp

@[simp] theorem State.startFrame_cp_ready (s : State) (p : PortId) (c : Cls) : ((s.startFrame p c).cp p).ready = (s.cp p).ready := by unfold State.startFrame; split <;> simp

@[simp] theorem State.startFrame_cp_rateSettled (s : State) (p : PortId) (c : Cls) : ((s.startFrame p c).cp p).rateSettled = (s.cp p).rateSettled := by unfold State.startFrame; split <;> simp

@[simp] theorem State.startFrame_cp_lastDelivered (s : State) (p : PortId) (c : Cls) : ((s.startFrame p c).cp p).lastDelivered = (s.cp p).lastDelivered := by unfold State.startFrame; split <;> simp

@[simp] theorem State.startFrame_cp_held (s : State) (p : PortId) (c : Cls) : ((s.startFrame p c).cp p).held = (s.cp p).held := by unfold State.startFrame; split <;> simp

@[simp] theorem State.startFrame_cp_heldTimer (s : State) (p : PortId) (c : Cls) : ((s.startFrame p c).cp p).heldTimer = (s.cp p).heldTimer := by unfold State.startFrame; split <;> simp

@[simp] theorem State.startFrame_cp_openCause (s : State) (p : PortId) (c : Cls) : ((s.startFrame p c).cp p).openCause = (s.cp p).openCause := by unfold State.startFrame; split <;> simp

@[simp] theorem State.startFrame_cp_lostFrames (s : State) (p : PortId) (c : Cls) : ((s.startFrame p c).cp p).lostFrames = (s.cp p).lostFrames := by unfold State.startFrame; split <;> simp

@[simp] theorem State.startFrame_cp_aligningDiscards (s : State) (p : PortId) (c : Cls) : ((s.startFrame p c).cp p).aligningDiscards = (s.cp p).aligningDiscards := by unfold State.startFrame; split <;> simp

@[simp] theorem State.startFrame_cp_attemptTimer (s : State) (p : PortId) (c : Cls) : ((s.startFrame p c).cp p).attemptTimer = (s.cp p).attemptTimer := by unfold State.startFrame; split <;> simp

@[simp] theorem State.startFrame_cp_retryTimer (s : State) (p : PortId) (c : Cls) : ((s.startFrame p c).cp p).retryTimer = (s.cp p).retryTimer := by unfold State.startFrame; split <;> simp

@[simp] theorem State.startFrame_cp_patternTimer (s : State) (p : PortId) (c : Cls) : ((s.startFrame p c).cp p).patternTimer = (s.cp p).patternTimer := by unfold State.startFrame; split <;> simp

@[simp] theorem State.startFrame_cp_pairA (s : State) (p : PortId) (c : Cls) : ((s.startFrame p c).cp p).pairA = (s.cp p).pairA := by unfold State.startFrame; split <;> simp

@[simp] theorem State.startFrame_cp_pairB (s : State) (p : PortId) (c : Cls) : ((s.startFrame p c).cp p).pairB = (s.cp p).pairB := by unfold State.startFrame; split <;> simp

@[simp] theorem State.kickLine_sys (s : State) (p : PortId) : (s.kickLine p).sys = s.sys := by
  obtain h | ⟨_, _, h⟩ | ⟨c, _, _, _, h⟩ := s.kickLine_cases p <;> simp [h]

@[simp] theorem State.kickLine_cc (s : State) (p : PortId) : (s.kickLine p).cc = s.cc := by
  obtain h | ⟨_, _, h⟩ | ⟨c, _, _, _, h⟩ := s.kickLine_cases p <;> simp [h]

@[simp] theorem State.kickLine_se (s : State) (p : PortId) : (s.kickLine p).se = s.se := by
  obtain h | ⟨_, _, h⟩ | ⟨c, _, _, _, h⟩ := s.kickLine_cases p <;> simp [h]

@[simp] theorem State.kickLine_dcu (s : State) (p : PortId) : (s.kickLine p).dcu = s.dcu := by
  obtain h | ⟨_, _, h⟩ | ⟨c, _, _, _, h⟩ := s.kickLine_cases p <;> simp [h]

@[simp] theorem State.kickLine_ha (s : State) (p : PortId) : (s.kickLine p).ha = s.ha := by
  obtain h | ⟨_, _, h⟩ | ⟨c, _, _, _, h⟩ := s.kickLine_cases p <;> simp [h]

@[simp] theorem State.kickLine_hl (s : State) (p : PortId) : (s.kickLine p).hl = s.hl := by
  obtain h | ⟨_, _, h⟩ | ⟨c, _, _, _, h⟩ := s.kickLine_cases p <;> simp [h]

@[simp] theorem State.kickLine_pending (s : State) (p : PortId) : (s.kickLine p).pending = s.pending := by
  obtain h | ⟨_, _, h⟩ | ⟨c, _, _, _, h⟩ := s.kickLine_cases p <;> simp [h]

@[simp] theorem State.kickLine_nm (s : State) (p : PortId) : (s.kickLine p).nm p = s.nm p := by
  obtain h | ⟨_, _, h⟩ | ⟨c, _, _, _, h⟩ := s.kickLine_cases p <;> simp [h]

@[simp] theorem State.kickLine_port_other (s : State) (p : PortId) : (s.kickLine p).port (other p) = s.port (other p) := by
  obtain h | ⟨_, _, h⟩ | ⟨c, _, _, _, h⟩ := s.kickLine_cases p <;> simp [h]

@[simp] theorem State.kickLine_cp_st (s : State) (p : PortId) : ((s.kickLine p).cp p).st = (s.cp p).st := by
  obtain h | ⟨_, _, h⟩ | ⟨c, _, _, _, h⟩ := s.kickLine_cases p <;> simp [h]

@[simp] theorem State.kickLine_cp_rate (s : State) (p : PortId) : ((s.kickLine p).cp p).rate = (s.cp p).rate := by
  obtain h | ⟨_, _, h⟩ | ⟨c, _, _, _, h⟩ := s.kickLine_cases p <;> simp [h]

@[simp] theorem State.kickLine_cp_stagedMax (s : State) (p : PortId) : ((s.kickLine p).cp p).stagedMax = (s.cp p).stagedMax := by
  obtain h | ⟨_, _, h⟩ | ⟨c, _, _, _, h⟩ := s.kickLine_cases p <;> simp [h]

@[simp] theorem State.kickLine_cp_activeMax (s : State) (p : PortId) : ((s.kickLine p).cp p).activeMax = (s.cp p).activeMax := by
  obtain h | ⟨_, _, h⟩ | ⟨c, _, _, _, h⟩ := s.kickLine_cases p <;> simp [h]

@[simp] theorem State.kickLine_cp_rateCapped (s : State) (p : PortId) : ((s.kickLine p).cp p).rateCapped = (s.cp p).rateCapped := by
  obtain h | ⟨_, _, h⟩ | ⟨c, _, _, _, h⟩ := s.kickLine_cases p <;> simp [h]

@[simp] theorem State.kickLine_cp_loopMode (s : State) (p : PortId) : ((s.kickLine p).cp p).loopMode = (s.cp p).loopMode := by
  obtain h | ⟨_, _, h⟩ | ⟨c, _, _, _, h⟩ := s.kickLine_cases p <;> simp [h]

@[simp] theorem State.kickLine_cp_step (s : State) (p : PortId) : ((s.kickLine p).cp p).step = (s.cp p).step := by
  obtain h | ⟨_, _, h⟩ | ⟨c, _, _, _, h⟩ := s.kickLine_cases p <;> simp [h]

@[simp] theorem State.kickLine_cp_failCount (s : State) (p : PortId) : ((s.kickLine p).cp p).failCount = (s.cp p).failCount := by
  obtain h | ⟨_, _, h⟩ | ⟨c, _, _, _, h⟩ := s.kickLine_cases p <;> simp [h]

@[simp] theorem State.kickLine_cp_ready (s : State) (p : PortId) : ((s.kickLine p).cp p).ready = (s.cp p).ready := by
  obtain h | ⟨_, _, h⟩ | ⟨c, _, _, _, h⟩ := s.kickLine_cases p <;> simp [h]

@[simp] theorem State.kickLine_cp_rateSettled (s : State) (p : PortId) : ((s.kickLine p).cp p).rateSettled = (s.cp p).rateSettled := by
  obtain h | ⟨_, _, h⟩ | ⟨c, _, _, _, h⟩ := s.kickLine_cases p <;> simp [h]

@[simp] theorem State.kickLine_cp_lastDelivered (s : State) (p : PortId) : ((s.kickLine p).cp p).lastDelivered = (s.cp p).lastDelivered := by
  obtain h | ⟨_, _, h⟩ | ⟨c, _, _, _, h⟩ := s.kickLine_cases p <;> simp [h]

@[simp] theorem State.kickLine_cp_held (s : State) (p : PortId) : ((s.kickLine p).cp p).held = (s.cp p).held := by
  obtain h | ⟨_, _, h⟩ | ⟨c, _, _, _, h⟩ := s.kickLine_cases p <;> simp [h]

@[simp] theorem State.kickLine_cp_heldTimer (s : State) (p : PortId) : ((s.kickLine p).cp p).heldTimer = (s.cp p).heldTimer := by
  obtain h | ⟨_, _, h⟩ | ⟨c, _, _, _, h⟩ := s.kickLine_cases p <;> simp [h]

@[simp] theorem State.kickLine_cp_openCause (s : State) (p : PortId) : ((s.kickLine p).cp p).openCause = (s.cp p).openCause := by
  obtain h | ⟨_, _, h⟩ | ⟨c, _, _, _, h⟩ := s.kickLine_cases p <;> simp [h]

@[simp] theorem State.kickLine_cp_lostFrames (s : State) (p : PortId) : ((s.kickLine p).cp p).lostFrames = (s.cp p).lostFrames := by
  obtain h | ⟨_, _, h⟩ | ⟨c, _, _, _, h⟩ := s.kickLine_cases p <;> simp [h]

@[simp] theorem State.kickLine_cp_aligningDiscards (s : State) (p : PortId) : ((s.kickLine p).cp p).aligningDiscards = (s.cp p).aligningDiscards := by
  obtain h | ⟨_, _, h⟩ | ⟨c, _, _, _, h⟩ := s.kickLine_cases p <;> simp [h]

@[simp] theorem State.kickLine_cp_attemptTimer (s : State) (p : PortId) : ((s.kickLine p).cp p).attemptTimer = (s.cp p).attemptTimer := by
  obtain h | ⟨_, _, h⟩ | ⟨c, _, _, _, h⟩ := s.kickLine_cases p <;> simp [h]

@[simp] theorem State.kickLine_cp_retryTimer (s : State) (p : PortId) : ((s.kickLine p).cp p).retryTimer = (s.cp p).retryTimer := by
  obtain h | ⟨_, _, h⟩ | ⟨c, _, _, _, h⟩ := s.kickLine_cases p <;> simp [h]

@[simp] theorem State.kickLine_cp_patternTimer (s : State) (p : PortId) : ((s.kickLine p).cp p).patternTimer = (s.cp p).patternTimer := by
  obtain h | ⟨_, _, h⟩ | ⟨c, _, _, _, h⟩ := s.kickLine_cases p <;> simp [h]

@[simp] theorem State.kickLine_cp_pairA (s : State) (p : PortId) (h : (s.cp p).localLoop = false) :
    ((s.kickLine p).cp p).pairA = (s.cp p).pairA := by
  obtain e | ⟨_, _, e⟩ | ⟨c, _, _, _, e⟩ := s.kickLine_cases p <;> simp [e, h]

@[simp] theorem State.kickLine_cp_pairB (s : State) (p : PortId) (h : (s.cp p).localLoop = false) :
    ((s.kickLine p).cp p).pairB = (s.cp p).pairB := by
  obtain e | ⟨_, _, e⟩ | ⟨c, _, _, _, e⟩ := s.kickLine_cases p <;> simp [e, h]

@[simp] theorem State.offer_sys (s : State) (p : PortId) (f : Frame) : (s.offer p f).sys = s.sys := by
  obtain ⟨_, h⟩ | ⟨_, h⟩ | ⟨c, _, _, h⟩ := s.offer_cases p f <;> simp [h]

@[simp] theorem State.offer_cc (s : State) (p : PortId) (f : Frame) : (s.offer p f).cc = s.cc := by
  obtain ⟨_, h⟩ | ⟨_, h⟩ | ⟨c, _, _, h⟩ := s.offer_cases p f <;> simp [h]

@[simp] theorem State.offer_se (s : State) (p : PortId) (f : Frame) : (s.offer p f).se = s.se := by
  obtain ⟨_, h⟩ | ⟨_, h⟩ | ⟨c, _, _, h⟩ := s.offer_cases p f <;> simp [h]

@[simp] theorem State.offer_dcu (s : State) (p : PortId) (f : Frame) : (s.offer p f).dcu = s.dcu := by
  obtain ⟨_, h⟩ | ⟨_, h⟩ | ⟨c, _, _, h⟩ := s.offer_cases p f <;> simp [h]

@[simp] theorem State.offer_ha (s : State) (p : PortId) (f : Frame) : (s.offer p f).ha = s.ha := by
  obtain ⟨_, h⟩ | ⟨_, h⟩ | ⟨c, _, _, h⟩ := s.offer_cases p f <;> simp [h]

@[simp] theorem State.offer_hl (s : State) (p : PortId) (f : Frame) : (s.offer p f).hl = s.hl := by
  obtain ⟨_, h⟩ | ⟨_, h⟩ | ⟨c, _, _, h⟩ := s.offer_cases p f <;> simp [h]

@[simp] theorem State.offer_pending (s : State) (p : PortId) (f : Frame) : (s.offer p f).pending = s.pending := by
  obtain ⟨_, h⟩ | ⟨_, h⟩ | ⟨c, _, _, h⟩ := s.offer_cases p f <;> simp [h]

@[simp] theorem State.offer_nm_self (s : State) (p : PortId) (f : Frame) : (s.offer p f).nm p = s.nm p := by
  obtain ⟨_, h⟩ | ⟨_, h⟩ | ⟨c, _, _, h⟩ := s.offer_cases p f <;> simp [h]

@[simp] theorem State.offer_port_other (s : State) (p : PortId) (f : Frame) :
    (s.offer p f).port (other p) = s.port (other p) := by
  obtain ⟨_, h⟩ | ⟨_, h⟩ | ⟨c, _, _, h⟩ := s.offer_cases p f <;> simp [h]

@[simp] theorem State.offer_cp_st (s : State) (p : PortId) (f : Frame) : ((s.offer p f).cp p).st = (s.cp p).st := by
  obtain ⟨_, h⟩ | ⟨_, h⟩ | ⟨c, _, _, h⟩ := s.offer_cases p f <;> simp [h]

@[simp] theorem State.offer_cp_rate (s : State) (p : PortId) (f : Frame) : ((s.offer p f).cp p).rate = (s.cp p).rate := by
  obtain ⟨_, h⟩ | ⟨_, h⟩ | ⟨c, _, _, h⟩ := s.offer_cases p f <;> simp [h]

@[simp] theorem State.offer_cp_stagedMax (s : State) (p : PortId) (f : Frame) : ((s.offer p f).cp p).stagedMax = (s.cp p).stagedMax := by
  obtain ⟨_, h⟩ | ⟨_, h⟩ | ⟨c, _, _, h⟩ := s.offer_cases p f <;> simp [h]

@[simp] theorem State.offer_cp_activeMax (s : State) (p : PortId) (f : Frame) : ((s.offer p f).cp p).activeMax = (s.cp p).activeMax := by
  obtain ⟨_, h⟩ | ⟨_, h⟩ | ⟨c, _, _, h⟩ := s.offer_cases p f <;> simp [h]

@[simp] theorem State.offer_cp_rateCapped (s : State) (p : PortId) (f : Frame) : ((s.offer p f).cp p).rateCapped = (s.cp p).rateCapped := by
  obtain ⟨_, h⟩ | ⟨_, h⟩ | ⟨c, _, _, h⟩ := s.offer_cases p f <;> simp [h]

@[simp] theorem State.offer_cp_loopMode (s : State) (p : PortId) (f : Frame) : ((s.offer p f).cp p).loopMode = (s.cp p).loopMode := by
  obtain ⟨_, h⟩ | ⟨_, h⟩ | ⟨c, _, _, h⟩ := s.offer_cases p f <;> simp [h]

@[simp] theorem State.offer_cp_step (s : State) (p : PortId) (f : Frame) : ((s.offer p f).cp p).step = (s.cp p).step := by
  obtain ⟨_, h⟩ | ⟨_, h⟩ | ⟨c, _, _, h⟩ := s.offer_cases p f <;> simp [h]

@[simp] theorem State.offer_cp_failCount (s : State) (p : PortId) (f : Frame) : ((s.offer p f).cp p).failCount = (s.cp p).failCount := by
  obtain ⟨_, h⟩ | ⟨_, h⟩ | ⟨c, _, _, h⟩ := s.offer_cases p f <;> simp [h]

@[simp] theorem State.offer_cp_ready (s : State) (p : PortId) (f : Frame) : ((s.offer p f).cp p).ready = (s.cp p).ready := by
  obtain ⟨_, h⟩ | ⟨_, h⟩ | ⟨c, _, _, h⟩ := s.offer_cases p f <;> simp [h]

@[simp] theorem State.offer_cp_rateSettled (s : State) (p : PortId) (f : Frame) : ((s.offer p f).cp p).rateSettled = (s.cp p).rateSettled := by
  obtain ⟨_, h⟩ | ⟨_, h⟩ | ⟨c, _, _, h⟩ := s.offer_cases p f <;> simp [h]

@[simp] theorem State.offer_cp_lastDelivered (s : State) (p : PortId) (f : Frame) : ((s.offer p f).cp p).lastDelivered = (s.cp p).lastDelivered := by
  obtain ⟨_, h⟩ | ⟨_, h⟩ | ⟨c, _, _, h⟩ := s.offer_cases p f <;> simp [h]

@[simp] theorem State.offer_cp_held (s : State) (p : PortId) (f : Frame) : ((s.offer p f).cp p).held = (s.cp p).held := by
  obtain ⟨_, h⟩ | ⟨_, h⟩ | ⟨c, _, _, h⟩ := s.offer_cases p f <;> simp [h]

@[simp] theorem State.offer_cp_heldTimer (s : State) (p : PortId) (f : Frame) : ((s.offer p f).cp p).heldTimer = (s.cp p).heldTimer := by
  obtain ⟨_, h⟩ | ⟨_, h⟩ | ⟨c, _, _, h⟩ := s.offer_cases p f <;> simp [h]

@[simp] theorem State.offer_cp_openCause (s : State) (p : PortId) (f : Frame) : ((s.offer p f).cp p).openCause = (s.cp p).openCause := by
  obtain ⟨_, h⟩ | ⟨_, h⟩ | ⟨c, _, _, h⟩ := s.offer_cases p f <;> simp [h]

@[simp] theorem State.offer_cp_lostFrames (s : State) (p : PortId) (f : Frame) : ((s.offer p f).cp p).lostFrames = (s.cp p).lostFrames := by
  obtain ⟨_, h⟩ | ⟨_, h⟩ | ⟨c, _, _, h⟩ := s.offer_cases p f <;> simp [h]

@[simp] theorem State.offer_cp_aligningDiscards (s : State) (p : PortId) (f : Frame) : ((s.offer p f).cp p).aligningDiscards = (s.cp p).aligningDiscards := by
  obtain ⟨_, h⟩ | ⟨_, h⟩ | ⟨c, _, _, h⟩ := s.offer_cases p f <;> simp [h]

@[simp] theorem State.offer_cp_attemptTimer (s : State) (p : PortId) (f : Frame) : ((s.offer p f).cp p).attemptTimer = (s.cp p).attemptTimer := by
  obtain ⟨_, h⟩ | ⟨_, h⟩ | ⟨c, _, _, h⟩ := s.offer_cases p f <;> simp [h]

@[simp] theorem State.offer_cp_retryTimer (s : State) (p : PortId) (f : Frame) : ((s.offer p f).cp p).retryTimer = (s.cp p).retryTimer := by
  obtain ⟨_, h⟩ | ⟨_, h⟩ | ⟨c, _, _, h⟩ := s.offer_cases p f <;> simp [h]

@[simp] theorem State.offer_cp_patternTimer (s : State) (p : PortId) (f : Frame) : ((s.offer p f).cp p).patternTimer = (s.cp p).patternTimer := by
  obtain ⟨_, h⟩ | ⟨_, h⟩ | ⟨c, _, _, h⟩ := s.offer_cases p f <;> simp [h]

@[simp] theorem State.offer_cp_pairA (s : State) (p : PortId) (f : Frame) : ((s.offer p f).cp p).pairA = (s.cp p).pairA := by
  obtain ⟨_, h⟩ | ⟨_, h⟩ | ⟨c, _, ht, h⟩ := s.offer_cases p f <;> simp [h]
  simp [Coupler.not_localLoop_of_takesFrames ht]

@[simp] theorem State.offer_cp_pairB (s : State) (p : PortId) (f : Frame) : ((s.offer p f).cp p).pairB = (s.cp p).pairB := by
  obtain ⟨_, h⟩ | ⟨_, h⟩ | ⟨c, _, ht, h⟩ := s.offer_cases p f <;> simp [h]
  simp [Coupler.not_localLoop_of_takesFrames ht]

/-- An offered frame leaves both ports' Neighbour Monitors. -/
@[simp] theorem State.offer_nm (s : State) (p x : PortId) (f : Frame) : (s.offer p f).nm x = s.nm x := by
  by_cases h : x = p
  · subst h; simp
  · rw [eq_other_of_ne h]; exact congrArg Port.nm (s.offer_port_other p f)

@[simp] theorem State.offerRear_sys (s : State) (f : Frame) : (s.offerRear f).sys = s.sys := by
  unfold State.offerRear; split <;> simp

@[simp] theorem State.offerRear_cc (s : State) (f : Frame) : (s.offerRear f).cc = s.cc := by
  unfold State.offerRear; split <;> simp

@[simp] theorem State.offerRear_se (s : State) (f : Frame) : (s.offerRear f).se = s.se := by
  unfold State.offerRear; split <;> simp

@[simp] theorem State.offerRear_dcu (s : State) (f : Frame) : (s.offerRear f).dcu = s.dcu := by
  unfold State.offerRear; split <;> simp

@[simp] theorem State.offerRear_ha (s : State) (f : Frame) : (s.offerRear f).ha = s.ha := by
  unfold State.offerRear; split <;> simp

@[simp] theorem State.offerRear_hl (s : State) (f : Frame) : (s.offerRear f).hl = s.hl := by
  unfold State.offerRear; split <;> simp

@[simp] theorem State.offerRear_pending (s : State) (f : Frame) : (s.offerRear f).pending = s.pending := by
  unfold State.offerRear; split <;> simp

@[simp] theorem State.offerRear_nm (s : State) (x : PortId) (f : Frame) : (s.offerRear f).nm x = s.nm x := by
  unfold State.offerRear; split <;> simp

@[simp] theorem State.offerFront_sys (s : State) (f : Frame) : (s.offerFront f).sys = s.sys := by
  unfold State.offerFront; split <;> simp

@[simp] theorem State.offerFront_cc (s : State) (f : Frame) : (s.offerFront f).cc = s.cc := by
  unfold State.offerFront; split <;> simp

@[simp] theorem State.offerFront_se (s : State) (f : Frame) : (s.offerFront f).se = s.se := by
  unfold State.offerFront; split <;> simp

@[simp] theorem State.offerFront_dcu (s : State) (f : Frame) : (s.offerFront f).dcu = s.dcu := by
  unfold State.offerFront; split <;> simp

@[simp] theorem State.offerFront_ha (s : State) (f : Frame) : (s.offerFront f).ha = s.ha := by
  unfold State.offerFront; split <;> simp

@[simp] theorem State.offerFront_hl (s : State) (f : Frame) : (s.offerFront f).hl = s.hl := by
  unfold State.offerFront; split <;> simp

@[simp] theorem State.offerFront_pending (s : State) (f : Frame) : (s.offerFront f).pending = s.pending := by
  unfold State.offerFront; split <;> simp

@[simp] theorem State.offerFront_nm (s : State) (x : PortId) (f : Frame) : (s.offerFront f).nm x = s.nm x := by
  unfold State.offerFront; split <;> simp

@[simp] theorem State.countStale_sys (s : State) (p : PortId) : (s.countStale p).sys = s.sys := by simp [State.countStale]

@[simp] theorem State.countStale_cc (s : State) (p : PortId) : (s.countStale p).cc = s.cc := by simp [State.countStale]

@[simp] theorem State.countStale_se (s : State) (p : PortId) : (s.countStale p).se = s.se := by simp [State.countStale]

@[simp] theorem State.countStale_dcu (s : State) (p : PortId) : (s.countStale p).dcu = s.dcu := by simp [State.countStale]

@[simp] theorem State.countStale_ha (s : State) (p : PortId) : (s.countStale p).ha = s.ha := by simp [State.countStale]

@[simp] theorem State.countStale_hl (s : State) (p : PortId) : (s.countStale p).hl = s.hl := by simp [State.countStale]

@[simp] theorem State.countStale_pending (s : State) (p : PortId) : (s.countStale p).pending = s.pending := by simp [State.countStale]

@[simp] theorem State.countMalformed_sys (s : State) (p : PortId) : (s.countMalformed p).sys = s.sys := by simp [State.countMalformed]

@[simp] theorem State.countMalformed_cc (s : State) (p : PortId) : (s.countMalformed p).cc = s.cc := by simp [State.countMalformed]

@[simp] theorem State.countMalformed_se (s : State) (p : PortId) : (s.countMalformed p).se = s.se := by simp [State.countMalformed]

@[simp] theorem State.countMalformed_dcu (s : State) (p : PortId) : (s.countMalformed p).dcu = s.dcu := by simp [State.countMalformed]

@[simp] theorem State.countMalformed_ha (s : State) (p : PortId) : (s.countMalformed p).ha = s.ha := by simp [State.countMalformed]

@[simp] theorem State.countMalformed_hl (s : State) (p : PortId) : (s.countMalformed p).hl = s.hl := by simp [State.countMalformed]

@[simp] theorem State.countMalformed_pending (s : State) (p : PortId) : (s.countMalformed p).pending = s.pending := by simp [State.countMalformed]

@[simp] theorem State.countMisroute_sys (s : State) (p : PortId) : (s.countMisroute p).sys = s.sys := by simp [State.countMisroute]

@[simp] theorem State.countMisroute_cc (s : State) (p : PortId) : (s.countMisroute p).cc = s.cc := by simp [State.countMisroute]

@[simp] theorem State.countMisroute_se (s : State) (p : PortId) : (s.countMisroute p).se = s.se := by simp [State.countMisroute]

@[simp] theorem State.countMisroute_dcu (s : State) (p : PortId) : (s.countMisroute p).dcu = s.dcu := by simp [State.countMisroute]

@[simp] theorem State.countMisroute_ha (s : State) (p : PortId) : (s.countMisroute p).ha = s.ha := by simp [State.countMisroute]

@[simp] theorem State.countMisroute_hl (s : State) (p : PortId) : (s.countMisroute p).hl = s.hl := by simp [State.countMisroute]

@[simp] theorem State.countMisroute_pending (s : State) (p : PortId) : (s.countMisroute p).pending = s.pending := by simp [State.countMisroute]

@[simp] theorem State.walkTrigger_sys (s : State) : s.walkTrigger.sys = s.sys := by unfold State.walkTrigger; split <;> rfl

@[simp] theorem State.walkTrigger_se (s : State) : s.walkTrigger.se = s.se := by unfold State.walkTrigger; split <;> rfl

@[simp] theorem State.walkTrigger_dcu (s : State) : s.walkTrigger.dcu = s.dcu := by unfold State.walkTrigger; split <;> rfl

@[simp] theorem State.walkTrigger_ha (s : State) : s.walkTrigger.ha = s.ha := by unfold State.walkTrigger; split <;> rfl

@[simp] theorem State.walkTrigger_hl (s : State) : s.walkTrigger.hl = s.hl := by unfold State.walkTrigger; split <;> rfl

@[simp] theorem State.walkTrigger_pending (s : State) : s.walkTrigger.pending = s.pending := by unfold State.walkTrigger; split <;> rfl

end Sys2Proof.Machine
end

