-- ==== Sys2Proof/Laws/Blocks.lean ====
section
/-! SUPPORT. What the operations of the Door Control Unit, the Heating Allocator, the Sweep Engine and the Consist Controller
leave unchanged, and what an allocation's parts give. -/

namespace Sys2Proof.Machine

@[simp] theorem State.setReleases_sys (s : State) (a b : Bool) :
    (s.setReleases a b).sys = s.sys := by simp [State.setReleases]

@[simp] theorem State.setReleases_cc (s : State) (a b : Bool) :
    (s.setReleases a b).cc = s.cc := by simp [State.setReleases]

@[simp] theorem State.setReleases_se (s : State) (a b : Bool) :
    (s.setReleases a b).se = s.se := by simp [State.setReleases]

@[simp] theorem State.setReleases_ha (s : State) (a b : Bool) :
    (s.setReleases a b).ha = s.ha := by simp [State.setReleases]

@[simp] theorem State.setReleases_pending (s : State) (a b : Bool) :
    (s.setReleases a b).pending = s.pending := by simp [State.setReleases]

@[simp] theorem State.setReleases_port (s : State) (a b : Bool) (p : PortId) :
    (s.setReleases a b).port p = s.port p := by simp [State.setReleases]

@[simp] theorem State.setReleases_cp (s : State) (a b : Bool) (p : PortId) :
    (s.setReleases a b).cp p = s.cp p := by
  simp [State.cp]

@[simp] theorem State.setReleases_lr (s : State) (a b : Bool) (p : PortId) :
    (s.setReleases a b).lr p = s.lr p := by
  simp [State.lr]

@[simp] theorem State.setReleases_nm (s : State) (a b : Bool) (p : PortId) :
    (s.setReleases a b).nm p = s.nm p := by
  simp [State.nm]

@[simp] theorem State.applyDoor_sys (s : State) (a : Action) (d : TrainSide) :
    (s.applyDoor a d).sys = s.sys := by
  unfold State.applyDoor; split
  · rfl
  · split <;> simp

@[simp] theorem State.applyDoor_cc (s : State) (a : Action) (d : TrainSide) :
    (s.applyDoor a d).cc = s.cc := by
  unfold State.applyDoor; split
  · rfl
  · split <;> simp

@[simp] theorem State.applyDoor_se (s : State) (a : Action) (d : TrainSide) :
    (s.applyDoor a d).se = s.se := by
  unfold State.applyDoor; split
  · rfl
  · split <;> simp

@[simp] theorem State.applyDoor_ha (s : State) (a : Action) (d : TrainSide) :
    (s.applyDoor a d).ha = s.ha := by
  unfold State.applyDoor; split
  · rfl
  · split <;> simp

@[simp] theorem State.applyDoor_pending (s : State) (a : Action) (d : TrainSide) :
    (s.applyDoor a d).pending = s.pending := by
  unfold State.applyDoor; split
  · rfl
  · split <;> simp

@[simp] theorem State.applyDoor_port (s : State) (a : Action) (d : TrainSide) (p : PortId) :
    (s.applyDoor a d).port p = s.port p := by
  unfold State.applyDoor; split
  · rfl
  · split <;> simp

@[simp] theorem State.applyDoor_cp (s : State) (a : Action) (d : TrainSide) (p : PortId) :
    (s.applyDoor a d).cp p = s.cp p := by
  simp [State.cp]

@[simp] theorem State.applyDoor_lr (s : State) (a : Action) (d : TrainSide) (p : PortId) :
    (s.applyDoor a d).lr p = s.lr p := by
  simp [State.lr]

@[simp] theorem State.applyDoor_nm (s : State) (a : Action) (d : TrainSide) (p : PortId) :
    (s.applyDoor a d).nm p = s.nm p := by
  simp [State.nm]

@[simp] theorem State.examineOpen_sys (s : State) :
    (s.examineOpen).sys = s.sys := by
  unfold State.examineOpen; split
  · split <;> simp
  · simp

@[simp] theorem State.examineOpen_cc (s : State) :
    (s.examineOpen).cc = s.cc := by
  unfold State.examineOpen; split
  · split <;> simp
  · simp

@[simp] theorem State.examineOpen_se (s : State) :
    (s.examineOpen).se = s.se := by
  unfold State.examineOpen; split
  · split <;> simp
  · simp

@[simp] theorem State.examineOpen_ha (s : State) :
    (s.examineOpen).ha = s.ha := by
  unfold State.examineOpen; split
  · split <;> simp
  · simp

@[simp] theorem State.examineOpen_pending (s : State) :
    (s.examineOpen).pending = s.pending := by
  unfold State.examineOpen; split
  · split <;> simp
  · simp

@[simp] theorem State.examineOpen_port (s : State) (p : PortId) :
    (s.examineOpen).port p = s.port p := by
  unfold State.examineOpen; split
  · split <;> simp
  · simp

@[simp] theorem State.examineOpen_cp (s : State) (p : PortId) :
    (s.examineOpen).cp p = s.cp p := by
  simp [State.cp]

@[simp] theorem State.examineOpen_lr (s : State) (p : PortId) :
    (s.examineOpen).lr p = s.lr p := by
  simp [State.lr]

@[simp] theorem State.examineOpen_nm (s : State) (p : PortId) :
    (s.examineOpen).nm p = s.nm p := by
  simp [State.nm]

@[simp] theorem State.setTrainClosed_sys (s : State) (v : Bool) :
    (s.setTrainClosed v).sys = s.sys := by simp [State.setTrainClosed]

@[simp] theorem State.setTrainClosed_cc (s : State) (v : Bool) :
    (s.setTrainClosed v).cc = s.cc := by simp [State.setTrainClosed]

@[simp] theorem State.setTrainClosed_se (s : State) (v : Bool) :
    (s.setTrainClosed v).se = s.se := by simp [State.setTrainClosed]

@[simp] theorem State.setTrainClosed_ha (s : State) (v : Bool) :
    (s.setTrainClosed v).ha = s.ha := by simp [State.setTrainClosed]

@[simp] theorem State.setTrainClosed_pending (s : State) (v : Bool) :
    (s.setTrainClosed v).pending = s.pending := by simp [State.setTrainClosed]

@[simp] theorem State.setTrainClosed_port (s : State) (v : Bool) (p : PortId) :
    (s.setTrainClosed v).port p = s.port p := by simp [State.setTrainClosed]

@[simp] theorem State.setTrainClosed_cp (s : State) (v : Bool) (p : PortId) :
    (s.setTrainClosed v).cp p = s.cp p := by
  simp [State.cp]

@[simp] theorem State.setTrainClosed_lr (s : State) (v : Bool) (p : PortId) :
    (s.setTrainClosed v).lr p = s.lr p := by
  simp [State.lr]

@[simp] theorem State.setTrainClosed_nm (s : State) (v : Bool) (p : PortId) :
    (s.setTrainClosed v).nm p = s.nm p := by
  simp [State.nm]

@[simp] theorem State.addResults_sys (s : State) (l : List DoorResult) :
    (s.addResults l).sys = s.sys := by simp [State.addResults]

@[simp] theorem State.addResults_cc (s : State) (l : List DoorResult) :
    (s.addResults l).cc = s.cc := by simp [State.addResults]

@[simp] theorem State.addResults_se (s : State) (l : List DoorResult) :
    (s.addResults l).se = s.se := by simp [State.addResults]

@[simp] theorem State.addResults_ha (s : State) (l : List DoorResult) :
    (s.addResults l).ha = s.ha := by simp [State.addResults]

@[simp] theorem State.addResults_pending (s : State) (l : List DoorResult) :
    (s.addResults l).pending = s.pending := by simp [State.addResults]

@[simp] theorem State.addResults_port (s : State) (l : List DoorResult) (p : PortId) :
    (s.addResults l).port p = s.port p := by simp [State.addResults]

@[simp] theorem State.addResults_cp (s : State) (l : List DoorResult) (p : PortId) :
    (s.addResults l).cp p = s.cp p := by
  simp [State.cp]

@[simp] theorem State.addResults_lr (s : State) (l : List DoorResult) (p : PortId) :
    (s.addResults l).lr p = s.lr p := by
  simp [State.lr]

@[simp] theorem State.addResults_nm (s : State) (l : List DoorResult) (p : PortId) :
    (s.addResults l).nm p = s.nm p := by
  simp [State.nm]

@[simp] theorem State.endHead_sys (s : State) (e : Ending) (r : Option (Nat × Nat)) (a : Option PosSet) :
    (s.endHead e r a).sys = s.sys := by
  unfold State.endHead; split <;> simp

@[simp] theorem State.endHead_cc (s : State) (e : Ending) (r : Option (Nat × Nat)) (a : Option PosSet) :
    (s.endHead e r a).cc = s.cc := by
  unfold State.endHead; split <;> simp

@[simp] theorem State.endHead_se (s : State) (e : Ending) (r : Option (Nat × Nat)) (a : Option PosSet) :
    (s.endHead e r a).se = s.se := by
  unfold State.endHead; split <;> simp

@[simp] theorem State.endHead_ha (s : State) (e : Ending) (r : Option (Nat × Nat)) (a : Option PosSet) :
    (s.endHead e r a).ha = s.ha := by
  unfold State.endHead; split <;> simp

@[simp] theorem State.endHead_pending (s : State) (e : Ending) (r : Option (Nat × Nat)) (a : Option PosSet) :
    (s.endHead e r a).pending = s.pending := by
  unfold State.endHead; split <;> simp

@[simp] theorem State.endHead_port (s : State) (e : Ending) (r : Option (Nat × Nat)) (a : Option PosSet) (p : PortId) :
    (s.endHead e r a).port p = s.port p := by
  unfold State.endHead; split <;> simp

@[simp] theorem State.endHead_cp (s : State) (e : Ending) (r : Option (Nat × Nat)) (a : Option PosSet) (p : PortId) :
    (s.endHead e r a).cp p = s.cp p := by
  simp [State.cp]

@[simp] theorem State.endHead_lr (s : State) (e : Ending) (r : Option (Nat × Nat)) (a : Option PosSet) (p : PortId) :
    (s.endHead e r a).lr p = s.lr p := by
  simp [State.lr]

@[simp] theorem State.endHead_nm (s : State) (e : Ending) (r : Option (Nat × Nat)) (a : Option PosSet) (p : PortId) :
    (s.endHead e r a).nm p = s.nm p := by
  simp [State.nm]

@[simp] theorem State.dispatchPrepare_sys (s : State) (c : DoorCmd) (n : Nat) :
    (s.dispatchPrepare c n).sys = s.sys := by
  unfold State.dispatchPrepare; cases c.action <;> by_cases h : n = 1 <;> simp [h]

@[simp] theorem State.dispatchPrepare_cc (s : State) (c : DoorCmd) (n : Nat) :
    (s.dispatchPrepare c n).cc = s.cc := by
  unfold State.dispatchPrepare; cases c.action <;> by_cases h : n = 1 <;> simp [h]

@[simp] theorem State.dispatchPrepare_se (s : State) (c : DoorCmd) (n : Nat) :
    (s.dispatchPrepare c n).se = s.se := by
  unfold State.dispatchPrepare; cases c.action <;> by_cases h : n = 1 <;> simp [h]

@[simp] theorem State.dispatchPrepare_ha (s : State) (c : DoorCmd) (n : Nat) :
    (s.dispatchPrepare c n).ha = s.ha := by
  unfold State.dispatchPrepare; cases c.action <;> by_cases h : n = 1 <;> simp [h]

@[simp] theorem State.dispatchPrepare_pending (s : State) (c : DoorCmd) (n : Nat) :
    (s.dispatchPrepare c n).pending = s.pending := by
  unfold State.dispatchPrepare; cases c.action <;> by_cases h : n = 1 <;> simp [h]

@[simp] theorem State.dispatchPrepare_port (s : State) (c : DoorCmd) (n : Nat) (p : PortId) :
    (s.dispatchPrepare c n).port p = s.port p := by
  unfold State.dispatchPrepare; cases c.action <;> by_cases h : n = 1 <;> simp [h]

@[simp] theorem State.dispatchPrepare_cp (s : State) (c : DoorCmd) (n : Nat) (p : PortId) :
    (s.dispatchPrepare c n).cp p = s.cp p := by
  simp [State.cp]

@[simp] theorem State.dispatchPrepare_lr (s : State) (c : DoorCmd) (n : Nat) (p : PortId) :
    (s.dispatchPrepare c n).lr p = s.lr p := by
  simp [State.lr]

@[simp] theorem State.dispatchPrepare_nm (s : State) (c : DoorCmd) (n : Nat) (p : PortId) :
    (s.dispatchPrepare c n).nm p = s.nm p := by
  simp [State.nm]

@[simp] theorem State.abortDoors_sys (s : State) :
    (s.abortDoors).sys = s.sys := by simp [State.abortDoors]

@[simp] theorem State.abortDoors_cc (s : State) :
    (s.abortDoors).cc = s.cc := by simp [State.abortDoors]

@[simp] theorem State.abortDoors_se (s : State) :
    (s.abortDoors).se = s.se := by simp [State.abortDoors]

@[simp] theorem State.abortDoors_ha (s : State) :
    (s.abortDoors).ha = s.ha := by simp [State.abortDoors]

@[simp] theorem State.abortDoors_pending (s : State) :
    (s.abortDoors).pending = s.pending := by simp [State.abortDoors]

@[simp] theorem State.abortDoors_port (s : State) (p : PortId) :
    (s.abortDoors).port p = s.port p := by simp [State.abortDoors]

@[simp] theorem State.abortDoors_cp (s : State) (p : PortId) :
    (s.abortDoors).cp p = s.cp p := by
  simp [State.cp]

@[simp] theorem State.abortDoors_lr (s : State) (p : PortId) :
    (s.abortDoors).lr p = s.lr p := by
  simp [State.lr]

@[simp] theorem State.abortDoors_nm (s : State) (p : PortId) :
    (s.abortDoors).nm p = s.nm p := by
  simp [State.nm]

@[simp] theorem State.decideTrainClosed_sys (s : State) (l : List SummaryFlags) :
    (s.decideTrainClosed l).sys = s.sys := by simp [State.decideTrainClosed]

@[simp] theorem State.decideTrainClosed_cc (s : State) (l : List SummaryFlags) :
    (s.decideTrainClosed l).cc = s.cc := by simp [State.decideTrainClosed]

@[simp] theorem State.decideTrainClosed_se (s : State) (l : List SummaryFlags) :
    (s.decideTrainClosed l).se = s.se := by simp [State.decideTrainClosed]

@[simp] theorem State.decideTrainClosed_ha (s : State) (l : List SummaryFlags) :
    (s.decideTrainClosed l).ha = s.ha := by simp [State.decideTrainClosed]

@[simp] theorem State.decideTrainClosed_pending (s : State) (l : List SummaryFlags) :
    (s.decideTrainClosed l).pending = s.pending := by simp [State.decideTrainClosed]

@[simp] theorem State.decideTrainClosed_port (s : State) (l : List SummaryFlags) (p : PortId) :
    (s.decideTrainClosed l).port p = s.port p := by simp [State.decideTrainClosed]

@[simp] theorem State.decideTrainClosed_cp (s : State) (l : List SummaryFlags) (p : PortId) :
    (s.decideTrainClosed l).cp p = s.cp p := by
  simp [State.cp]

@[simp] theorem State.decideTrainClosed_lr (s : State) (l : List SummaryFlags) (p : PortId) :
    (s.decideTrainClosed l).lr p = s.lr p := by
  simp [State.lr]

@[simp] theorem State.decideTrainClosed_nm (s : State) (l : List SummaryFlags) (p : PortId) :
    (s.decideTrainClosed l).nm p = s.nm p := by
  simp [State.nm]

@[simp] theorem State.loseClosedProof_sys (s : State) :
    (s.loseClosedProof).sys = s.sys := by simp [State.loseClosedProof]

@[simp] theorem State.loseClosedProof_cc (s : State) :
    (s.loseClosedProof).cc = s.cc := by simp [State.loseClosedProof]

@[simp] theorem State.loseClosedProof_se (s : State) :
    (s.loseClosedProof).se = s.se := by simp [State.loseClosedProof]

@[simp] theorem State.loseClosedProof_ha (s : State) :
    (s.loseClosedProof).ha = s.ha := by simp [State.loseClosedProof]

@[simp] theorem State.loseClosedProof_pending (s : State) :
    (s.loseClosedProof).pending = s.pending := by simp [State.loseClosedProof]

@[simp] theorem State.loseClosedProof_port (s : State) (p : PortId) :
    (s.loseClosedProof).port p = s.port p := by simp [State.loseClosedProof]

@[simp] theorem State.loseClosedProof_cp (s : State) (p : PortId) :
    (s.loseClosedProof).cp p = s.cp p := by
  simp [State.cp]

@[simp] theorem State.loseClosedProof_lr (s : State) (p : PortId) :
    (s.loseClosedProof).lr p = s.lr p := by
  simp [State.lr]

@[simp] theorem State.loseClosedProof_nm (s : State) (p : PortId) :
    (s.loseClosedProof).nm p = s.nm p := by
  simp [State.nm]

@[simp] theorem State.setHeld_sys (s : State) (v : Nat) :
    (s.setHeld v).sys = s.sys := by simp [State.setHeld]

@[simp] theorem State.setHeld_cc (s : State) (v : Nat) :
    (s.setHeld v).cc = s.cc := by simp [State.setHeld]

@[simp] theorem State.setHeld_se (s : State) (v : Nat) :
    (s.setHeld v).se = s.se := by simp [State.setHeld]

@[simp] theorem State.setHeld_dcu (s : State) (v : Nat) :
    (s.setHeld v).dcu = s.dcu := by simp [State.setHeld]

@[simp] theorem State.setHeld_pending (s : State) (v : Nat) :
    (s.setHeld v).pending = s.pending := by simp [State.setHeld]

@[simp] theorem State.setHeld_port (s : State) (v : Nat) (p : PortId) :
    (s.setHeld v).port p = s.port p := by simp [State.setHeld]

@[simp] theorem State.setHeld_cp (s : State) (v : Nat) (p : PortId) :
    (s.setHeld v).cp p = s.cp p := by
  simp [State.cp]

@[simp] theorem State.setHeld_lr (s : State) (v : Nat) (p : PortId) :
    (s.setHeld v).lr p = s.lr p := by
  simp [State.lr]

@[simp] theorem State.setHeld_nm (s : State) (v : Nat) (p : PortId) :
    (s.setHeld v).nm p = s.nm p := by
  simp [State.nm]

@[simp] theorem State.takeGrant_sys (s : State) (v g : Nat) (c : GrantCause) (k : Option Nat) :
    (s.takeGrant v g c k).sys = s.sys := by simp [State.takeGrant]

@[simp] theorem State.takeGrant_cc (s : State) (v g : Nat) (c : GrantCause) (k : Option Nat) :
    (s.takeGrant v g c k).cc = s.cc := by simp [State.takeGrant]

@[simp] theorem State.takeGrant_se (s : State) (v g : Nat) (c : GrantCause) (k : Option Nat) :
    (s.takeGrant v g c k).se = s.se := by simp [State.takeGrant]

@[simp] theorem State.takeGrant_dcu (s : State) (v g : Nat) (c : GrantCause) (k : Option Nat) :
    (s.takeGrant v g c k).dcu = s.dcu := by simp [State.takeGrant]

@[simp] theorem State.takeGrant_pending (s : State) (v g : Nat) (c : GrantCause) (k : Option Nat) :
    (s.takeGrant v g c k).pending = s.pending := by simp [State.takeGrant]

@[simp] theorem State.takeGrant_port (s : State) (v g : Nat) (c : GrantCause) (k : Option Nat) (p : PortId) :
    (s.takeGrant v g c k).port p = s.port p := by simp [State.takeGrant]

@[simp] theorem State.takeGrant_cp (s : State) (v g : Nat) (c : GrantCause) (k : Option Nat) (p : PortId) :
    (s.takeGrant v g c k).cp p = s.cp p := by
  simp [State.cp]

@[simp] theorem State.takeGrant_lr (s : State) (v g : Nat) (c : GrantCause) (k : Option Nat) (p : PortId) :
    (s.takeGrant v g c k).lr p = s.lr p := by
  simp [State.lr]

@[simp] theorem State.takeGrant_nm (s : State) (v g : Nat) (c : GrantCause) (k : Option Nat) (p : PortId) :
    (s.takeGrant v g c k).nm p = s.nm p := by
  simp [State.nm]

@[simp] theorem State.zeroGrants_sys (s : State) :
    (s.zeroGrants).sys = s.sys := by simp [State.zeroGrants]

@[simp] theorem State.zeroGrants_cc (s : State) :
    (s.zeroGrants).cc = s.cc := by simp [State.zeroGrants]

@[simp] theorem State.zeroGrants_se (s : State) :
    (s.zeroGrants).se = s.se := by simp [State.zeroGrants]

@[simp] theorem State.zeroGrants_dcu (s : State) :
    (s.zeroGrants).dcu = s.dcu := by simp [State.zeroGrants]

@[simp] theorem State.zeroGrants_hl (s : State) :
    (s.zeroGrants).hl = s.hl := by simp [State.zeroGrants]

@[simp] theorem State.zeroGrants_pending (s : State) :
    (s.zeroGrants).pending = s.pending := by simp [State.zeroGrants]

@[simp] theorem State.zeroGrants_port (s : State) (p : PortId) :
    (s.zeroGrants).port p = s.port p := by simp [State.zeroGrants]

@[simp] theorem State.zeroGrants_cp (s : State) (p : PortId) :
    (s.zeroGrants).cp p = s.cp p := by
  simp [State.cp]

@[simp] theorem State.zeroGrants_lr (s : State) (p : PortId) :
    (s.zeroGrants).lr p = s.lr p := by
  simp [State.lr]

@[simp] theorem State.zeroGrants_nm (s : State) (p : PortId) :
    (s.zeroGrants).nm p = s.nm p := by
  simp [State.nm]

@[simp] theorem State.heatingLeaves_sys (s : State) :
    (s.heatingLeaves).sys = s.sys := by
  unfold State.heatingLeaves; by_cases h : s.cc.claim.isSome = true <;> simp [h]

@[simp] theorem State.heatingLeaves_cc (s : State) :
    (s.heatingLeaves).cc = s.cc := by
  unfold State.heatingLeaves; by_cases h : s.cc.claim.isSome = true <;> simp [h]

@[simp] theorem State.heatingLeaves_se (s : State) :
    (s.heatingLeaves).se = s.se := by
  unfold State.heatingLeaves; by_cases h : s.cc.claim.isSome = true <;> simp [h]

@[simp] theorem State.heatingLeaves_dcu (s : State) :
    (s.heatingLeaves).dcu = s.dcu := by
  unfold State.heatingLeaves; by_cases h : s.cc.claim.isSome = true <;> simp [h]

@[simp] theorem State.heatingLeaves_pending (s : State) :
    (s.heatingLeaves).pending = s.pending := by
  unfold State.heatingLeaves; by_cases h : s.cc.claim.isSome = true <;> simp [h]

@[simp] theorem State.heatingLeaves_port (s : State) (p : PortId) :
    (s.heatingLeaves).port p = s.port p := by
  unfold State.heatingLeaves; by_cases h : s.cc.claim.isSome = true <;> simp [h]

@[simp] theorem State.heatingLeaves_cp (s : State) (p : PortId) :
    (s.heatingLeaves).cp p = s.cp p := by
  simp [State.cp]

@[simp] theorem State.heatingLeaves_lr (s : State) (p : PortId) :
    (s.heatingLeaves).lr p = s.lr p := by
  simp [State.lr]

@[simp] theorem State.heatingLeaves_nm (s : State) (p : PortId) :
    (s.heatingLeaves).nm p = s.nm p := by
  simp [State.nm]

@[simp] theorem State.issueGrant_sys (s : State) (c : GrantCause) (k : Option Nat) :
    (s.issueGrant c k).sys = s.sys := by
  unfold State.issueGrant; by_cases h : 1 < s.consistN <;> simp [h]

@[simp] theorem State.issueGrant_cc (s : State) (c : GrantCause) (k : Option Nat) :
    (s.issueGrant c k).cc = s.cc := by
  unfold State.issueGrant; by_cases h : 1 < s.consistN <;> simp [h]

@[simp] theorem State.issueGrant_se (s : State) (c : GrantCause) (k : Option Nat) :
    (s.issueGrant c k).se = s.se := by
  unfold State.issueGrant; by_cases h : 1 < s.consistN <;> simp [h]

@[simp] theorem State.issueGrant_dcu (s : State) (c : GrantCause) (k : Option Nat) :
    (s.issueGrant c k).dcu = s.dcu := by
  unfold State.issueGrant; by_cases h : 1 < s.consistN <;> simp [h]

@[simp] theorem State.issueGrant_pending (s : State) (c : GrantCause) (k : Option Nat) :
    (s.issueGrant c k).pending = s.pending := by
  unfold State.issueGrant; by_cases h : 1 < s.consistN <;> simp [h]

@[simp] theorem State.issueGrant_nm (s : State) (c : GrantCause) (k : Option Nat) (p : PortId) :
    (s.issueGrant c k).nm p = s.nm p := by
  unfold State.issueGrant; by_cases h : 1 < s.consistN <;> simp [h]

@[simp] theorem State.allocate_sys (s : State) (n : Nat) :
    (s.allocate n).sys = s.sys := by
  unfold State.allocate; by_cases h : s.ha.barred = true <;> simp [h]

@[simp] theorem State.allocate_cc (s : State) (n : Nat) :
    (s.allocate n).cc = s.cc := by
  unfold State.allocate; by_cases h : s.ha.barred = true <;> simp [h]

@[simp] theorem State.allocate_se (s : State) (n : Nat) :
    (s.allocate n).se = s.se := by
  unfold State.allocate; by_cases h : s.ha.barred = true <;> simp [h]

@[simp] theorem State.allocate_dcu (s : State) (n : Nat) :
    (s.allocate n).dcu = s.dcu := by
  unfold State.allocate; by_cases h : s.ha.barred = true <;> simp [h]

@[simp] theorem State.allocate_pending (s : State) (n : Nat) :
    (s.allocate n).pending = s.pending := by
  unfold State.allocate; by_cases h : s.ha.barred = true <;> simp [h]

@[simp] theorem State.allocate_nm (s : State) (n : Nat) (p : PortId) :
    (s.allocate n).nm p = s.nm p := by
  unfold State.allocate; by_cases h : s.ha.barred = true <;> simp [h]

@[simp] theorem State.sendDoor_sys (s : State) (c : DoorCmd) (a b : Nat) (e : PosSet) :
    (s.sendDoor c a b e).sys = s.sys := by simp [State.sendDoor]

@[simp] theorem State.sendDoor_cc (s : State) (c : DoorCmd) (a b : Nat) (e : PosSet) :
    (s.sendDoor c a b e).cc = s.cc := by simp [State.sendDoor]

@[simp] theorem State.sendDoor_se (s : State) (c : DoorCmd) (a b : Nat) (e : PosSet) :
    (s.sendDoor c a b e).se = s.se := by simp [State.sendDoor]

@[simp] theorem State.sendDoor_ha (s : State) (c : DoorCmd) (a b : Nat) (e : PosSet) :
    (s.sendDoor c a b e).ha = s.ha := by simp [State.sendDoor]

@[simp] theorem State.sendDoor_hl (s : State) (c : DoorCmd) (a b : Nat) (e : PosSet) :
    (s.sendDoor c a b e).hl = s.hl := by simp [State.sendDoor]

@[simp] theorem State.sendDoor_pending (s : State) (c : DoorCmd) (a b : Nat) (e : PosSet) :
    (s.sendDoor c a b e).pending = s.pending := by simp [State.sendDoor]

@[simp] theorem State.sendDoor_nm (s : State) (c : DoorCmd) (a b : Nat) (e : PosSet) (p : PortId) :
    (s.sendDoor c a b e).nm p = s.nm p := by simp [State.sendDoor]

@[simp] theorem State.dispatch_sys (n : Nat) (s : State) : (s.dispatch n).sys = s.sys := by
  induction n generalizing s with
  | zero => rfl
  | succ n ih =>
    unfold State.dispatch
    split
    · rfl
    · dsimp only
      split
      · simp [ih]
      · split <;> simp [ih]

@[simp] theorem State.dispatch_cc (n : Nat) (s : State) : (s.dispatch n).cc = s.cc := by
  induction n generalizing s with
  | zero => rfl
  | succ n ih =>
    unfold State.dispatch
    split
    · rfl
    · dsimp only
      split
      · simp [ih]
      · split <;> simp [ih]

@[simp] theorem State.dispatch_se (n : Nat) (s : State) : (s.dispatch n).se = s.se := by
  induction n generalizing s with
  | zero => rfl
  | succ n ih =>
    unfold State.dispatch
    split
    · rfl
    · dsimp only
      split
      · simp [ih]
      · split <;> simp [ih]

@[simp] theorem State.dispatch_ha (n : Nat) (s : State) : (s.dispatch n).ha = s.ha := by
  induction n generalizing s with
  | zero => rfl
  | succ n ih =>
    unfold State.dispatch
    split
    · rfl
    · dsimp only
      split
      · simp [ih]
      · split <;> simp [ih]

@[simp] theorem State.dispatch_pending (n : Nat) (s : State) : (s.dispatch n).pending = s.pending := by
  induction n generalizing s with
  | zero => rfl
  | succ n ih =>
    unfold State.dispatch
    split
    · rfl
    · dsimp only
      split
      · simp [ih]
      · split <;> simp [ih]

@[simp] theorem State.dispatch_nm (n : Nat) (s : State) (p : PortId) : (s.dispatch n).nm p = s.nm p := by
  induction n generalizing s with
  | zero => rfl
  | succ n ih =>
    unfold State.dispatch
    split
    · rfl
    · dsimp only
      split
      · simp [ih]
      · split <;> simp [ih]

@[simp] theorem State.leaveOperational_sys (s : State) (n : NodeState) (c : ExitCause) :
    (s.leaveOperational n c).sys = s.sys := by
  unfold State.leaveOperational; by_cases h : s.cc.claim.isSome = true <;> simp [h]

@[simp] theorem State.suspend_sys (s : State) (c : ExitCause) : (s.suspend c).sys = s.sys := by
  unfold State.suspend; split <;> simp

@[simp] theorem State.leaveOperational_pending (s : State) (n : NodeState) (c : ExitCause) :
    (s.leaveOperational n c).pending = s.pending := by
  unfold State.leaveOperational; by_cases h : s.cc.claim.isSome = true <;> simp [h]

@[simp] theorem State.suspend_pending (s : State) (c : ExitCause) : (s.suspend c).pending = s.pending := by
  unfold State.suspend; split <;> simp

@[simp] theorem State.leaveOperational_port (s : State) (n : NodeState) (c : ExitCause) (p : PortId) :
    (s.leaveOperational n c).port p = s.port p := by
  unfold State.leaveOperational; by_cases h : s.cc.claim.isSome = true <;> simp [h]

/-- The Consist Controller's part of a departure from OPERATIONAL (04 R66). -/
theorem State.leaveOperational_cc (s : State) (n : NodeState) (c : ExitCause) :
    (s.leaveOperational n c).cc = { s.cc with
      node := n, lastExit := c, silenceTimer := none, table := if n = .suspended then s.cc.table else Table.empty } := by
  unfold State.leaveOperational; by_cases h : s.cc.claim.isSome = true <;> simp [h]

@[simp] theorem State.suspend_port (s : State) (c : ExitCause) (p : PortId) : (s.suspend c).port p = s.port p := by
  unfold State.suspend; split <;> simp

/-- What suspending a node does to the Consist Controller: it acts in OPERATIONAL and PROVISIONAL only (04 R66). -/
theorem State.suspend_cc (s : State) (c : ExitCause) :
    (s.suspend c).cc = (match s.cc.node with
      | .operational => { s.cc with node := .suspended, lastExit := c, silenceTimer := none }
      | .provisional => { s.cc with node := .suspended, lastExit := c, confirmTimer := none }
      | _ => s.cc) := by
  unfold State.suspend
  cases hn : s.cc.node <;> simp [State.leaveOperational_cc]

@[simp] theorem State.emitCall_sys (s : State) (a b : Nat) : (s.emitCall a b).sys = s.sys := by
  unfold State.emitCall; split
  · split <;> simp
  · rfl

@[simp] theorem State.emitCall_cc (s : State) (a b : Nat) : (s.emitCall a b).cc = s.cc := by
  unfold State.emitCall; split
  · split <;> simp
  · rfl

@[simp] theorem State.emitCall_se (s : State) (a b : Nat) : (s.emitCall a b).se = s.se := by
  unfold State.emitCall; split
  · split <;> simp
  · rfl

@[simp] theorem State.emitCall_dcu (s : State) (a b : Nat) : (s.emitCall a b).dcu = s.dcu := by
  unfold State.emitCall; split
  · split <;> simp
  · rfl

@[simp] theorem State.emitCall_ha (s : State) (a b : Nat) : (s.emitCall a b).ha = s.ha := by
  unfold State.emitCall; split
  · split <;> simp
  · rfl

@[simp] theorem State.emitCall_hl (s : State) (a b : Nat) : (s.emitCall a b).hl = s.hl := by
  unfold State.emitCall; split
  · split <;> simp
  · rfl

@[simp] theorem State.emitCall_pending (s : State) (a b : Nat) : (s.emitCall a b).pending = s.pending := by
  unfold State.emitCall; split
  · split <;> simp
  · rfl

@[simp] theorem State.endClaim_sys (s : State) (c : LeadCause) : (s.endClaim c).sys = s.sys := by simp [State.endClaim]

@[simp] theorem State.endClaim_se (s : State) (c : LeadCause) : (s.endClaim c).se = s.se := by simp [State.endClaim]

@[simp] theorem State.endClaim_dcu (s : State) (c : LeadCause) : (s.endClaim c).dcu = s.dcu := by simp [State.endClaim]

@[simp] theorem State.endClaim_ha (s : State) (c : LeadCause) : (s.endClaim c).ha = s.ha := by simp [State.endClaim]

@[simp] theorem State.endClaim_pending (s : State) (c : LeadCause) : (s.endClaim c).pending = s.pending := by simp [State.endClaim]

/-! ### The allocation (08 R155, R156) -/

@[simp] theorem baseline_length (g d : List Nat) : (baseline g d).length = min g.length d.length := by simp [baseline]

@[simp] theorem shed_length (n : Nat) (l p o : List Nat) (c : Nat) : (shed n l p o c).length = l.length := by
  induction n generalizing l with
  | zero => rfl
  | succ n ih =>
    unfold shed
    split
    · rfl
    · split
      · rfl
      · simp [ih]

@[simp] theorem raiseVisit_length (d w : List Nat) (r : RaiseState) (p : Nat) :
    (raiseVisit d w r p).levels.length = r.levels.length := by unfold raiseVisit; split <;> simp

@[simp] theorem raiseStage_length (l d w o : List Nat) (c u : Nat) : (raiseStage l d w o c u).length = l.length := by
  unfold raiseStage
  generalize hr : ({ levels := l, h := c - totalPower l w, u } : RaiseState) = r
  have hl : r.levels.length = l.length := by rw [← hr]
  clear hr
  induction o generalizing r with
  | nil => simpa using hl
  | cons p o ih => simp only [List.foldl_cons]; exact ih _ (by simpa using hl)

@[simp] theorem grantTable_length (l : List Nat) : (grantTable l).length = 32 := by simp [grantTable]

/-- One visit of the raise stage (08 R156): a step given is paid from headroom and ramp, or nothing changes. -/
theorem raiseVisit_cases (d w : List Nat) (r : RaiseState) (p : Nat) :
    raiseVisit d w r p = r ∨
      (at1 r.levels p < at1 d p ∧ at1 w p ≤ r.h ∧ at1 w p ≤ r.u ∧ raiseVisit d w r p =
        { levels := r.levels.set (p - 1) (at1 r.levels p + 1), h := r.h - at1 w p, u := r.u - at1 w p }) := by
  unfold raiseVisit
  split
  · rename_i h; exact .inr ⟨h.1, h.2.1, h.2.2, rfl⟩
  · exact .inl rfl

end Sys2Proof.Machine
end

