-- ==== Sys2Proof/Laws/Host.lean ====
section
/-! SUPPORT. What the host transmitter's choice and the handling of a request can do (09 R170 to R172), and how a step reads
the queue of waiting commands. -/

namespace Sys2Proof.Machine

@[simp] theorem State.hostKick_sys (s : State) : s.hostKick.sys = s.sys := by
  unfold State.hostKick State.startNotice
  repeat' split
  all_goals rfl

@[simp] theorem State.hostKick_port1 (s : State) : s.hostKick.port1 = s.port1 := by
  unfold State.hostKick State.startNotice
  repeat' split
  all_goals rfl

@[simp] theorem State.hostKick_port2 (s : State) : s.hostKick.port2 = s.port2 := by
  unfold State.hostKick State.startNotice
  repeat' split
  all_goals rfl

@[simp] theorem State.hostKick_cc (s : State) : s.hostKick.cc = s.cc := by
  unfold State.hostKick State.startNotice
  repeat' split
  all_goals rfl

@[simp] theorem State.hostKick_se (s : State) : s.hostKick.se = s.se := by
  unfold State.hostKick State.startNotice
  repeat' split
  all_goals rfl

@[simp] theorem State.hostKick_dcu (s : State) : s.hostKick.dcu = s.dcu := by
  unfold State.hostKick State.startNotice
  repeat' split
  all_goals rfl

@[simp] theorem State.hostKick_ha (s : State) : s.hostKick.ha = s.ha := by
  unfold State.hostKick State.startNotice
  repeat' split
  all_goals rfl

@[simp] theorem State.hostKick_pending (s : State) : s.hostKick.pending = s.pending := by
  unfold State.hostKick State.startNotice
  repeat' split
  all_goals rfl

@[simp] theorem State.hostKick_hl_rateHigh (s : State) : s.hostKick.hl.rateHigh = s.hl.rateHigh := by
  unfold State.hostKick State.startNotice
  repeat' split
  all_goals rfl

@[simp] theorem State.hostKick_hl_assembler (s : State) : s.hostKick.hl.assembler = s.hl.assembler := by
  unfold State.hostKick State.startNotice
  repeat' split
  all_goals rfl

@[simp] theorem State.hostKick_hl_inFrame (s : State) : s.hostKick.hl.inFrame = s.hl.inFrame := by
  unfold State.hostKick State.startNotice
  repeat' split
  all_goals rfl

@[simp] theorem State.hostKick_hl_frameTimer (s : State) : s.hostKick.hl.frameTimer = s.hl.frameTimer := by
  unfold State.hostKick State.startNotice
  repeat' split
  all_goals rfl

@[simp] theorem State.hostKick_hl_slots (s : State) : s.hostKick.hl.slots = s.hl.slots := by
  unfold State.hostKick State.startNotice
  repeat' split
  all_goals rfl

@[simp] theorem State.hostKick_hl_replies (s : State) : s.hostKick.hl.replies = s.hl.replies := by
  unfold State.hostKick State.startNotice
  repeat' split
  all_goals rfl

@[simp] theorem State.hostKick_hl_refusal (s : State) : s.hostKick.hl.refusal = s.hl.refusal := by
  unfold State.hostKick State.startNotice
  repeat' split
  all_goals rfl

@[simp] theorem State.hostKick_hl_mask (s : State) : s.hostKick.hl.mask = s.hl.mask := by
  unfold State.hostKick State.startNotice
  repeat' split
  all_goals rfl

@[simp] theorem State.hostKick_hl_resetPending (s : State) : s.hostKick.hl.resetPending = s.hl.resetPending := by
  unfold State.hostKick State.startNotice
  repeat' split
  all_goals rfl

@[simp] theorem State.hostKick_hl_txHold (s : State) : s.hostKick.hl.txHold = s.hl.txHold := by
  unfold State.hostKick State.startNotice
  repeat' split
  all_goals rfl

@[simp] theorem State.hostKick_hl_frameTimeouts (s : State) : s.hostKick.hl.frameTimeouts = s.hl.frameTimeouts := by
  unfold State.hostKick State.startNotice
  repeat' split
  all_goals rfl

@[simp] theorem State.hostKick_hl_crcErrors (s : State) : s.hostKick.hl.crcErrors = s.hl.crcErrors := by
  unfold State.hostKick State.startNotice
  repeat' split
  all_goals rfl

@[simp] theorem State.hostKick_hl_charFraming (s : State) : s.hostKick.hl.charFraming = s.hl.charFraming := by
  unfold State.hostKick State.startNotice
  repeat' split
  all_goals rfl

@[simp] theorem State.hostKick_hl_overlength (s : State) : s.hostKick.hl.overlength = s.hl.overlength := by
  unfold State.hostKick State.startNotice
  repeat' split
  all_goals rfl

@[simp] theorem State.hostKick_hl_droppedReqs (s : State) : s.hostKick.hl.droppedReqs = s.hl.droppedReqs := by
  unfold State.hostKick State.startNotice
  repeat' split
  all_goals rfl

@[simp] theorem State.hostKick_portAt (s : State) (p : PortId) : s.hostKick.port p = s.port p := by
  cases p <;> simp [State.port]

@[simp] theorem State.hostKick_cpAt (s : State) (p : PortId) : s.hostKick.cp p = s.cp p := by
  cases p <;> simp [State.port, State.cp]

@[simp] theorem State.hostKick_lrAt (s : State) (p : PortId) : s.hostKick.lr p = s.lr p := by
  cases p <;> simp [State.port, State.lr]

@[simp] theorem State.hostKick_nmAt (s : State) (p : PortId) : s.hostKick.nm p = s.nm p := by
  cases p <;> simp [State.port, State.nm]

/-- A transmitter that is not idle chooses nothing. -/
theorem State.hostKick_of_busy {s : State} (h : s.hostTxIdle = false) : s.hostKick = s := by
  unfold State.hostKick; simp [h]

/-- A frame ends in the assembler where the receiver takes characters and is IN FRAME (09 R169). -/
theorem State.hostFraming_iff (s : State) : s.hostFraming = true ↔ s.hostListening = true ∧ s.hl.inFrame = true := by
  simp [State.hostFraming]

/-- A request that is not received, or whose bytes are hunted, changes nothing (log entry 8). -/
theorem State.request_deaf {s : State} (h : s.hostFraming = false) (k t : Nat) (pl : List Nat) (o : State → Answer) :
    s.request k t pl o = s := by unfold State.request; simp [h]

/-- A request that finds a slot free is handled (09 R170). -/
theorem State.request_free {s : State} (h : s.hostFraming = true) (hs : s.hl.slots.length < 4) (k t : Nat)
    (pl : List Nat) (o : State → Answer) :
    s.request k t pl o = (s.modHl HostLink.hunt).takeRequest k t pl o := by
  unfold State.request; simp [h, HostLink.hunt, hs]

/-- The kind and length checks passed, the owner answers (09 R171). -/
theorem State.answer_owner {s : State} {k n : Nat} {pl : List Nat} (hk : requestBytes k = some n) (hl : pl.length = n)
    (o : State → Answer) : s.answer k pl o = o s := by unfold State.answer; simp [hk, hl]

/-- A step takes the front of the queue. -/
theorem step_cons (c : Instr) (s : State) (rest : List Instr) :
    step { s with pending := c :: rest } = exec c { s with pending := rest } := rfl

end Sys2Proof.Machine
end

