-- ==== Sys2Proof/Laws/Port.lean ====
section
/-! SUPPORT. What the coupler port's operations can do (01 R6, R12, R18 to R22): entry to OPEN and leaving it, attempts, a pair's
change, and the delivery of a good frame on the preferred pair. -/

namespace Sys2Proof.Machine

/-! ### OPEN and alignment -/

/-- A cause of OPEN leaves a port that is in OPEN as it is (01 R6). -/
theorem State.portToOpen_of_open {s : State} {p : PortId} (h : (s.cp p).st = .open) (c : OpenCause) :
    s.portToOpen p c = s := by unfold State.portToOpen; simp [h]

/-- What leaving OPEN can do (01 R6). -/
theorem State.leaveOpen_cases (s : State) (p : PortId) :
    s.leaveOpen p = s ∨
    (s.thruHold = true ∧ (s.cp p).st = .open ∧ (s.cp p).loopMode ≠ .normal ∧ s.leaveOpen p = s.enterLoop p) ∨
    (s.thruHold = true ∧ (s.cp p).st = .open ∧ (s.cp p).loopMode = .normal ∧ (s.nm p).sense = true ∧
      s.leaveOpen p = s.alignAttempt p 0) := by
  unfold State.leaveOpen
  split
  · rename_i h
    split
    · rename_i hl; exact .inr (.inl ⟨h.1, h.2, hl, rfl⟩)
    · rename_i hl
      split
      · rename_i hs; exact .inr (.inr ⟨h.1, h.2, by simpa using hl, hs, rfl⟩)
      · exact .inl rfl
  · exact .inl rfl

/-- What one failure of an attempt can do (01 R12, R16, R7). -/
theorem State.failAttempt_cases (s : State) (p : PortId) :
    ((s.cp p).stepAttempt = true ∧
      s.failAttempt p = (s.modCp p fun c => { c with rateCapped := true, failCount := 0 }).beginAttempt p 0) ∨
    ((s.cp p).stepAttempt = false ∧ 2 ≤ (s.cp p).failCount ∧ s.failAttempt p = s.enterFaulted p) ∨
    ((s.cp p).stepAttempt = false ∧ (s.cp p).failCount < 2 ∧
      s.failAttempt p = (s.modCp p fun c => { c with failCount := c.failCount + 1 }).beginAttempt p 0) := by
  unfold State.failAttempt
  split
  · rename_i h; exact .inl ⟨h, rfl⟩
  · rename_i h
    split
    · rename_i h2; exact .inr (.inl ⟨by simpa using h, h2, rfl⟩)
    · rename_i h2; exact .inr (.inr ⟨by simpa using h, by omega, rfl⟩)

/-- An attempt with a pair that can scan goes on. -/
theorem State.failDead_of_live {s : State} {p : PortId} (h : (s.cp p).noneLive = false) (n : Nat) :
    s.failDead n p = s := by
  cases n with
  | zero => rfl
  | succ n => unfold State.failDead; simp [h]

@[simp] theorem State.beginAttempt_sys (s : State) (p : PortId) (r : Nat) : (s.beginAttempt p r).sys = s.sys := by
  simp [State.beginAttempt]

@[simp] theorem State.beginAttempt_cc (s : State) (p : PortId) (r : Nat) : (s.beginAttempt p r).cc = s.cc := by
  simp [State.beginAttempt]

@[simp] theorem State.beginAttempt_se (s : State) (p : PortId) (r : Nat) : (s.beginAttempt p r).se = s.se := by
  simp [State.beginAttempt]

@[simp] theorem State.beginAttempt_dcu (s : State) (p : PortId) (r : Nat) : (s.beginAttempt p r).dcu = s.dcu := by
  simp [State.beginAttempt]

@[simp] theorem State.beginAttempt_ha (s : State) (p : PortId) (r : Nat) : (s.beginAttempt p r).ha = s.ha := by
  simp [State.beginAttempt]

@[simp] theorem State.beginAttempt_lr (s : State) (p : PortId) (r : Nat) : (s.beginAttempt p r).lr p = s.lr p := by
  simp [State.beginAttempt]

@[simp] theorem State.beginAttempt_port_other (s : State) (p : PortId) (r : Nat) :
    (s.beginAttempt p r).port (other p) = s.port (other p) := by simp [State.beginAttempt]

/-! ### Pair health and delivery -/

/-- What a pair's change can do: PORT is raised with a change of health, and a change of the preferred pair delivers the held
copy (01 R18, R22). -/
theorem State.changePair_cases (s : State) (p : PortId) (q : PairId) (f : Pair → Pair) :
    ∃ b, s.changePair p q f = (s.modCp p fun c => c.modPair q f).raiseIf b .port ∨
      s.changePair p q f = ((s.modCp p fun c => c.modPair q f).raiseIf b .port).deliverHeld p := by
  unfold State.changePair
  dsimp only
  split
  · exact ⟨_, .inl rfl⟩
  · exact ⟨_, .inr rfl⟩

/-- Without a held copy, a pair's change delivers nothing. -/
theorem State.changePair_of_none {s : State} {p : PortId} {q : PairId} {f : Pair → Pair} (h : (s.cp p).held = none) :
    s.changePair p q f = (s.modCp p fun c => c.modPair q f).raiseIf
      (((s.cp p).pair q).degraded != (f ((s.cp p).pair q)).degraded) .port := by
  unfold State.changePair
  dsimp only
  split
  · simp
  · unfold State.deliverHeld; simp [h]

/-- A change of a coupler port depends only on the port as it stands. -/
theorem State.modCp_congr {s : State} {p : PortId} {f g : Coupler → Coupler} (h : f (s.cp p) = g (s.cp p)) :
    s.modCp p f = s.modCp p g := by
  unfold State.modCp
  exact congrArg (fun c => s.setPort p { s.port p with cp := c }) h

/-- Without a held copy, the last character of a frame only closes it (01 R2, R22). -/
theorem Coupler.frameTaken_of_none {c : Coupler} (h : c.held = none) (q : PairId) :
    c.frameTaken q = c.modPair q Pair.closeFrame := by simp [Coupler.frameTaken, Coupler.characterTaken, h]

/-- A good frame other than PATTERN that is delivered at once: the frame closes, it is delivered, and then the pair's health
changes (01 R18, R21; log entry 13). -/
theorem State.goodFrame_of_deliversNow {s : State} {p : PortId} {q : PairId} {seq : Nat} (h : deliversNow s p q seq)
    (f : Frame) :
    s.goodFrame p q seq f =
      ((((s.modCp p fun c => c.modPair q Pair.closeFrame).deliver p q seq f).changePair p q fun x => x.goodFrame
        (((((s.modCp p fun c => c.modPair q Pair.closeFrame).deliver p q seq f)).cp p).pair (otherPair q)).copies seq).modCp p
          fun c => c.pruneCopies q seq) := by
  obtain ⟨hc, hl, hq, hh, hn⟩ := h
  have hpref : ((s.cp p).modPair q Pair.closeFrame).preferred = (s.cp p).preferred := by
    cases q <;> simp [Coupler.preferred, Coupler.modPair, Pair.closeFrame]
  have hr : (s.modCp p fun c => c.modPair q Pair.closeFrame).receive p q seq f =
      (s.modCp p fun c => c.modPair q Pair.closeFrame).deliver p q seq f := by
    unfold State.receive State.receivePreferred State.deliverNew
    simp [hpref, ← hq, hh, hn]
  have hm : (s.modCp p fun c => c.frameTaken q) = s.modCp p fun c => c.modPair q Pair.closeFrame :=
    State.modCp_congr (Coupler.frameTaken_of_none hh q)
  unfold State.goodFrame
  rw [hm]
  have hf : s.framing p q = true := by simp [State.framing, Coupler.framing, hc, hl]
  simp only [hf, if_true, hl, hr]

/-! ### A good frame's charge (01 R18, R19) -/

/-- What a good frame other than PATTERN makes of its pair: score, last good sequence, count of bad frames, silence timer. -/
theorem Pair.goodFrame_fields (x : Pair) (copies : List Nat) (t : Nat) :
    (x.goodFrame copies t).score = min 15 (x.score + 4 * x.missed copies t) - 1 ∧
    (x.goodFrame copies t).lastGood = some t ∧ (x.goodFrame copies t).badSince = 0 ∧
    (x.goodFrame copies t).silence = some 0 ∧ (x.goodFrame copies t).deliveredSince = false ∧
    (x.goodFrame copies t).inFrame = x.inFrame ∧ (x.goodFrame copies t).copies = x.copies := by
  simp [Pair.goodFrame, Pair.charge, Pair.goodScore, Pair.withScore, Pair.restartSilence]

/-- In ALIGNING a good frame other than PATTERN on an ALIGNED pair is discarded and counted (01 R13). -/
theorem State.goodFrame_of_aligning {s : State} {p : PortId} {q : PairId} (hf : s.framing p q = true)
    (ha : (s.cp p).st = .aligning) (seq : Nat) (f : Frame) :
    s.goodFrame p q seq f = (s.modCp p fun c => c.frameTaken q).modCp p
      fun c => { c with aligningDiscards := inc16 c.aligningDiscards } := by
  simp [State.goodFrame, hf, ha]

/-! ### Rate decision, PATTERN frames, release and start-up -/

/-- What the rate decision can do (01 R14, R16). -/
theorem Coupler.rateDecision_cases (c : Coupler) (farMax : Nat) :
    c.rateDecision farMax = c ∨
    (c.rateSettled = false ∧ c.rate = 0 ∧ c.rate < min c.advertised farMax ∧
      c.rateDecision farMax = { c with step := .pending (min c.advertised farMax) }) ∨
    (c.rateSettled = false ∧ c.rateDecision farMax = { c with rateSettled := true }) := by
  unfold Coupler.rateDecision
  split
  · rename_i h
    split
    · rename_i hr
      exact .inr (.inl ⟨h.2.2, by simpa [Coupler.stepped] using hr.1, hr.2, rfl⟩)
    · exact .inr (.inr ⟨h.2.2, rfl⟩)
  · exact .inl rfl

/-- A pair that does not frame takes no PATTERN frame (01 R2). -/
theorem State.goodPattern_deaf {s : State} {p : PortId} {q : PairId} (h : s.framing p q = false) (ready : Bool) (rate : Nat) :
    s.goodPattern p q ready rate = s := by simp [State.goodPattern, h]

/-- A looped PATTERN frame is a good one at a pair of a LOCAL LOOP port that has opened it (01 R25). -/
theorem State.loopBack_cases (s : State) (p : PortId) (q : PairId) (ready : Bool) (rate : Nat) :
    s.loopBack p q ready rate = s ∨
    ((s.cp p).localLoop = true ∧ ((s.cp p).pair q).inFrame = true ∧
      s.loopBack p q ready rate = s.goodPattern p q ready rate) := by
  unfold State.loopBack
  split
  · rename_i h
    exact .inr ⟨by simp_all, by simp_all, rfl⟩
  · exact .inl rfl

/-- What the release of a reset line can do (10 R181, R182). -/
theorem State.releaseLine_cases (s : State) (line : ResetLine) (r : Bool) :
    (s.sys.releases line = false ∧ s.releaseLine line r = s) ∨
    (s.sys.releases line = true ∧ { s with sys := s.sys.release line }.inReset = true ∧
      s.releaseLine line r = { s with sys := s.sys.release line }) ∨
    (s.sys.releases line = true ∧ { s with sys := s.sys.release line }.inReset = false ∧
      s.releaseLine line r = State.releaseReset { s with sys := s.sys.release line } r) := by
  unfold State.releaseLine
  split
  · rename_i h
    dsimp only
    split
    · rename_i hr; exact .inr (.inl ⟨h, hr, rfl⟩)
    · rename_i hr; exact .inr (.inr ⟨h, by simpa using hr, rfl⟩)
  · rename_i h; exact .inl ⟨by simpa using h, rfl⟩

/-- Short of its 20th tick, or with the Timebase at rest, the initialisation goes on (10 R182). -/
theorem State.startupEnd_early {s : State} (h : s.expires s.sys.init 20 = false) : s.startupEnd = s := by
  simp [State.startupEnd, h]

end Sys2Proof.Machine
end

