-- ==== Sys2Proof/Tests/Slice0.lean ====
section
/-! SUPPORT. Tests: the checks of WellFormed, the worked examples of the manual (each test names its source), one step for the
commands, and a witness for the hypotheses of every obligation that has some. -/

open Sys2Proof Sys2Proof.Machine

set_option maxRecDepth 8000

/-! ### Small states -/

/-- What holds of the next state of a command. -/
def after (c : Instr) (s : State) (f : State → Bool) : Bool :=
  match exec c s with
  | .next t => f t
  | .fault _ => false
  | .refused _ => false

/-- The part runs: the power-on reset is released, the initialisation is over, and a frame of the host is being received. -/
def up : State :=
  { State.reset with
    sys := { Sys.reset with porAsserted := false },
    hl := { HostLink.reset with assembler := some [0xA5], frameTimer := some 0 } }

/-- Port p is LINKED with both pairs in service. -/
def linkUp (s : State) (p : PortId) : State :=
  s.modCp p fun c => { c.bothPairs fun x => { x with st := .inService, silence := some 0 } with st := .linked }

/-- Port p is ALIGNING with both pairs scanning. -/
def aligning (p : PortId) : State :=
  up.modCp p fun c => { c.bothPairs fun x => { x with st := .scanning } with st := .aligning, attemptTimer := some 0 }

/-- A neighbour with a serial is PRESENT at port p. -/
def meet (s : State) (p : PortId) (serial : Serial) : State :=
  s.modNm p fun n => { n with
    status := .present, sense := true,
    record := some { serial, farPort := other p, farNode := .operational, farLead := false, farGen := 7 } }

/-- An entry with the default coach record's values. -/
def entry (serial : Serial) (position : Nat) (lead : Bool) : Entry :=
  { serial, position, orientation := .forward, cls := 0, leaves1 := 2, leaves2 := 2, stepPower := 8, lead }

def ownSerial : Serial := 0x00104A21

/-- Both ports run, with neighbours. -/
def between : State := meet (meet (linkUp (linkUp up .p1) .p2) .p1 5) .p2 6

/-- An OPERATIONAL leader of generation 7 with two coaches; its cab end is end 1. -/
def leader : State :=
  { meet (linkUp up .p2) .p2 6 with
    cc := { Consist.reset with
      node := .operational, claim := some .p1, gen := 7, position := some 1, orientation := some .forward, front := some .p1,
      table := { gen := 7, reason := .none, entries := [entry ownSerial 1 true, entry 6 2 false] } } }

/-- The leader in its first walk attempt, with records of both positions. -/
def walker : State :=
  { leader with
    cc := { leader.cc with
      node := .provisional, walk := .walkFirst, walkTimer := some 0, table := Table.empty,
      records := [entry ownSerial 1 true, entry 6 2 false] } }

/-- An OPERATIONAL member at position 2 of three, its front at port 1. -/
def member : State :=
  { between with
    cc := { Consist.reset with
      node := .operational, gen := 7, position := some 2, orientation := some .forward, front := some .p1,
      table := { gen := 7, reason := .none, entries := [entry 5 1 true, entry ownSerial 2 false, entry 6 3 false] } } }

/-- The member before its CONFIRM. -/
def waiting : State :=
  { member with cc := { member.cc with node := .provisional, table := Table.empty, confirmTimer := some 0 } }

/-- A leader alone: a consist of one, with no neighbour behind it. -/
def alone : State :=
  { up with cc := { leader.cc with table := { gen := 7, reason := .none, entries := [entry ownSerial 1 true] } } }

/-- A leader's door command. -/
def doorCmd (id : Nat) (action : Action) (side : TrainSide) (window : Nat) : DoorCmd :=
  { id, action, side, window, automatic := false }

/-- Some frames of each class. -/
def nodeFrame (n : Nat) : Frame := { gen := 7, body := .node (plainEntry (entry (BitVec.ofNat 32 (100 + n)) n false)) }
def tailFrame (n : Nat) : Frame := { gen := 7, body := .tail 0 n 9 }
def callFrame : Frame := { gen := 7, body := .call 9 3 2 0 }
def beatBody : BeatBody := { serial := 6, port := 1, node := 2, lead := false, maxRate := 0, rate := 0 }
def beatFrame : Frame := { gen := 7, body := .beat beatBody }
def sweepFrame : Frame := { gen := 7, body := .sweep 0 0 3 [0x40] }
def grantFrame : Frame := { gen := 7, body := .grant 0 0 3 [1, 1, 1] }

/-! ### WellFormed refuses an ill-formed command at each of its checks -/

theorem test_ill_leaf_zero : ¬ WellFormed (.leafInputChange 0 true) := by decide
theorem test_ill_leaf_nine : ¬ WellFormed (.leafDebounce 9) := by decide
theorem test_ill_pattern_rate : ¬ WellFormed (.pattern .p1 .a true 256) := by decide
theorem test_ill_header_seq : ¬ WellFormed (.walk .p1 .a 256 7 5 2) := by decide
theorem test_ill_header_gen : ¬ WellFormed (.clash .p1 .a 0 256 5 6) := by decide
theorem test_ill_raw_payload : ¬ WellFormed (.malformedFrame .p1 .a 0 0 14 0 (List.replicate 301 0)) := by decide
theorem test_ill_raw_byte : ¬ WellFormed (.malformedFrame .p1 .a 0 0 14 0 [256]) := by decide
theorem test_ill_raw_kind : ¬ WellFormed (.malformedFrame .p1 .a 0 0 256 0 []) := by decide
theorem test_ill_beat_field : ¬ WellFormed (.beat .p1 .a 0 0 { beatBody with node := 256 }) := by decide
theorem test_ill_walk_next : ¬ WellFormed (.walk .p1 .a 0 7 5 256) := by decide
theorem test_ill_entry_class : ¬ WellFormed (.node .p1 .a 0 7 (plainEntry { entry 5 1 true with cls := 16 })) := by decide
theorem test_ill_node_spare : ¬ WellFormed (.node .p1 .a 0 7 { entry := entry 5 1 true, spare := 4 }) := by decide
theorem test_ill_tail_last : ¬ WellFormed (.tail .p1 .a 0 7 0 256 5) := by decide
theorem test_ill_tail_flags : ¬ WellFormed (.tail .p1 .a 0 7 256 2 5) := by decide
theorem test_ill_call_cause : ¬ WellFormed (.call .p1 .a 0 7 5 1 256 0) := by decide
theorem test_ill_confirm_empty : ¬ WellFormed (.confirm .p1 .a 0 7 1 0 []) := by decide
theorem test_ill_confirm_long :
    ¬ WellFormed (.confirm .p1 .a 0 7 33 0 (List.replicate 33 (plainEntry (entry 5 1 true)))) := by decide
theorem test_ill_sweep_empty : ¬ WellFormed (.sweep .p1 .a 0 7 0 0 1 []) := by decide
theorem test_ill_return_long : ¬ WellFormed (.sweepReturn .p1 .a 0 7 0 0 1 (List.replicate 193 0)) := by decide
theorem test_ill_sweep_flags : ¬ WellFormed (.sweep .p1 .a 0 7 0 256 1 [0x40]) := by decide
theorem test_ill_return_flags : ¬ WellFormed (.sweepReturn .p1 .a 0 7 0 256 1 [0x40]) := by decide
theorem test_ill_door_id : ¬ WellFormed (.door .p1 .a 0 7 256 0 0 1 1) := by decide
theorem test_ill_echo_id : ¬ WellFormed (.echo .p1 .a 0 7 256 0) := by decide
theorem test_ill_grant_long : ¬ WellFormed (.grant .p1 .a 0 7 0 0 32 (List.replicate 33 0)) := by decide
theorem test_ill_request_tag : ¬ WellFormed (.softReset 256 []) := by decide
theorem test_ill_request_payload : ¬ WellFormed (.getNode 0 (List.replicate 251 0)) := by decide
theorem test_ill_unknown_kind : ¬ WellFormed (.unknownRequest 0x17 0 []) := by decide
theorem test_ill_character : ¬ WellFormed (.pairCharacterTaken .p1 .a 256) := by decide
theorem test_well_formed_bounds :
    WellFormed (.leafInputChange 8 true) ∧ WellFormed (.unknownRequest 0x18 255 [255]) ∧
      WellFormed (.malformedFrame .p2 .b 255 255 255 255 []) := by decide

/-! ### Worked examples of the manual -/

/-- The passes of a pair at the positions of a list. -/
def passesAt (l : List Nat) : List Bool := (List.range 16).map fun i => decide (i ∈ l)

/-- 01 section 1.3, "Worked cases of the window computation", all six rows. -/
theorem test_window_rows :
    windowPhase (passesAt [14, 15, 0, 1, 2]) = some 0 ∧
    windowPhase (passesAt [2, 3, 4, 5, 9, 10, 11, 12]) = some 4 ∧
    windowPhase (passesAt [5, 6, 7, 8, 9, 10, 11]) = some 8 ∧
    windowPhase (passesAt (List.range 16)) = some 8 ∧
    windowPhase (passesAt [1, 2, 3, 7, 8, 9, 13, 14]) = none ∧
    windowPhase (passesAt [15, 0, 1, 2, 4, 5, 6, 7]) = some 6 := by decide

/-- 00 section 4.6: the check value over the nine characters 123456789. -/
theorem test_crc_check_value : crc16 [0x31, 0x32, 0x33, 0x34, 0x35, 0x36, 0x37, 0x38, 0x39] = 0x29B1#16 := by decide

/-- 11 section 11.2: the bytes of a TAIL, by hand from the tables. -/
theorem test_tail_bytes :
    ({ gen := 7, body := .tail 1 32 0x00104A21 : Frame }.wire 200).take 13 =
      [0x7E, 0x05, 0, 200, 7, 0, 6, 1, 32, 0x00, 0x10, 0x4A, 0x21] := by decide

/-- 07 section 7.3, "Worked resolutions". -/
theorem test_window_resolutions :
    resolveWindow ⟨.rear, 0, 3, true⟩ 8 = (6, 8) ∧ resolveWindow ⟨.front, 2, 4, true⟩ 8 = (3, 6) ∧
    resolveWindow ⟨.rear, 0, 3, true⟩ 12 = (10, 12) ∧ resolveWindow ⟨.front, 2, 6, true⟩ 5 = (3, 5) ∧
    resolveWindow ⟨.rear, 1, 8, true⟩ 5 = (1, 4) ∧ (resolveWindow ⟨.front, 4, 2, true⟩ 4).1 = 5 ∧
    (resolveWindow ⟨.front, 4, 2, true⟩ 4).2 = 4 ∧ resolveWindow ⟨.rear, 4, 2, true⟩ 4 = (1, 0) := by decide

/-- 08 section 8.4, "Worked allocation": the full run, the shed-only run, and the full run that gains nothing. -/
theorem test_allocation_rows :
    fullRun [2, 2, 1, 0] [3, 2, 4, 1] [8, 12, 8, 10] 3 60 20 = [2, 2, 2, 0] ∧
    shedRun [2, 2, 2, 0] [3, 2, 4, 1] [8, 12, 8, 10] 4 40 = [2, 1, 1, 0] ∧
    fullRun [2, 1, 1, 0] [3, 2, 4, 1] [8, 12, 8, 10] 4 40 20 = [2, 1, 1, 0] ∧
    nextRotation 3 4 = 4 ∧ nextRotation 4 4 = 1 := by decide

/-- 08 section 8.5, "Worked trip, hold-off and return": the runs at 5120 ms and 5320 ms. -/
theorem test_return_after_trip :
    fullRun [0, 0, 0, 0] [3, 2, 4, 1] [8, 12, 8, 10] 4 40 20 = [1, 0, 0, 1] ∧
    fullRun [1, 0, 0, 1] [3, 2, 4, 1] [8, 12, 8, 10] 1 40 20 = [2, 1, 0, 1] := by decide

/-- A queue of one frame, whose head has waited some milliseconds and improved its level at each multiple of 5 ms. -/
def headOf (f : Frame) (waited : Nat) : ClassQueue := { frames := [f], waited, aged := waited / 5 }

/-- 02 section 2.3, "Worked sequence of arbitration and aging": the choices at 6, 9, 11, 13 and 19 ms. -/
theorem test_arbitration_rows :
    { Relay.reset with control := headOf callFrame 3, door := headOf callFrame 4, grant := headOf grantFrame 6,
                       beat := headOf beatFrame 6 : Relay }.choice = some .control ∧
    { Relay.reset with door := headOf callFrame 7, grant := headOf grantFrame 9, sweep := headOf sweepFrame 2,
                       beat := headOf beatFrame 9 : Relay }.choice = some .door ∧
    { Relay.reset with grant := headOf grantFrame 11, sweep := headOf sweepFrame 4,
                       beat := headOf beatFrame 11 : Relay }.choice = some .grant ∧
    { Relay.reset with sweep := headOf sweepFrame 6, beat := headOf beatFrame 13 : Relay }.choice = some .sweep ∧
    { Relay.reset with beat := headOf beatFrame 19 : Relay }.choice = some .beat := by decide

/-- The CONTROL queue of 02 section 2.3, "Worked sequence of an overrun", at its start. -/
def fullControl : Relay :=
  { Relay.reset with control := { frames := [nodeFrame 3, nodeFrame 4, nodeFrame 5, nodeFrame 6], waited := 0, aged := 0 } }

/-- The same worked sequence: NODE 7 waits, the TAIL takes its place and is counted, then joins the queue's tail. -/
theorem test_overrun_rows :
    let r := (fullControl.enqueue .control (nodeFrame 7)).enqueue .control (tailFrame 7)
    r.control.frames = [nodeFrame 3, nodeFrame 4, nodeFrame 5, nodeFrame 6] ∧ r.slot = some (.control, tailFrame 7) ∧
    r.overrun = 1 ∧ r.flush.dropped = 5 ∧
    (r.takeHead .control).map (fun x => (x.1, x.2.control.frames, x.2.slot)) =
      some (nodeFrame 3, [nodeFrame 4, nodeFrame 5, nodeFrame 6, tailFrame 7], none) := by decide

/-- The queue of 07 section 7.7, "Worked standstill withdrawal". -/
def withdrawal : State :=
  { leader with
    dcu := { leader.dcu with
      standstill := true, lastId := 12,
      queue := [doorCmd 9 .release .left 1, doorCmd 10 .close .right 3, doorCmd 11 .release .left 4,
                doorCmd 12 .release .right 2],
      inFlight := some { first := 1, last := 2, expected := 3, applied := 1 }, echoTimer := some 0 } }

/-- The same worked example: 11 and 12 end ABORTED, 13 stands behind the command in flight. -/
theorem test_withdrawal_rows :
    after (.setStandstill 1 [1]) withdrawal fun t =>
      t.dcu.queue.map DoorCmd.id == [9, 13, 10] && t.dcu.queue.map DoorCmd.automatic == [false, true, false] &&
      t.dcu.results.map (fun r => (r.cmd.id, r.ending)) == [(11, .aborted), (12, .aborted)] && !t.dcu.standstill := by
  decide

/-- A record of the worked sweep of 06 section 6.6: OPERATIONAL and CLOSED, but for what is said. -/
def sweptAt (position demand : Nat) (quiet : Bool) : Record :=
  { position, operational := true, closed := quiet, relLeft := !quiet, relRight := false, boost := false, gap := false,
    degraded := false, demand, openLeft := if quiet then 0 else 1, openRight := 0, isoLeft := 0, isoRight := 0 }

/-- The list F sends: NIL, F2, NIL, F4, NIL-RUN 2. -/
def workedList : List Element :=
  [.nil, .full (sweptAt 2 3 false), .nil, .full (sweptAt 4 4 true), .nilRun 2]

/-- 06 section 6.6, "Worked sweep with compression": the merge, the sixteen bytes, what they cover. -/
theorem test_compressed_list :
    appendElement (workedList.take 4 ++ [.nil]) .nil = workedList ∧ (listBytes workedList).length = 16 ∧
    listCovers workedList = 6 ∧ decodeList (listBytes workedList) = some workedList ∧
    (coverFrom ((List.range 6).map fun i => some (sweptAt (i + 1) 3 true)) 6 1 workedList).map
      (fun l => l.map Record.demand) = some [3, 3, 3, 4, 3, 3] := by decide

/-- 08 section 8.5, "Worked lockout": trips at 0, 20 and 45 s leave three entries; a fourth would drop the oldest. -/
theorem test_trip_history :
    joinTrip (joinTrip (joinTrip [] 0) 20000) 45000 = [0, 20000, 45000] ∧
    joinTrip [0, 20000, 45000] 50000 = [20000, 45000, 50000] := by decide

/-- 04 R72: train-left is coach side 1 of a FORWARD coach and coach side 2 of a REVERSED one. -/
theorem test_sides_map :
    mapSides .forward .left = (true, false) ∧ mapSides .reversed .left = (false, true) ∧
    mapSides .forward .right = (false, true) ∧ mapSides .reversed .right = (true, false) ∧
    mapSides .reversed .both = (true, true) := by decide

/-- 04 R61: generation 255 is followed by 1, and none by 1. -/
theorem test_generation_wraps : nextGeneration 255 = 1 ∧ nextGeneration 0 = 1 ∧ nextGeneration 12 = 13 := by decide

/-- 01 R21: 1 to 127 after L is new, 0 and 128 to 255 are old, across the wrap. -/
theorem test_new_sequences :
    isNew none 0 = true ∧ isNew (some 250) 121 = true ∧ isNew (some 250) 122 = false ∧ isNew (some 250) 250 = false ∧
    isNew (some 0) 127 = true ∧ isNew (some 0) 128 = false := by decide

/-! ### One step of a command -/

/-- 10 R181, R182: right after reset the part stands still. -/
theorem test_reset_stands_still : step State.reset = .next State.reset := by rfl

/-- 10 R182: the release of the power-on reset starts the initialisation; at its end the part runs. -/
theorem test_release_starts_up :
    after (.resetRelease .power true) State.reset fun t =>
      t.sys.init == some 0 && t.hl.rateHigh && !t.running &&
      after .startupEnd { t with sys := { t.sys with init := some 20 } } fun u => u.running && u.thruHold && u.hl.txHold && u.hl.flagged .start := by decide

/-- 07 R121, R123: LEAF-1 closes; the change is debounced. -/
theorem test_leaf_closes :
    after (.leafInputChange 1 true) up fun t =>
      after (.leafDebounce 1)
        (t.modDcu fun d => { d with leaves := d.leaves.map fun l => { l with stab := l.stab.map (· + 20) } }) fun u => (u.dcu.leaves.getD 0 Leaf.reset).closed && !u.leafOpen 0 && u.leafOpen 1 := by
  decide

/-- 01 R9 to R11: the sixteenth pass aligns the pair at phase 8. -/
theorem test_sixteenth_repetition_aligns :
    after (.patternRepetition .p1 .a 0x55555555)
      ((aligning .p1).modCp .p1 fun c => { c with pairA := { c.pairA with passes := List.replicate 15 true } })
      fun t => (t.cp .p1).pairA.st == .aligned && (t.cp .p1).pairA.phase == 8 && (t.cp .p1).ready := by decide

/-- 01 R18: three bad frames in a row take a pair from 0 to 12, DEGRADED, and the other pair is preferred. -/
theorem test_third_bad_frame_degrades :
    after (.badFrame .p1 .a .crc)
      ((linkUp up .p1).modCp .p1 fun c => { c with pairA := { c.pairA with score := 8 } })
      fun t => (t.cp .p1).pairA.score == 12 && (t.cp .p1).pairA.degraded && (t.cp .p1).preferred == .b := by decide

/-- 04 R62, 05 R88: a WALK with next position 2 arrives on port 2 of a member: it is REVERSED and offers NODE, then WALK. -/
theorem test_walk_joins_reversed :
    after (.walk .p2 .a 0 8 6 2) member fun t =>
      t.cc.node == .provisional && t.cc.gen == 8 && t.cc.front == some .p2 && t.cc.orientation == some .reversed &&
      (match (t.lr .p1).tx with
        | some (.frame .control _ f _) => f == { gen := 8, body := .walk 6 3 }
        | _ => false) := by decide

/-- 05 R93, 06 R103: a TAIL that completes the records makes the leader OPERATIONAL with the first sweep out. -/
theorem test_tail_confirms :
    after (.tail .p2 .a 0 7 0 2 6) walker fun t =>
      t.cc.node == .operational && t.consistN == 2 && t.se.outstanding == some 0 && t.cc.walk == .idle := by decide

/-- The frame that a port's transmitter sends has these payload bytes. -/
def sends (t : State) (p : PortId) (payload : List Nat) : Bool :=
  match (t.lr p).tx with
  | some (.frame _ _ f _) => f.body.payload == payload
  | _ => false

/-- 02 R30, 05 R94, 06 R110: a relayed TAIL, a relayed NODE and a CONFIRM that is passed on leave with every bit they arrived with, those
without a name too, and so do the elements of a sweep's list but the one that a NIL merges with. -/
theorem test_relayed_payload_bits :
    after (.malformedFrame .p2 .a 0 7 0x05 0 [0x03, 2, 0, 0, 0, 9]) member (fun t => sends t .p1 [0x03, 2, 0, 0, 0, 9]) ∧
    after (.malformedFrame .p2 .a 0 7 0x04 0 [0, 0, 0, 9, 3, 0xD5, 0x22, 8]) member (fun t =>
      sends t .p1 [0, 0, 0, 9, 3, 0xD5, 0x22, 8]) ∧
    (let entries := member.cc.table.entries.map fun entry => { entry, spare := 3 };
      after (.confirm .p1 .a 0 7 3 0 entries) waiting fun t =>
        t.cc.table == member.cc.table && sends t .p2 (Body.confirm 3 0 entries).payload) ∧
    appendBytes [0x41, 0x8F, 2] [.nil, .nilRun 2] .nil = [0x41, 0x80, 3] := by decide

/-- 02 R40, and its worked sequence at 5 and 10 ms: a BEAT head that has waited 5 ms ages once, to level 3, and not again before 10 ms. -/
theorem test_aging_once_in_5_ms :
    let s (waited : Nat) : State := between.modLr .p1 fun r => { r with beat := { frames := [beatFrame], waited, aged := 0 } }
    (s 4).dueEvent = none ∧ (s 5).dueEvent = some (.headFrameAging .p1 .beat) ∧
    after (.headFrameAging .p1 .beat) (s 4) (fun t => headLevel .beat (t.lr .p1).beat.aged == 4) ∧
    after (.headFrameAging .p1 .beat) (s 5) fun t =>
      headLevel .beat (t.lr .p1).beat.aged == 3 && (t.lr .p1).beat.waited == 5 && t.dueEvent == none &&
      after (.headFrameAging .p1 .beat) t fun u => headLevel .beat (u.lr .p1).beat.aged == 3 := by decide

/-- 07 R132, R134: a DOOR for the left side at a FORWARD member, last position 2, is turned back marked with position 2. -/
theorem test_door_is_applied_and_echoed :
    after (.door .p1 .a 0 7 3 0 0 2 2) member fun t =>
      t.dcu.release1 && !t.dcu.release2 &&
      (match (t.lr .p1).tx with
        | some (.frame .door _ f _) => f == { gen := 7, body := .echo 3 2 }
        | _ => false) := by decide

/-- 08 R150, R147: a GRANT with 2 at position 2 raises HEAT-ENABLE. -/
theorem test_grant_is_taken :
    after (.grant .p1 .a 0 7 0 5 3 [0, 2, 1]) member fun t => t.ha.held == 2 && t.heatEnable := by decide

/-- 06 R106: the clamping of the sweep interval. -/
theorem test_sweep_interval_clamps :
    after (.setSweepInterval 1 [0, 49]) up (fun t => t.se.interval == 50) ∧
    after (.setSweepInterval 1 [3, 236]) up (fun t => t.se.interval == 1000) ∧
    after (.setSweepInterval 1 [0, 209]) up (fun t => t.se.interval == 200) := by decide

/-- 07 R128: a RELEASE without standstill is refused; the status code is NOT_STANDSTILL, 8 (11 R186). -/
theorem test_release_needs_standstill :
    after (.doorCommand 4 [0, 0, 0]) leader (fun t =>
      t.hl.replies.map (fun r => (r.kind, r.tag, statusCode r.status)) == [(0x09, 4, 8)] && t.dcu.queue == []) ∧
    after (.getNode 0 [0]) up (fun t => t.hl.replies.map (fun r => statusCode r.status) == [3]) := by decide

/-- 11 R185 with the first lists of 01 R4 and 07 R140: the port states, and standstill on and off. -/
theorem test_set_codes :
    [PortState.open, .faulted, .aligning, .linked, .loop].map portStateCode = [0, 1, 2, 3, 4] ∧
    standstillOfCode 0 = some true ∧ standstillOfCode 1 = some false ∧ standstillOfCode 2 = none := by decide

/-- 02 R43: a PATTERN frame in transmission counts as one frame cut. -/
theorem test_cut_pattern_is_dropped :
    { Relay.reset with tx := some (.pattern true 0) : Relay }.flush.dropped = 1 := by decide

/-- 01 R25: in LOCAL LOOP both pairs take the PATTERN frame that the port has sent. -/
theorem test_local_loop_hears_itself :
    after (.patternTimer .p1)
      (up.modCp .p1 fun c => { c.bothPairs fun x => { x with st := .inService, score := 8 } with
        st := .loop, loopMode := .localLoop, patternTimer := some 1 })
      fun t => (t.cp .p1).pairA.inFrame && (t.cp .p1).pairB.inFrame &&
        after (.transmitEnd .p1) t fun u => (u.cp .p1).pairA.score == 7 && (u.cp .p1).pairB.score == 7 := by decide

/-- 06 R113, 11 section 11.2: the node that turns a SWEEP back copies its flags byte into the RETURN unchanged. -/
theorem test_return_copies_the_flags :
    after (.sweep .p1 .a 0 7 0 0x83 2 [0x40]) member fun t =>
      match (t.lr .p1).tx with
      | some (.frame .sweep _ f _) => match f.body with
        | .ret number flags n _ => number == 0 && flags == 0x83 && n == 2
        | _ => false
      | _ => false := by decide

/-! ### Witnesses: states and operands that meet the hypotheses of the obligations -/

/-- The host transmitter sends the reply to a Soft Reset. -/
def resetting : State :=
  { up with
    hl := { up.hl with
      slots := [{ kind := 0x17, tag := 1, payload := [] }],
      replies := [{ kind := 0x17, tag := 1, status := .ok, fields := [] }], tx := some .reply, resetPending := true } }

/-- Four requests hold the slots. -/
def busy : State :=
  { up with
    hl := { up.hl with
      slots := List.replicate 4 { kind := 0x07, tag := 1, payload := [] },
      replies := List.replicate 4 { kind := 0x07, tag := 1, status := .ok, fields := [] } } }

/-- O2 TimebaseTicksWhileRefclkRuns: each clause, at the last tick before an expiry and at the expiry, an expiry command that is not
due, one with REFCLK stopped, and heads that wait in two queues of a LINKED port. -/
theorem test_witness_timebase :
    up.running = true ∧ State.reset.pending = [] ∧ State.reset.ticking = false ∧ up.ticking = true ∧ up.dueEvent = none ∧
    { up with cc := { up.cc with settleTimer := some 99 } }.dueEvent = none ∧
    { up with cc := { up.cc with settleTimer := some 100 } }.dueEvent = some .settleTimerExpiry ∧
    (between.modLr .p1 fun r => { r with sweep := { frames := [sweepFrame], waited := 5, aged := 0 } }).dueEvent =
      some (.headFrameAging .p1 .sweep) ∧
    between.dueEvent = none ∧ (between.cp .p1).st = .linked ∧ (up.cp .p1).st ≠ .linked ∧
    (false, .settleTimerExpiry) ∈ { up with cc := { up.cc with settleTimer := some 99 } }.allDue ∧
    (let stopped : State := { up with
        sys := { up.sys with refclkStopped := true }, hl := { up.hl with frameTimer := some 20 } };
      (true, .frameTimerExpiry) ∈ stopped.allDue ∧ stopped.ticking = false) ∧
    (let q : State := between.modLr .p1 fun r => { r with control := headOf callFrame 4, beat := headOf beatFrame 4 };
      q.dueEvent = none ∧ (q.cp .p1).st = .linked ∧ ((q.lr .p1).queue .control).frames ≠ [] ∧
      ((q.lr .p1).queue .door).frames = []) := by decide

/-- O3 OutputPinsFollowTheirConditions: both cases. -/
theorem test_witness_pins : State.reset.running = false ∧ leader.running = true := by decide

/-- O4 ResetsRestoreEveryBlockAndReleaseStartsUp: two resets, the last one, a line that is not asserted, and REFCLK stopped. -/
theorem test_witness_resets :
    let two : Sys := { Sys.reset with pinAsserted := true }
    let still : Sys := { Sys.reset with refclkStopped := true }
    two.porAsserted = true ∧ two.pinAsserted = true ∧ two.releases .power = true ∧ two.releases .pin = true ∧
    Sys.reset.releases .pin = false ∧ still.porAsserted = true ∧ still.releases .power = false ∧ Sys.reset.releases .power = true ∧
    (Sys.reset.release .power).porAsserted = false ∧ (Sys.reset.release .power).pinAsserted = false := by decide

/-- O5 StartupEndOpensThePart: with a neighbour at one port and loop mode LOCAL LOOP at the other. -/
theorem test_witness_startup :
    let s : State := ({ up with sys := { up.sys with init := some 20 } }.modNm .p1 fun n => { n with sense := true }).modCp .p2
      fun c => { c with loopMode := .localLoop }
    s.ticking = true ∧ timerDue s.sys.init 20 = true ∧ s.cc.node ≠ .isolated ∧ s.hl.masked .start = true ∧
    (s.cp .p1).st = .open ∧ (s.cp .p1).pairA.brk = false ∧ (s.cp .p1).pairB.brk = false ∧
    (s.cp .p2).st = .open ∧ (s.cp .p2).pairA.brk = false ∧ (s.cp .p2).pairB.brk = false := by decide

/-- O6 SoftResetFollowsItsReply. -/
theorem test_witness_soft_reset :
    resetting.hostSending = true ∧ resetting.hl.endsInReset = true ∧ resetting.hl.masked .start = true := by decide

/-- O7 HostTransmitterServesInOrder: each end and each choice. -/
theorem test_witness_transmitter :
    let ending (x : HostTx) : State := { up with hl := { busy.hl with tx := some x } }
    (ending .busy).running = true ∧ (ending .busy).clocked = true ∧ (ending .busy).hl.endsInReset = false ∧
    (ending .reply).hl.endsInReset = false ∧ (ending (.notice .lead [1])).hl.endsInReset = false ∧
    (ending .reply).hostTxIdle = false ∧ busy.hostTxIdle = true ∧ busy.hl.replies ≠ [] ∧ busy.hl.refusal = none ∧
    { busy with hl := { busy.hl with refusal := some { kind := 1, tag := 1, status := .busy, fields := [] } } }.hostTxIdle = true ∧
    up.hl.nextNotice = none ∧ up.hl.replies = [] ∧ (up.raise .start).hl.nextNotice = some .start ∧
    (up.raise .start).hostTxIdle = true ∧ (up.raise .start).hl.resetPending = false := by decide

/-- O8 CouplerSenseDebouncesAndActs: no change, a change, and each expiry. -/
theorem test_witness_coupler_sense :
    let gone : State := between.modNm .p1 fun n => { n with raw := false, sense := true, stab := some 50 }
    let come : State := up.modNm .p1 fun n => { n with raw := true, sense := false, stab := some 50 }
    let same : State := up.modNm .p1 fun n => { n with stab := some 50 }
    (up.nm .p1).raw = false ∧ (up.nm .p1).raw ≠ true ∧ same.ticking = true ∧ timerDue (same.nm .p1).stab 50 = true ∧ (same.nm .p1).raw = (same.nm .p1).sense ∧
    gone.ticking = true ∧ timerDue (gone.nm .p1).stab 50 = true ∧ (gone.nm .p1).raw = false ∧ (gone.nm .p1).sense = true ∧
    (gone.cp .p1).st ≠ .open ∧ timerDue (come.nm .p1).stab 50 = true ∧ (come.nm .p1).raw = true ∧ (come.nm .p1).sense = false ∧
    (come.cp .p1).st = .open ∧ (come.cp .p1).loopMode = .normal ∧ come.thruHold = true ∧
    (come.cp .p1).pairA.brk = false ∧ (come.cp .p1).pairB.brk = false := by decide

/-- O9 LeafInputsDebounceAndTimeOpenDoors: LEAF-8, changed and unchanged, and the open timer at its limit. -/
theorem test_witness_leaves :
    let l : Leaf := { raw := true, closed := false, stab := some 20 }
    let s : State := up.modDcu fun d => { d with leaves := d.leaves.set 7 l, openTimer := some 60000 }
    s.dcu.leaves.length = 8 ∧ s.dcu.leaves[7]? = some l ∧ s.dcu.leaves[0]? = some Leaf.reset ∧ s.ticking = true ∧
    timerDue l.stab 20 = true ∧ l.raw ≠ l.closed ∧ timerDue s.dcu.openTimer 60000 = true ∧ s.dcu.boost = false := by decide

/-- O10 ReceiverEventsCountOnTheirPair. -/
theorem test_witness_receiver :
    between.framing .p1 .b = true ∧ ((between.cp .p1).pair .b).inFrame = false := by decide

/-- O11 BadFrameChargesItsPair: at scores 7 and 8, the last that stays GOOD and the first that does not, and with a frame open. -/
theorem test_witness_bad_frame :
    let s : State := between.modCp .p1 fun c => { c with pairA := { c.pairA with score := 8, inFrame := true } }
    s.clocked = true ∧ (s.cp .p1).st = .linked ∧ (s.cp .p1).held = none ∧ 12 ≤ ((s.cp .p1).pair .a).score + 4 ∧
    ((s.cp .p1).pair .a).degraded = false ∧ ((s.cp .p1).pair .a).inFrame = true ∧ s.hl.masked .port = true := by decide

/-- O12 PassWindowIsTheWidestLowestRun: sixteen outcomes. -/
theorem test_witness_pass_window : (passesAt [14, 15, 0, 1, 2]).length = 16 := by decide

/-- O13 RepetitionScansAndAligns: the fifteenth, the sixteenth that aligns, the sixteenth that fails. -/
theorem test_witness_repetition :
    let s : State := aligning .p1
    let passes : List Bool := (passesAt [5, 6, 7, 8, 9]).take 15
    s.clocked = true ∧ (s.cp .p1).st = .aligning ∧ ((s.cp .p1).pair .a).st = .scanning ∧
    (passes.take 14 ++ [true]).length < 16 ∧ (passes ++ [false]).length = 16 ∧
    windowPhase (passes ++ [false]) = some 7 ∧ windowPhase ((passesAt [1, 2, 3]).take 15 ++ [false]) = none ∧
    ((s.cp .p1).pair .b).live = true := by decide

/-- A port with pair A ALIGNED at phase 5 and pair B FAILED. -/
def halfAligned : State :=
  (aligning .p1).modCp .p1 fun c => { c with
    pairA := { c.pairA with st := .aligned, phase := 5 }, pairB := { c.pairB with st := .failed }, ready := true }

/-- O14 ReadyPatternLinksThePort: with the transmitter idle, with a PATTERN frame in transmission, and other frames. -/
theorem test_witness_ready_pattern :
    halfAligned.clocked = true ∧ (halfAligned.cp .p1).st = .aligning ∧ ((halfAligned.cp .p1).pair .a).st = .aligned ∧
    ((halfAligned.cp .p1).pair .b).st ≠ .aligned ∧ (halfAligned.lr .p1).tx = none ∧
    ((halfAligned.modLr .p1 fun r => { r with tx := some (.pattern true 0) }).lr .p1).tx.isSome = true ∧
    beatFrame.body.cls.isSome = true ∧ (0 : Nat) ≠ 1 ∧ (2 : Nat) ≠ 1 := by decide

/-- O15 PatternInLinkedAnswersOrRealigns: at another rate, inside the 10 ms, answered, and with ready clear. -/
theorem test_witness_pattern_in_linked :
    between.clocked = true ∧ (between.cp .p1).st = .linked ∧ (between.cp .p1).held = none ∧ (1 : Nat) ≠ (between.cp .p1).rate ∧
    (0 : Nat) = (between.cp .p1).rate ∧ (between.cp .p1).answerGuard = none ∧ (between.lr .p1).tx = none ∧
    ((between.modCp .p1 fun c => { c with answerGuard := some 9 }).cp .p1).answerGuard.isSome = true := by decide

/-- O16 PortTimersSendRetryAndTimeOut: each timer, the PATTERN timer in LOCAL LOOP and in ALIGNING. -/
theorem test_witness_port_timers :
    let a : State := (aligning .p1).modCp .p1 fun c => { c with patternTimer := some 1 }
    let f : State := up.modCp .p1 fun c => { c with st := .faulted, retryTimer := some 1000 }
    let l : State := between.modNm .p1 fun n => { n with beatTimer := some 10, timeout := some 35 }
    let k : State := up.modCp .p1 fun c => { c with st := .loop, loopMode := .localLoop, patternTimer := some 1 }
    k.ticking = true ∧ timerDue (k.cp .p1).patternTimer 1 = true ∧ (k.cp .p1).maySendPattern = true ∧ (k.lr .p1).tx = none ∧
    (k.cp .p1).localLoop = true ∧ a.ticking = true ∧ timerDue (a.cp .p1).patternTimer 1 = true ∧ (a.cp .p1).maySendPattern = true ∧ (a.lr .p1).tx = none ∧
    f.ticking = true ∧ timerDue (f.cp .p1).retryTimer 1000 = true ∧ (f.cp .p1).st = .faulted ∧ (f.cp .p1).pairA.brk = false ∧
    (f.cp .p1).pairB.brk = false ∧ l.ticking = true ∧ timerDue (l.nm .p1).beatTimer 10 = true ∧
    timerDue (l.nm .p1).timeout 35 = true ∧ (l.cp .p1).st = .linked := by decide

/-- O17 FailedAttemptsRetryThenFault: the step attempt, the second failure and the third. -/
theorem test_witness_failed_attempts :
    let s : State := (aligning .p1).modCp .p1 fun c => { c with attemptTimer := some 200 }
    let u (k : Nat) : Coupler := { s.cp .p1 with failCount := k }
    s.ticking = true ∧ timerDue (s.cp .p1).attemptTimer 200 = true ∧ (s.cp .p1).st = .aligning ∧ (s.cp .p1).pairA.brk = false ∧
    (s.cp .p1).pairB.brk = false ∧ { s.cp .p1 with step := .inProgress 2, rate := 2 }.stepAttempt = true ∧
    (u 1).stepAttempt = false ∧ (u 1).failCount < 2 ∧ (u 2).stepAttempt = false ∧ 2 ≤ (u 2).failCount := by decide

/-- O18 BreakAndSilenceChargeThePair: one pair, the second pair, in ALIGNING, and the silence timer. -/
theorem test_witness_break_and_silence :
    let second : State := between.modCp .p1 fun c => { c with pairB := { c.pairB with brk := true } }
    between.clocked = true ∧ (between.cp .p1).held = none ∧ (between.cp .p1).st = .linked ∧
    ((between.cp .p1).pair .a).brk = false ∧ ((between.cp .p1).pair .b).brk = false ∧ second.clocked = true ∧
    (second.cp .p1).held = none ∧ (second.cp .p1).st = .linked ∧ ((second.cp .p1).pair .a).brk = false ∧
    ((second.cp .p1).pair .b).brk = true ∧ ((aligning .p1).cp .p1).st = .aligning ∧ ((aligning .p1).cp .p1).held = none ∧
    (((aligning .p1).cp .p1).pair .a).brk = false ∧ (((aligning .p1).cp .p1).pair .b).live = true ∧
    between.inReset = false ∧
    timerDue (((between.modCp .p1 fun c => { c with pairA := { c.pairA with silence := some 20 } }).cp .p1).pair .a).silence 20 =
      true := by decide

/-- O20 OldSequencesAreNotDelivered: the first old sequence (128 after L), the last new one on pair B, and a held CALL at its timer,
at a bad frame and a BREAK of pair A, at a PATTERN of another rate, at the same sequence and at the first and last newer ones. -/
theorem test_witness_old_sequences :
    let s : State := member.modCp .p2 fun c => { c with lastDelivered := some 200 }
    let h : Held := { seq := 201, pair := .b, frame := callFrame }
    let u : State := member.modCp .p2 fun c => { c with held := some h, heldTimer := some 2 }
    s.clocked = true ∧ (s.cp .p2).st = .linked ∧ callFrame.body.cls.isSome = true ∧ (s.cp .p2).held = none ∧
    isNew (s.cp .p2).lastDelivered 72 = false ∧ isNew (s.cp .p2).lastDelivered 71 = true ∧
    (s.cp .p2).pairA.degraded = false ∧ u.clocked = true ∧ u.inReset = false ∧ (u.cp .p2).st = .linked ∧
    (u.cp .p2).held = some h ∧ timerDue (u.cp .p2).heldTimer 2 = true ∧ (u.cp .p2).preferred = .a ∧
    (u.cp .p2).pairA.degraded = false ∧ (u.cp .p2).pairB.degraded = false ∧ (u.cp .p2).pairA.brk = false ∧
    (u.cp .p2).pairB.brk = false ∧ (u.cp .p2).pairA.inFrame = false ∧ ((u.cp .p2).pair .a).score ≤ 12 ∧
    (1 : Nat) ≠ (u.cp .p2).rate ∧ callFrame.body = .call 9 3 2 0 ∧ seqNewer 202 h.seq = true ∧ seqNewer 72 h.seq = true ∧
    h.frame.body = .call 9 3 2 0 ∧ u.cc.claim = none ∧
    u.cc.front ≠ some .p2 := by decide

/-- Pair A of port 2 has ended 200 last, and a bad frame since; the port delivered 201, 202 and 203 from pair B. -/
def missing : State :=
  member.modCp .p2 fun c => { c with
    lastDelivered := some 203, pairA := { c.pairA with lastGood := some 200, badSince := 1 },
    pairB := { c.pairB with copies := [201, 202, 203] } }

/-- O20, the charges: an old frame and a new CALL at a pair that missed three copies, two of them without a bad frame. -/
theorem test_witness_missed_copies :
    missing.clocked = true ∧ (missing.cp .p2).st = .linked ∧ (missing.cp .p2).held = none ∧
    isNew (missing.cp .p2).lastDelivered 203 = false ∧ deliversNow missing .p2 .a 204 ∧ callFrame.body = .call 9 3 2 0 ∧
    missing.cc.claim = none ∧ missing.cc.front ≠ some .p2 := by decide

/-- 01 R19: m is 3 and b is 1, so the CALL 204 charges pair A 8 and its own reduction takes 1. -/
theorem test_missed_copies_charge :
    after (.call .p2 .a 204 7 9 3 2 0) missing fun t =>
      (t.cp .p2).pairA.score == 7 && (t.cp .p2).pairA.badSince == 0 && (t.cp .p2).pairB.score == 0 := by decide

/-- 01 R13: a BEAT on an ALIGNED pair in ALIGNING is counted and discarded. -/
theorem test_aligning_discards :
    after (.beat .p1 .a 0 7 beatBody) halfAligned fun t =>
      (t.cp .p1).aligningDiscards == 1 && (t.cp .p1).st == .aligning && (t.nm .p1).status == .absent := by decide

/-- O21 OfferedFramesQueueWaitOrDrop: OPEN; three and four frames queued behind a busy transmitter; an idle port. -/
theorem test_witness_offers :
    let r : Relay := { fullControl with tx := some (.pattern true 0) }
    (tailFrame 7).body.cls = some .control ∧ (up.cp .p1).st = .open ∧ (between.cp .p1).st = .linked ∧ r.tx.isSome = true ∧
    (Cls.control ≠ .beat) ∧ { r with control := { r.control with frames := r.control.frames.take 3 } : Relay }.control.frames.length < 4 ∧
    4 ≤ (r.queue .control).frames.length ∧ (between.lr .p1).tx = none ∧ (between.cp .p1).patternDue = false ∧
    (between.lr .p1).choice = none ∧ (between.lr .p1).slot = none := by decide

/-- O22 BeatQueueHoldsTheLatestBeat: a BEAT for an older one, at a busy transmitter. -/
theorem test_witness_beat_queue :
    let s : State := between.modLr .p1 fun r => { r with beat := headOf beatFrame 10, tx := some (.pattern true 0) }
    beatFrame.body.cls = some .beat ∧ (s.cp .p1).takesFrames = true ∧ (s.lr .p1).tx.isSome = true ∧
    (s.lr .p1).beat.frames ≠ [] := by decide

/-- O23 ArbiterTakesTheBestLevel: heads with no aging due at the edges of a level. -/
theorem test_witness_arbiter : ∀ w ∈ [0, 4, 5, 20, 60],
    let r : Relay := { Relay.reset with beat := { frames := [beatFrame], waited := w, aged := min 4 (w / 5) } }
    r.inv ∧ (r.queue .beat).frames ≠ [] ∧ (r.queue .beat).agingDue .beat = false := by
  intro w hw
  refine ⟨⟨Nat.zero_le _, Nat.zero_le _, Nat.zero_le _, Nat.zero_le _, Nat.le_refl _, nofun, fun c => ?_⟩, nofun, ?_⟩
  · cases c <;> first | exact Nat.zero_le _ | exact Nat.le_refl _
  · revert w; decide

/-- O24 TransmitEndSendsTheNextFrame, aging: due at 5 ms, not at 4, not at level 0, not in an empty queue, not in OPEN. -/
theorem test_witness_aging :
    let s (waited : Nat) : State := between.modLr .p1 fun r => { r with beat := { frames := [beatFrame], waited, aged := 0 } }
    (s 5).clocked = true ∧ (s 5).inReset = false ∧ ((s 5).cp .p1).st = .linked ∧
    (((s 5).lr .p1).queue .beat).frames ≠ [] ∧ 5 * ((((s 5).lr .p1).queue .beat).aged + 1) ≤ (((s 5).lr .p1).queue .beat).waited ∧
    0 < headLevel .beat (((s 5).lr .p1).queue .beat).aged ∧
    (((s 4).lr .p1).queue .beat).waited < 5 * ((((s 4).lr .p1).queue .beat).aged + 1) ∧
    headLevel .control (((s 5).lr .p1).queue .control).aged = 0 ∧ (((s 5).lr .p1).queue .door).frames = [] ∧
    (up.cp .p1).st ≠ .linked := by decide

/-- O24 TransmitEndSendsTheNextFrame: a due PATTERN, nothing queued, a queue behind the slot, a PATTERN in LOCAL LOOP, and the BEAT
of a step. -/
theorem test_witness_transmit_end :
    let f : LineTx := .frame .control 3 (nodeFrame 3) false
    let b : LineTx := .frame .beat 3 beatFrame true
    let s : State := between.modLr .p1 fun r => { r with tx := some f }
    let q : State := between.modLr .p1 fun _ => { fullControl with tx := some f, slot := some (.control, tailFrame 7) }
    let k : State := (between.modLr .p1 fun r => { r with tx := some b }).modCp .p1 fun c => { c with step := .pending 2 }
    s.clocked = true ∧ (s.cp .p1).st = .linked ∧ (s.lr .p1).tx = some f ∧ f.startsStep = false ∧
    (s.cp .p1).patternDue = false ∧ (s.lr .p1).choice = none ∧
    ((s.modCp .p1 fun c => { c with patternDue := true }).cp .p1).patternDue = true ∧
    (q.lr .p1).choice = some .control ∧ ((q.lr .p1).queue .control).frames = nodeFrame 3 :: [nodeFrame 4, nodeFrame 5, nodeFrame 6] ∧
    (q.lr .p1).slot = some (.control, tailFrame 7) ∧ (q.lr .p1).slot.map Prod.fst ≠ some Cls.door ∧
    (let l : State := (up.modLr .p1 fun r => { r with tx := some (.pattern true 0) }).modCp .p1 fun c =>
        { c.bothPairs fun x => { x with st := .inService, inFrame := true } with st := .loop, loopMode := .localLoop };
      l.clocked = true ∧ (l.cp .p1).localLoop = true ∧ (l.lr .p1).tx = some (.pattern true 0) ∧
      (l.cp .p1).patternDue = false ∧ (l.cp .p1).held = none ∧ (l.cp .p1).pairA.inFrame = true ∧
      (l.cp .p1).pairB.inFrame = true) ∧
    (k.lr .p1).tx = some b ∧ b.startsStep = true ∧ (k.cp .p1).step = .pending 2 ∧ (k.cp .p1).st = .linked ∧
    (k.cp .p1).pairA.brk = false ∧ (k.cp .p1).pairB.brk = false := by decide

/-- O25 MalformedFramesAreCountedAndDropped: no kind, a wrong direction, a wrong length, a BEAT of eight bytes, and a PATTERN of five
and seven bytes in LINKED and at an ALIGNED pair. -/
theorem test_witness_malformed :
    deliversNow between .p1 .a 0 ∧ directionOfKind 14 ≠ some 0 ∧ directionOfKind 3 ≠ some 0 ∧
    directionOfKind 3 = some 1 ∧ bodyOfPayload 3 [0, 0, 0, 6] = none ∧ [0, 0, 0, 6, 1, 2, 0, 0].length ≠ 9 ∧
    between.clocked = true ∧ (between.cp .p1).st = .linked ∧ (between.cp .p1).held = none ∧
    halfAligned.clocked = true ∧ (halfAligned.cp .p1).st = .aligning ∧ ((halfAligned.cp .p1).pair .a).st = .aligned ∧
    (halfAligned.cp .p1).held = none ∧ [0, 0, 0, 0, 0].length ≠ 6 ∧ [0, 0, 0, 0, 0, 0, 0].length ≠ 6 := by decide

/-- O26 BeatsAnnounceNeighboursAndDecideTheRate: each invalid field at its first bad value, the own serial, a step, a settled
port, a stepped one, the neighbours known before, and each node state and claim. -/
theorem test_witness_beats :
    let s : State := member.modNm .p2 fun n => { n with status := .absent, record := none }
    let t : State := s.modCp .p2 fun c => { c with rateSettled := true }
    let own : BeatBody := { beatBody with serial := ownSerial }
    let fast : BeatBody := { beatBody with maxRate := 2 }
    deliversNow s .p2 .a 0 ∧ deliversNow t .p2 .a 0 ∧ deliversNow member .p2 .a 0 ∧
    (2 < { beatBody with port := 3 }.port) ∧ (4 < { beatBody with node := 5 }.node) ∧ (2 < { beatBody with rate := 3 }.rate) ∧
    beatBody.serial ≠ 0 ∧ portOfNumber beatBody.port = some .p1 ∧ nodeStateOfCode beatBody.node = some .operational ∧
    beatBody.maxRate ≤ 2 ∧ beatBody.rate ≤ 2 ∧ own.serial = s.sys.serial ∧ own.serial ≠ 0 ∧ (s.nm .p2).status = .absent ∧
    beatBody.serial ≠ s.sys.serial ∧ (s.cp .p2).step = .none ∧ (s.cp .p2).rateSettled = false ∧ fast.maxRate ≤ 2 ∧
    (s.cp .p2).rate < min (s.cp .p2).advertised fast.maxRate ∧ min (s.cp .p2).advertised beatBody.maxRate ≤ (s.cp .p2).rate ∧
    (t.cp .p2).rateSettled = true ∧ (t.nm .p2).status ≠ .present ∧ (member.nm .p2).status = .present ∧
    (member.nm .p2).record.map NbrRecord.serial = some beatBody.serial ∧
    (member.nm .p2).record.map NbrRecord.farPort = some .p1 ∧ ({ beatBody with serial := 9 }).serial ≠ beatBody.serial := by decide

/-- O26, the rest: a stepped port, each node state, and each claim. -/
theorem test_witness_beats_nodes :
    let s : State := member.modNm .p2 fun n => { n with status := .absent, record := none }
    member.cc.node = .operational ∧ member.cc.claim = none ∧ waiting.cc.node = .provisional ∧ waiting.cc.claim = none ∧
    deliversNow waiting .p2 .a 0 ∧
    (let stepped : State := s.modCp .p2 fun c => { c with rate := 1 };
      deliversNow stepped .p2 .a 0 ∧ (stepped.cp .p2).rateSettled = false ∧ (stepped.cp .p2).rate ≠ 0 ∧
      (stepped.cp .p2).step = .none ∧ (stepped.nm .p2).status = .absent) ∧
    (s.cp .p2).rate = 0 ∧ up.cc.node = .detached ∧ deliversNow (linkUp up .p2) .p2 .a 0 ∧
    deliversNow (linkUp leader .p1) .p1 .a 0 ∧ (linkUp leader .p1).cc.claim = some .p1 ∧
    deliversNow leader .p2 .a 0 ∧ leader.cc.claim = some (other .p2) ∧ leader.cc.walk = .idle := by decide

/-- O27 ConflictingClaimsFall. -/
theorem test_witness_conflicts :
    deliversNow leader .p2 .a 0 ∧ leader.cc.claim.isSome = true ∧ (9 : Serial) ≠ leader.sys.serial ∧
    leader.cc.claim = some (other .p2) ∧ (8 : Nat) ≠ leader.cc.gen := by decide

/-- O28 WalkGivesAMemberItsPosition: next positions 1, 2, 32 and 33, and the attempt already joined. -/
theorem test_witness_walks :
    deliversNow member .p1 .a 0 ∧ deliversNow waiting .p1 .a 0 ∧ member.cc.claim = none ∧ member.cc.node ≠ .isolated ∧
    (6 : Serial) ≠ member.sys.serial ∧ ¬ (member.cc.node = .provisional ∧ member.cc.gen = 8) ∧
    member.hasNeighbour (other .p1) = true ∧
    (member.modNm .p2 fun n => { n with status := .absent }).hasNeighbour (other .p1) = false ∧
    waiting.cc.claim = none ∧ waiting.cc.node = .provisional ∧ waiting.cc.gen = 7 ∧ waiting.cc.node ≠ .isolated := by decide

/-- O29 LeaderTakesNodesAndCalls: a new record, one already held, positions 1 and 33, each walk state, and the last cause that is one
and the first that is none. -/
theorem test_witness_nodes_and_calls :
    let w (x : WalkState) : State := { leader with cc := { leader.cc with walk := x } }
    deliversNow walker .p2 .a 0 ∧ walker.cc.claim = some (other .p2) ∧ walker.cc.walking = true ∧
    recordAt walker.cc.records 32 = none ∧ entryInRange (entry 9 32 false) = true ∧
    entryInRange (entry 0 32 false) = false ∧ (recordAt walker.cc.records 2).isSome = true ∧
    deliversNow leader .p2 .a 0 ∧ leader.cc.claim = some (other .p2) ∧ leader.cc.walking = false ∧ leader.cc.walk = .idle ∧
    deliversNow (w .settling) .p2 .a 0 ∧ (w .settling).cc.walk = .settling ∧ (w .walkSecond).cc.walk = .walkSecond ∧
    walker.cc.walk = .walkFirst ∧ (8 : Nat) ≠ walker.cc.gen ∧ (3 : Nat) ≤ 3 ∧ (3 : Nat) < 4 := by decide

/-- O30 FramesAreRelayedOrMisrouted: frontward at the cab end, at a member's front port and behind it; rearward. -/
theorem test_witness_routing :
    let s : State := linkUp leader .p1
    deliversNow s .p1 .a 0 ∧ callFrame.body.routable = true ∧ directionOfKind callFrame.body.kindCode = some 0 ∧
    s.cc.claim = some .p1 ∧ deliversNow member .p1 .a 0 ∧ member.cc.claim = none ∧ member.cc.front = some .p1 ∧
    deliversNow member .p2 .a 0 ∧ member.cc.front ≠ some .p2 ∧ sweepFrame.body.routable = true ∧
    directionOfKind sweepFrame.body.kindCode = some 1 ∧ sweepFrame.body.kindCode ≠ 0x03 ∧
    member.cc.front = some (other .p2) ∧ deliversNow leader .p2 .a 0 ∧ leader.cc.claim.isSome = true := by decide

/-- The leader, and one alone, in SETTLING with the settle timer due; the walker with its first walk timer due. -/
def settledAt (s : State) : State := { s with cc := { s.cc with walk := .settling, settleTimer := some 100 } }
def walkedOut : State := { walker with cc := { walker.cc with walkTimer := some 500 } }

/-- O31 WalkAttemptsStartOrConfirmAlone: with a neighbour at the rear, in WALK_FIRST, and alone. -/
theorem test_witness_attempts :
    (settledAt leader).ticking = true ∧ (settledAt leader).cc.claim = some .p1 ∧ (settledAt leader).cc.walk = .settling ∧
    timerDue (settledAt leader).cc.settleTimer 100 = true ∧ (settledAt leader).hasNeighbour (other .p1) = true ∧
    walkedOut.ticking = true ∧ walkedOut.cc.claim = some .p1 ∧ walkedOut.cc.walk = .walkFirst ∧
    timerDue walkedOut.cc.walkTimer 500 = true ∧ walkedOut.hasNeighbour (other .p1) = true ∧
    (settledAt alone).ticking = true ∧ (settledAt alone).cc.claim = some .p1 ∧ (settledAt alone).cc.walk = .settling ∧
    timerDue (settledAt alone).cc.settleTimer 100 = true ∧ (settledAt alone).hasNeighbour (other .p1) = false := by decide

theorem test_witness_attempts_invariant :
    (settledAt leader).nodeInv ∧ walkedOut.nodeInv ∧ (settledAt alone).nodeInv := by
  refine ⟨⟨?_, fun _ => rfl, ?_⟩, ⟨?_, ?_, ?_⟩, ⟨?_, fun _ => rfl, ?_⟩⟩ <;>
    first
      | (unfold State.quietOutside; decide)
      | (unfold State.walkOfClaim; decide)
      | (unfold State.leaderOnly State.holdsLeaderState; decide)

/-- O32 TailConfirmsTheWalk: flags with OVERLENGTH clear and set, all 32 records, all records, a missing one at position 3, last positions 1 and 33, and the walk timer in
WALK_SECOND with records up to 2. -/
theorem test_witness_tails :
    let second : State := { walker with cc := { walker.cc with walk := .walkSecond, walkTimer := some 500 } }
    let full : State := { walker with
      cc := { walker.cc with records := (List.range 32).map fun i => entry (BitVec.ofNat 32 (i + 1)) (i + 1) (i == 0) } }
    (2 % 2 = 0 ∧ 3 % 2 = 1) ∧ deliversNow full .p2 .a 0 ∧ full.cc.claim = some (other .p2) ∧ full.cc.walking = true ∧
    full.se.lastSeen = none ∧ full.se.gap = false ∧ full.se.lastSent = none ∧ heldUpTo full.cc.records 32 = true ∧
    ((heldEntries full 32).map Entry.serial).Nodup ∧
    deliversNow walker .p2 .a 0 ∧ walker.cc.claim = some (other .p2) ∧ walker.cc.walking = true ∧ walker.se.lastSeen = none ∧
    walker.se.gap = false ∧ walker.se.lastSent = none ∧ heldUpTo walker.cc.records 2 = true ∧
    ((heldEntries walker 2).map Entry.serial).Nodup ∧ heldUpTo walker.cc.records 3 = false ∧ walker.cc.walk = .walkFirst ∧
    walker.hasNeighbour .p2 = true ∧ deliversNow second .p2 .a 0 ∧ second.cc.claim = some (other .p2) ∧
    second.cc.walking = true ∧ second.se.lastSeen = none ∧ second.se.gap = false ∧ second.cc.walk = .walkSecond ∧
    second.inReset = false ∧ timerDue second.cc.walkTimer 500 = true ∧ heldUpTo second.cc.records 2 = true ∧
    recordAt second.cc.records 3 = none ∧ ((heldEntries second 2).map Entry.serial).Nodup ∧ second.se.lastSent = none := by
  decide

/-- O33 ConfirmMakesMembersOperational: accepted below N and at N, refused (a table that is not well-formed, N below the position,
another serial), stale, and discarded. -/
theorem test_witness_confirms :
    let three := member.cc.table.entries
    let two := three.take 2
    three = (three.map plainEntry).map LineEntry.entry ∧     deliversNow waiting .p1 .a 0 ∧ waiting.cc.claim = none ∧ waiting.cc.front = some .p1 ∧ three ≠ [] ∧ three.length ≤ 32 ∧
    waiting.cc.gen = 7 ∧ waiting.cc.node = .provisional ∧ tableWellFormed 3 three = true ∧ tableWellFormed 2 two = true ∧
    reasonOfCode 0 = some .none ∧ waiting.cc.position = some 2 ∧ recordAt three 2 = some (entry ownSerial 2 false) ∧
    recordAt two 2 = some (entry ownSerial 2 false) ∧ (entry ownSerial 2 false).serial = waiting.sys.serial ∧
    waiting.cc.orientation = some (entry ownSerial 2 false).orientation ∧ tableWellFormed 2 three = false ∧
    (entry 6 2 false).serial ≠ waiting.sys.serial ∧ recordAt [entry 5 1 true, entry 6 2 false] 2 = some (entry 6 2 false) ∧
    (8 : Nat) ≠ waiting.cc.gen ∧ deliversNow member .p1 .a 0 ∧ member.cc.node = .operational ∧ member.cc.gen = 7 ∧
    three.take 1 ≠ [] ∧ tableWellFormed 1 (three.take 1) = true ∧ 1 < 2 := by decide

/-- O34 NodeTimersExpire: each timer, and the oldest trip at 60 000 ms. -/
theorem test_witness_node_timers :
    let s : State := { member with
      sys := { member.sys with ticks := 60001 }, cc := { member.cc with silenceTimer := some 3000 },
      ha := { member.ha with watchdog := some 3000, holdOff := some 5000, trips := [1, 20001] } }
    let w : State := { waiting with cc := { waiting.cc with confirmTimer := some 1500 } }
    w.ticking = true ∧ timerDue w.cc.confirmTimer 1500 = true ∧ w.cc.node = .provisional ∧ s.ticking = true ∧
    timerDue s.cc.silenceTimer 3000 = true ∧ s.cc.node = .operational ∧ timerDue s.ha.watchdog 3000 = true ∧
    timerDue s.ha.holdOff 5000 = true ∧ s.ha.trips = 1 :: [20001] ∧ 1 + 60000 ≤ s.sys.ticks := by decide

/-- O35 NodesAnswerASweep: sent on, turned back at N, malformed (a list that covers 32 positions already), stale. -/
theorem test_witness_sweeps :
    deliversNow member .p1 .a 0 ∧ member.cc.claim = none ∧ member.cc.front = some .p1 ∧ member.cc.gen = 7 ∧
    member.cc.node.inConsist = true ∧ sweepList 15 3 [0x40] = some [.nil] ∧ sweepList 0 3 [0x80, 31] = some [.nilRun 31] ∧
    sweepList 0 3 [0x80, 32] = none ∧ sweepList 16 3 [0x40] = none ∧ member.pos < 3 ∧ 2 ≤ member.pos ∧
    member.hasNeighbour (other .p1) = true ∧ (8 : Nat) ≠ member.cc.gen := by decide

/-- O36 ElementsMergeAtTheListEnd: a list that ends in the longest run below 255, and a record at the bounds of its fields. -/
theorem test_witness_append :
    let r : Record := sweptAt 32 255 true
    decodeList [0x41, 0x80, 254] = some [.nil, .nilRun 254] ∧ (254 : Nat) < 255 ∧ 1 ≤ r.position ∧ r.position ≤ 32 ∧
    r.demand < 256 := by decide

/-- A sweep with a number is outstanding at the leader, with records held for both positions. -/
def sweeping : State :=
  { leader with
    se := { leader.se with
      outstanding := some 4, lastLaunched := some 4, timeout := some 150, intervalTimer := some 200,
      lastFull := [some (sweptAt 1 2 true), some (sweptAt 2 3 true)] ++ List.replicate 30 none } }

/-- O37 IntervalTimerLaunchesOrWaits: no leader, a sweep outstanding, and a launch. -/
theorem test_witness_interval :
    let n : State := { member with se := { member.se with intervalTimer := some 200 } }
    let s : State := { sweeping with se := { sweeping.se with outstanding := none } }
    n.ticking = true ∧ timerDue n.se.intervalTimer n.se.intervalPeriod = true ∧ n.operationalLeader = false ∧ sweeping.ticking = true ∧
    timerDue sweeping.se.intervalTimer sweeping.se.intervalPeriod = true ∧ sweeping.operationalLeader = true ∧ sweeping.se.outstanding.isSome = true ∧
    s.ticking = true ∧ timerDue s.se.intervalTimer s.se.intervalPeriod = true ∧ s.operationalLeader = true ∧ s.cc.claim = some .p1 ∧
    s.se.outstanding = none ∧ 2 ≤ s.consistN := by decide

/-- O38 ReturnCompletesTheSweep: completed (both elements NIL), stale number, stale generation; a demand of 7. -/
theorem test_witness_returns :
    deliversNow sweeping .p2 .a 0 ∧ sweeping.cc.claim = some (other .p2) ∧ ([0x80, 2] : List Nat) ≠ [] ∧
    sweeping.cc.gen = 7 ∧ sweeping.cc.node = .operational ∧ sweeping.se.outstanding = some 4 ∧ 2 ≤ sweeping.consistN ∧
    sweeping.covered 2 [0x80, 2] = some [sweptAt 1 2 true, sweptAt 2 3 true] ∧ sweeping.se.launchDue = false ∧
    sweeping.se.outstanding ≠ some 5 ∧ (8 : Nat) ≠ sweeping.cc.gen ∧
    (∀ r ∈ [sweptAt 1 7 true], r.demand ≤ 7) := by decide

/-- O39 LostSweepsAreCountedAndMayWalk: the timeout, a list that covers one position too few, and a launch that is due. -/
theorem test_witness_lost_sweeps :
    let due : State := { sweeping with se := { sweeping.se with launchDue := true } }
    sweeping.operationalLeader = true ∧ sweeping.ticking = true ∧ timerDue sweeping.se.timeout 150 = true ∧
    sweeping.se.launchDue = false ∧ deliversNow sweeping .p2 .a 0 ∧ sweeping.cc.claim = some (other .p2) ∧
    sweeping.covered 2 [0x40] = none ∧ sweeping.covered 2 [0x80, 3] = none ∧ due.operationalLeader = true ∧
    due.ticking = true ∧ timerDue due.se.timeout 150 = true ∧ due.se.launchDue = true ∧ 2 ≤ due.consistN := by decide

/-- O40 NodesHandleADoor: in range with last at and behind the position, the first bad value of each field, stale. -/
theorem test_witness_doors :
    deliversNow member .p1 .a 0 ∧ member.cc.claim = none ∧ member.cc.front = some .p1 ∧ member.cc.gen = 7 ∧
    member.cc.orientation = some .forward ∧ ¬ (Action.release = .release ∧ TrainSide.left = .both) ∧ 2 ≤ member.pos ∧
    member.pos < 3 ∧ member.hasNeighbour (other .p1) = true ∧ actionOfCode 2 = none ∧ trainSideOfCode 3 = none ∧
    (8 : Nat) ≠ member.cc.gen := by decide

/-- O41 WindowsResolveAtTheConsistLength: a window of offset N − 1 and one of offset N; a queued command of the empty one. -/
theorem test_witness_windows :
    let w (offset : Nat) : Window := { anchor := .rear, offset, count := 1, enabled := true }
    let c : DoorCmd := doorCmd 3 .close .left 1
    let s : State := leader.modDcu fun d => { d with windows := d.windows.set 0 (w 2), queue := [c] }
    1 ≤ (w 1).count ∧ (w 1).offset < 2 ∧ 2 ≤ (w 2).offset ∧ s.dcu.queue = [c] ∧
    (s.resolve c.window).2 < (s.resolve c.window).1 := by decide

/-- The leader with a RELEASE of the whole train in flight. -/
def flying : State :=
  leader.modDcu fun d => { d with
    queue := [doorCmd 3 .release .left 0], inFlight := some { first := 1, last := 2, expected := 3, applied := 1 },
    echoTimer := some 300, lastDoor := some { gen := 7, id := 3, applied := true }, standstill := true }

/-- O42 EchoesEndTheCommandInFlight: the only command, one with another behind it, a late ECHO, a stale one, the echo timer. -/
theorem test_witness_echoes :
    let c : DoorCmd := doorCmd 3 .release .left 0
    let d : DoorCmd := doorCmd 4 .close .both 0
    let two : State := flying.modDcu fun x => { x with queue := [c, d] }
    flying.operationalLeader = true ∧ flying.cc.claim = some (other .p2) ∧ deliversNow flying .p2 .a 0 ∧ flying.cc.gen = 7 ∧
    flying.dcu.inFlight = some { first := 1, last := 2, expected := 3, applied := 1 } ∧ c.id = 3 ∧ flying.dcu.queue = [c] ∧
    two.operationalLeader = true ∧ deliversNow two .p2 .a 0 ∧ two.dcu.queue = [c, d] ∧ d.window = 0 ∧ 2 ≤ two.consistN ∧
    flying.dcu.queue.head?.map DoorCmd.id ≠ some 4 ∧ leader.dcu.inFlight = none ∧ deliversNow leader .p2 .a 0 ∧
    (8 : Nat) ≠ flying.cc.gen ∧ flying.ticking = true ∧ timerDue flying.dcu.echoTimer 300 = true := by decide

/-- O43 NodesTakeAndPassAGrant: number 15 and none, level 7; the first bad value of each field; stale. -/
theorem test_witness_grants :
    deliversNow member .p1 .a 0 ∧ member.cc.claim = none ∧ member.cc.front = some .p1 ∧ member.cc.gen = 7 ∧
    member.cc.node.inConsist = true ∧ grantCauseOfCode 3 = some .trip ∧ sweepNumberOfCode 15 = some (some 15) ∧
    sweepNumberOfCode 255 = some none ∧ [1, 7, 0].length = 3 ∧ (∀ g ∈ [1, 7, 0], g ≤ 7) ∧ member.pos < 3 ∧
    member.hasNeighbour (other .p1) = true ∧ grantCauseOfCode 4 = none ∧ sweepNumberOfCode 16 = none ∧
    (∃ g ∈ [1, 8, 0], 7 < g) ∧ (8 : Nat) ≠ member.cc.gen := by decide

/-- O44 AllocationStaysInItsBounds: the worked allocation of 08 section 8.4, with rotation starts 1 and N, and sheds among equal levels. -/
theorem test_witness_allocation :
    [3, 2, 4, 1].length = [2, 2, 1, 0].length ∧ [8, 12, 8, 10].length = [2, 2, 1, 0].length ∧ 4 ≤ [2, 2, 1, 0].length ∧
    (∀ w ∈ [8, 12, 8, 10], 1 ≤ w) ∧ totalPower (List.zipWith min [2, 2, 1, 0] [3, 2, 4, 1]) [8, 12, 8, 10] ≤ 60 ∧
    shedChoice [2, 1, 2, 0] [3, 4, 1, 2] = some 1 ∧ shedChoice [2, 2, 1, 0] [3, 4, 1, 2] = some 2 := by decide

/-- O45, O46, O47, O49, O50 to O55: a request takes a slot; the plain settings at their bounds. -/
theorem test_witness_settings :
    let s : State := up.modDcu fun d => { d with isolated := 4, standstill := false }
    takesSlot up ∧ takesSlot s ∧ takesSlot leader ∧ up.dcu.isolated = BitVec.ofNat 8 0 ∧ s.dcu.isolated ≠ BitVec.ofNat 8 255 ∧
    4096 ≤ 16 * 256 + 0 ∧ 15 * 256 + 255 < 4096 ∧ s.dcu.standstill = false ∧ leader.releaseKnown = false ∧
    up.hl.masked .start = true := by decide

/-- O47 CoachChangesSuspendTheNode: each node state, with and without a claim. -/
theorem test_witness_coach :
    takesSlot member ∧ takesSlot waiting ∧ takesSlot walker ∧ up.cc.coach = { cls := 0, leaves1 := 2, leaves2 := 2, stepPower := 8 } ∧
    up.cc.coach ≠ { cls := 15, leaves1 := 4, leaves2 := 4, stepPower := 40 } ∧ up.cc.node = .detached ∧
    member.cc.node = .operational ∧ waiting.cc.node = .provisional ∧ member.cc.claim = none ∧ member.cc.front = some .p1 ∧
    (member.cp .p1).st = .linked ∧ leader.cc.node = .operational ∧ leader.cc.claim.isSome = true ∧ leader.cc.walk = .idle ∧
    walker.cc.node = .provisional ∧ walker.cc.claim.isSome = true := by decide

/-- O48 StandstillWithdrawalClosesTheTrain: the worked withdrawal, and four commands left behind which one makes way. -/
theorem test_witness_withdrawal :
    let s : State := withdrawal.modDcu fun d => { d with
      queue := [doorCmd 9 .release .left 1, doorCmd 10 .close .right 3, doorCmd 11 .close .left 4, doorCmd 12 .close .right 2] }
    takesSlot withdrawal ∧ withdrawal.dcu.standstill = true ∧ withdrawal.operationalLeader = true ∧
    withdrawal.dcu.inFlight.isSome = true ∧ (withdrawal.dcu.queue.drop 1).length ≤ 3 ∧
    (∃ c ∈ withdrawal.dcu.queue, c.action = .release) ∧ takesSlot s ∧ s.dcu.standstill = true ∧ s.operationalLeader = true ∧
    s.dcu.inFlight.isSome = true ∧ (∃ c ∈ s.dcu.queue, c.action = .release) ∧
    ((s.dcu.queue.drop 1).filter fun c => c.action == .close).length = 3 := by decide

/-- O50 LeadRequestsChangeTheClaim: each refusal, a repeated claim, a new one, and the requests of a claimant. -/
theorem test_witness_lead :
    portOfNumber 1 = some .p1 ∧ portOfNumber 0 = none ∧ portOfNumber 3 = none ∧ takesSlot between ∧
    between.hasNeighbour .p1 = true ∧ leader.cc.claim = some (other .p2) ∧ leader.cc.claim = some .p1 ∧
    leader.hasNeighbour .p1 = false ∧ leader.cc.node ≠ .isolated ∧ takesSlot up ∧ up.cc.node ≠ .isolated ∧
    up.hasNeighbour .p1 = false ∧ up.cc.claim = none ∧ up.cc.walk = .idle ∧ takesSlot leader ∧ leader.cc.claim.isSome = true ∧
    leader.cc.walk = .idle ∧ takesSlot walker ∧ walker.cc.claim.isSome = true ∧ walker.cc.walk ≠ .idle := by decide

/-- O51 DoorCommandsQueueOrAreRefused: each refusal, three and four commands queued, a train and a consist of one. -/
theorem test_witness_door_commands :
    let q (n : Nat) : State := withdrawal.modDcu fun d => { d with queue := d.queue.take n }
    takesSlot member ∧ member.operationalLeader = false ∧ takesSlot leader ∧ leader.operationalLeader = true ∧
    leader.dcu.windowUsable 1 = false ∧ leader.dcu.windowUsable 5 = false ∧ actionOfCode 1 = some .close ∧
    trainSideOfCode 2 = some .both ∧ ¬ (Action.close = .release ∧ TrainSide.both = .both) ∧ leader.dcu.windowUsable 0 = true ∧
    actionOfCode 0 = some .release ∧ trainSideOfCode 0 = some .left ∧ leader.dcu.standstill = false ∧
    takesSlot (q 4) ∧ 4 ≤ (q 4).dcu.queue.length ∧ (q 4).dcu.standstill = true ∧ takesSlot (q 3) ∧ (q 3).dcu.queue ≠ [] ∧
    (q 3).dcu.queue.length < 4 ∧ leader.dcu.queue = [] ∧ leader.cc.claim = some .p1 ∧ 2 ≤ leader.consistN ∧
    takesSlot alone ∧ alone.operationalLeader = true ∧ alone.dcu.queue = [] ∧ alone.consistN = 1 := by decide

/-- The leader with grants, demands and a capacity. -/
def heated (cap : Nat) : State :=
  { leader with
    ha := { leader.ha with capacity := cap, held := 2, watchdog := some 0, grants := [2, 2] ++ List.replicate 30 0 },
    se := { leader.se with demand := [2, 3] ++ List.replicate 30 0 } }

/-- O52 SupplyRequestsShedAndTrip: refused, locked out, in hold-off, grants kept and shed; trips with and without a claim. -/
theorem test_witness_supply :
    let locked : State := { leader with ha := { leader.ha with lockout := true, trips := [1, 2, 3] } }
    let s := heated 40
    let shedTo (cap : Nat) : List Nat :=
      grantTable (shedRun (s.ha.grants.take s.consistN) (s.se.demand.take s.consistN) s.powers s.ha.rotation cap)
    takesSlot locked ∧ locked.ha.lockout = true ∧ takesSlot s ∧ s.ha.lockout = false ∧ s.operationalLeader = true ∧
    s.ha.holdOff = none ∧ shedTo 32 = s.ha.grants ∧ shedTo 31 ≠ s.ha.grants ∧ s.cc.claim = some .p1 ∧ 2 ≤ s.consistN ∧
    { s with ha := { s.ha with holdOff := some 0 } }.ha.holdOff.isSome = true ∧ member.operationalLeader = false ∧
    takesSlot member ∧ member.cc.claim = none ∧ takesSlot walker ∧ walker.cc.claim = some .p1 ∧
    walker.cc.node ≠ .operational ∧ s.cc.node = .operational := by decide

/-- O53 SetPortStagesLoopsOrRealigns: refused, staged, realigned, and a new loop mode. -/
theorem test_witness_set_port :
    let s : State := linkUp up .p1
    portOfNumber 2 = some .p2 ∧ loopModeOfCode 2 = some .remoteEcho ∧ loopModeOfCode 3 = none ∧ takesSlot leader ∧
    LoopMode.remoteEcho ≠ .normal ∧ leader.cc.node = .operational ∧ walker.cc.node = .provisional ∧ takesSlot s ∧
    (s.cp .p1).loopMode = .normal ∧ (s.cp .p1).st = .linked ∧ (up.cp .p1).st = .open ∧ s.cc.node.allowsLoop = true ∧
    (s.cp .p1).loopMode ≠ .localLoop ∧ (s.cp .p1).st ≠ .open ∧
    (.setPortForceRealign 1 [1, 0, 2, 1] : Instr) = .setPortForceRealign 1 [1, 0, 2, 1] := by decide

/-- O54 IsolationOpensAndReleasesThePorts: at a leader, at a member and in isolation. -/
theorem test_witness_isolation :
    let i : State := { up with cc := { up.cc with node := .isolated } }
    takesSlot leader ∧ leader.cc.node ≠ .isolated ∧ leader.cc.claim.isSome = true ∧ leader.cc.node = .operational ∧
    takesSlot i ∧ i.cc.node = .isolated ∧ (i.cp .p1).st = .open ∧ (i.cp .p1).pairA.brk = false ∧
    (i.cp .p1).pairB.brk = false ∧ (i.cp .p2).st = .open ∧ (i.cp .p2).pairA.brk = false ∧ (i.cp .p2).pairB.brk = false := by
  decide

/-- O55 HostReceiverChecksAndCounts: three and four slots held, the refusal slot free and held, a kind that is none, a wrong length, in
HUNT and in a frame, and the frame timer at its end. -/
theorem test_witness_host_receiver :
    let three : State := { busy with hl := { busy.hl with slots := busy.hl.slots.drop 1, replies := busy.hl.replies.drop 1 } }
    let refused : State := { busy with hl := { busy.hl with refusal := some { kind := 1, tag := 1, status := .busy, fields := [] } } }
    let late : State := { up with hl := { up.hl with frameTimer := some 20 } }
    let hunting : State := { up with hl := HostLink.reset }
    requestOf (.getNode 1 [0]) = some { kind := 7, tag := 1, payload := [0] } ∧ requestBytes 7 = some 0 ∧ [0].length ≠ 0 ∧
    requestOf (.unknownRequest 0x18 1 []) = some { kind := 0x18, tag := 1, payload := [] } ∧ requestBytes 0x18 = none ∧
    requestBytes 0 = none ∧ three.hostListening = true ∧ three.hl.inFrame = true ∧ three.hl.slots.length < 4 ∧
    busy.hostListening = true ∧ busy.hl.inFrame = true ∧ 4 ≤ busy.hl.slots.length ∧ busy.hl.refusal = none ∧
    refused.hostListening = true ∧ refused.hl.inFrame = true ∧ 4 ≤ refused.hl.slots.length ∧
    refused.hl.refusal.isSome = true ∧ hunting.hostListening = true ∧ hunting.hl.inFrame = false ∧ takesSlot up ∧
    up.hl.assembler = some [0xA5] ∧ State.reset.hostListening = false ∧ late.ticking = true ∧
    timerDue late.hl.frameTimer 20 = true := by
  decide

/-- O57 to O59: the invariants hold together at a leader with grants, whose step answers a next state. -/
theorem test_witness_node_invariant : (heated 40).nodeInv := by
  refine ⟨?_, ?_, ?_⟩
  · unfold State.quietOutside; decide
  · exact fun _ => rfl
  · unfold State.walkOfClaim; decide

theorem test_witness_consist_invariant : (heated 40).consistInv := by
  refine ⟨by decide, ?_, ?_, ?_, ?_⟩
  · unfold Coach.inRange; decide
  · unfold Consist.recordsInv; decide
  · unfold Consist.placeInv; decide
  · unfold Consist.tableInv; decide

theorem test_witness_heat_invariant : (heated 40).heatInv := by
  unfold State.heatInv
  refine ⟨?_, ?_, ?_, ?_, ?_, ?_, ?_, ?_, ?_, ?_⟩ <;> decide

theorem test_witness_host_invariant : (heated 40).hostInv := by unfold State.hostInv; decide

theorem test_witness_queue_invariant : (heated 40).queueInv := by
  refine ⟨⟨by decide, by decide, by decide, by decide, by decide, nofun, ?_⟩,
    ⟨by decide, by decide, by decide, by decide, by decide, nofun, ?_⟩⟩ <;>
    exact fun c => by cases c <;> decide

theorem test_witness_invariant_step : ∃ t, step (heated 40) = .next t := ⟨_, rfl⟩

/-- O60 FramesReadBackFromTheirBytes: a TAIL and a NODE that arrive with every bit set. -/
theorem test_witness_payloads :
    directionOfKind 5 = some 0 ∧ directionOfKind 4 = some 0 ∧ (0 : Nat) ≠ 2 ∧ (∀ x ∈ List.replicate 8 255, x < 256) ∧
    bodyOfPayload 5 [255, 255, 255, 255, 255, 255] = some (.tail 255 255 0xFFFFFFFF) ∧
    (bodyOfPayload 4 (List.replicate 8 255)).isSome = true := by decide

/-- O60 FramesReadBackFromTheirBytes: a frame and a list at the bounds of their fields. -/
theorem test_witness_frames :
    (192 ≤ 192 ∧ 255 < 256) ∧
    let f : Frame := { gen := 255, body := .door 255 255 255 255 255 }
    f.body.cls.isSome = true ∧ WellFormed (f.command .p1 .a 255) ∧
    ∀ x ∈ [Element.full (sweptAt 32 255 true), .nil, .nilRun 255], match x with
      | .full r => 1 ≤ r.position ∧ r.position ≤ 32 ∧ r.demand < 256
      | .nil => True
      | .nilRun k => k < 256 := by
  refine ⟨by decide, by decide, show WellFormed (.door .p1 .a 255 255 255 255 255 255 255) by decide, ?_⟩
  simp [sweptAt]
end

section
/-! The preferred pair and the two pair-health indications of a coupler port (01 R20). -/

namespace Sys2Proof.Machine

/-! ### Quantifiers over the two pairs -/

theorem exists_pairId {P : PairId → Prop} : (∃ q, P q) ↔ P .a ∨ P .b :=
  ⟨fun ⟨q, hq⟩ => match q with
    | .a => .inl hq
    | .b => .inr hq,
   fun h => h.elim (⟨.a, ·⟩) (⟨.b, ·⟩)⟩

theorem forall_pairId {P : PairId → Prop} : (∀ q, P q) ↔ P .a ∧ P .b :=
  ⟨fun h => ⟨h .a, h .b⟩, fun ⟨ha, hb⟩ q => match q with
    | .a => ha
    | .b => hb⟩

/-! ### The preferred pair -/

theorem Coupler.preferred_eq_ite (c : Coupler) :
    c.preferred = if c.pairA.degraded = true ∧ c.pairB.degraded = false then .b else .a := by
  simp [Coupler.preferred]

/-- A port's preferred pair is DEGRADED only when its other pair is DEGRADED too: pair B is preferred only while it is GOOD, and
pair A gives way as soon as it alone is DEGRADED. -/
theorem Coupler.other_degraded_of_preferred_degraded {c : Coupler} (h : (c.pair c.preferred).degraded = true) :
    (c.pair (otherPair c.preferred)).degraded = true := by
  by_cases onlyA : c.pairA.degraded = true ∧ c.pairB.degraded = false
  · have prefB : c.preferred = .b := by rw [c.preferred_eq_ite, if_pos onlyA]
    have degB : c.pairB.degraded = true := by rwa [prefB] at h
    simp [onlyA.2] at degB
  · have prefA : c.preferred = .a := by rw [c.preferred_eq_ite, if_neg onlyA]
    have degA : c.pairA.degraded = true := by rwa [prefA] at h
    have degB : c.pairB.degraded = true := by simpa [degA] using onlyA
    rwa [prefA]

/-! ### The indications -/

theorem Coupler.degradedPair_iff (c : Coupler) : c.degradedPair = true ↔ ∃ q, (c.pair q).degraded = true := by
  simp [Coupler.degradedPair, exists_pairId, Coupler.pair]

theorem Coupler.impaired_iff (c : Coupler) : c.impaired = true ↔ ∀ q, (c.pair q).degraded = true := by
  simp [Coupler.impaired, forall_pairId, Coupler.pair]

/-- Settles O19: the choice of the preferred pair case by case, and each indication read over the two pairs. -/
theorem preferredPairFollowsHealth : Obligations.PreferredPairFollowsHealth := fun c =>
  ⟨c.preferred_eq_ite, Coupler.other_degraded_of_preferred_degraded, c.degradedPair_iff, c.impaired_iff⟩

end Sys2Proof.Machine
end

section
/-! A frame offered to a port whose transmitter is busy, and the BEAT queue (02 R36 to R38). -/

namespace Sys2Proof.Machine

/-! ### A busy transmitter -/

/-- A transmitter that is sending takes nothing new (02 R41). -/
theorem State.kickLine_of_busy {s : State} {p : PortId} (busy : (s.lr p).tx.isSome = true) : s.kickLine p = s :=
  if_pos busy

/-- Joining a class queue leaves the transmitter as it is. -/
theorem Relay.enqueue_tx (r : Relay) (c : Cls) (f : Frame) : (r.enqueue c f).tx = r.tx :=
  (r.enqueue_counters c f).left

/-- A port that takes frames puts an offered one into the queue of its class, and then looks for a frame to send (02 R36). -/
theorem State.offer_of_takesFrames {s : State} {p : PortId} {f : Frame} {c : Cls} (hcls : f.body.cls = some c)
    (takes : (s.cp p).takesFrames = true) :
    s.offer p f = (s.modLr p fun r => r.enqueue c f).kickLine p := by
  simp only [State.offer, hcls, takes, if_true]

/-- While the transmitter of a port that takes frames is sending, an offered frame joins its queue and nothing else happens. -/
theorem State.offer_of_busy {s : State} {p : PortId} {f : Frame} {c : Cls} (hcls : f.body.cls = some c)
    (takes : (s.cp p).takesFrames = true) (busy : (s.lr p).tx.isSome = true) :
    s.offer p f = s.modLr p fun r => r.enqueue c f := by
  have stillBusy : ((s.modLr p fun r => r.enqueue c f).lr p).tx.isSome = true := by
    rwa [State.modLr_lr, Relay.enqueue_tx]
  rw [State.offer_of_takesFrames hcls takes, State.kickLine_of_busy stillBusy]

/-! ### The BEAT queue -/

/-- A BEAT starts the empty queue's head at waiting time 0, or replaces the older BEAT and keeps its waiting time and level; slot and
overrun counter are not used (02 R38). -/
theorem Relay.enqueue_beat (r : Relay) (f : Frame) :
    r.enqueue .beat f = { r with
      beat := if r.beat.frames = [] then { frames := [f], waited := 0, aged := 0 } else { r.beat with frames := [f] } } :=
  rfl

/-- Settles O22: a busy transmitter leaves only the joining of the BEAT queue. -/
theorem beatQueueHoldsTheLatestBeat : Obligations.BeatQueueHoldsTheLatestBeat := by
  intro s p f isBeat takes busy
  rw [State.offer_of_busy isBeat takes busy]
  simp only [Relay.enqueue_beat]

end Sys2Proof.Machine
end

section
/-! Pending notices and what the host is told (09 R172, R177, R178). -/

namespace Sys2Proof.Machine

/-- A kind's bit is its place in the fixed order (09 R178). -/
theorem noticeOrder_getElem?_noticeBit (k : Notice) : noticeOrder[noticeBit k]? = some k := by cases k <;> rfl

theorem noticeBit_inj {j k : Notice} : noticeBit j = noticeBit k ↔ j = k :=
  ⟨fun h => Option.some.inj (by rw [← noticeOrder_getElem?_noticeBit j, h, noticeOrder_getElem?_noticeBit]), congrArg noticeBit⟩

theorem noticeBit_lt (k : Notice) : noticeBit k < 12 := by cases k <;> decide

/-- The set of one kind holds that kind and no other. -/
theorem getLsbD_noticeSet (j k : Notice) : (noticeSet j).getLsbD (noticeBit k) = decide (j = k) := by
  rw [noticeSet, BitVec.getLsbD_ofNat, Nat.testBit_two_pow]
  simp only [noticeBit_lt, noticeBit_inj, decide_true, Bool.true_and]

/-- Raising a kind sets its flag if the kind is in the mask, and no other flag (09 R177). -/
@[simp] theorem HostLink.flagged_raise (h : HostLink) (j k : Notice) :
    (h.raise j).flagged k = (h.flagged k || (decide (j = k) && h.masked k)) := by
  simp [HostLink.flagged, HostLink.masked, HostLink.raise, getLsbD_noticeSet]

/-- Raising changes only the pending notices. -/
@[simp] theorem HostLink.still_raise (h : HostLink) (k : Notice) : (h.raise k).still = h.still := rfl

@[simp] theorem State.raiseIf_still (s : State) (c : Bool) (k : Notice) : (s.raiseIf c k).hl.still = s.hl.still := by
  cases c <;> rfl

theorem HostLink.masked_of_still {g h : HostLink} (e : g.still = h.still) (k : Notice) : g.masked k = h.masked k :=
  congrArg (fun l => l.masked k) e

theorem HostLink.replies_of_still {g h : HostLink} (e : g.still = h.still) : g.replies = h.replies :=
  congrArg (fun l => l.replies) e

/-- A raised kind that is in the mask is told. -/
theorem told_raise_self {s : State} {k : Notice} (masked : s.hl.masked k = true) : told (s.raise k) k :=
  .inl (by simp [masked])

/-- A notice that is told stays told when another is raised. -/
theorem told_raise {s : State} {k : Notice} (j : Notice) (h : told s k) : told (s.raise j) k :=
  h.imp (fun flag => by simp [flag]) id

/-- A notice that starts clears the flag of its own kind only (09 R178). -/
theorem State.flagged_startNotice (s : State) (j k : Notice) :
    (s.startNotice j).hl.flagged k = (s.hl.flagged k && decide (j ≠ k)) := by
  change (s.hl.notices &&& ~~~noticeSet j).getLsbD (noticeBit k) = _
  rw [BitVec.getLsbD_and, BitVec.getLsbD_not, getLsbD_noticeSet]
  simp [HostLink.flagged, noticeBit_lt]

/-- The transmitter's choice keeps a told notice told: only the notice that starts loses its flag, and it is then in
transmission. -/
theorem told_hostKick {s : State} {k : Notice} (h : told s k) : told s.hostKick k := by
  by_cases idle : s.hostTxIdle = true
  · have noTx : s.hl.tx = none := by
      simp only [State.hostTxIdle, Bool.and_eq_true, Option.isNone_iff_eq_none] at idle
      exact idle.2
    have pending : s.hl.flagged k = true := h.resolve_right (by simp [noTx])
    unfold State.hostKick
    rw [if_pos idle]
    split
    · exact .inl pending
    split
    · exact .inl pending
    split
    · exact .inl pending
    split
    · exact .inl pending
    next j _ =>
      by_cases same : j = k
      · exact .inr ⟨_, congrArg (fun i => some (HostTx.notice i (s.noticeFields j))) same⟩
      · exact .inl (by simp [State.flagged_startNotice, pending, same])
  · rwa [State.hostKick_of_busy (Bool.eq_false_of_not_eq_true idle)]

end Sys2Proof.Machine
end

section
/-! The blocks of a node at a departure from OPERATIONAL (04 R66), and of a node that is suspended. -/

namespace Sys2Proof.Machine

/-! ### The departure -/

/-- The sweeping of a leader stops (06 R107). -/
theorem State.leaveOperational_se (s : State) (n : NodeState) (c : ExitCause) :
    (s.leaveOperational n c).se = if s.cc.claim.isSome then s.se.abandon else s.se := by
  by_cases h : s.cc.claim.isSome = true <;> simp [State.leaveOperational, h]

/-- The releases fall; at a leader every door command ends ABORTED and TRAIN-CLOSED falls (07 R139). -/
theorem State.leaveOperational_dcu (s : State) (n : NodeState) (c : ExitCause) :
    (s.leaveOperational n c).dcu =
      if s.cc.claim.isSome then
        { s.dcu with
          release1 := false, release2 := false, queue := [], inFlight := none, echoTimer := none, fence := false,
          trainClosed := false,
          results := joinResults s.dcu.results
            (abortResults (s.dcu.inFlight.map fun f => (f.first, f.last)) s.dcu.queue) }
      else { s.dcu with release1 := false, release2 := false } := by
  by_cases h : s.cc.claim.isSome = true <;>
    simp [State.leaveOperational, State.setReleases, State.abortDoors, State.addResults, State.setTrainClosed, h]

/-- The held grant is 0 and the watchdog stops; at a leader the grants are 0 (08 R148, R151). -/
theorem State.leaveOperational_ha (s : State) (n : NodeState) (c : ExitCause) :
    (s.leaveOperational n c).ha =
      if s.cc.claim.isSome then { s.ha with held := 0, watchdog := none, grants := List.replicate 32 0 }
      else { s.ha with held := 0, watchdog := none } := by
  by_cases h : s.cc.claim.isSome = true <;>
    simp [State.leaveOperational, State.heatingLeaves, State.setHeld, State.zeroGrants, h]

theorem State.setReleases_still (s : State) (a b : Bool) : (s.setReleases a b).hl.still = s.hl.still :=
  State.raiseIf_still _ _ _

theorem State.addResults_still (s : State) (l : List DoorResult) : (s.addResults l).hl.still = s.hl.still :=
  State.raiseIf_still _ _ _

theorem State.setTrainClosed_still (s : State) (v : Bool) : (s.setTrainClosed v).hl.still = s.hl.still :=
  State.raiseIf_still _ _ _

theorem State.setHeld_still (s : State) (v : Nat) : (s.setHeld v).hl.still = s.hl.still :=
  State.raiseIf_still _ _ _

theorem State.abortDoors_still (s : State) : s.abortDoors.hl.still = s.hl.still := by
  rw [State.abortDoors, State.setTrainClosed_still, State.addResults_still, State.modDcu_hl]

theorem State.heatingLeaves_still (s : State) : s.heatingLeaves.hl.still = s.hl.still := by
  unfold State.heatingLeaves
  split <;> exact s.setHeld_still 0

/-- CONSIST is raised last, and before it only other notices (04 R66). -/
theorem State.leaveOperational_hl (s : State) (n : NodeState) (c : ExitCause) :
    ∃ h : HostLink, h.still = s.hl.still ∧ (s.leaveOperational n c).hl = h.raise .consist := by
  refine ⟨_, ?_, rfl⟩
  by_cases lead : s.cc.claim.isSome = true
  · simp only [lead, if_true, State.modCc_hl, State.modSe_hl, State.heatingLeaves_still, State.abortDoors_still,
      State.setReleases_still]
  · simp only [lead, Bool.false_eq_true, if_false, State.modCc_hl, State.heatingLeaves_still, State.setReleases_still]

/-! ### A node that is suspended -/

@[simp] theorem State.suspend_port1 (s : State) (c : ExitCause) : (s.suspend c).port1 = s.port1 := s.suspend_port c .p1

@[simp] theorem State.suspend_port2 (s : State) (c : ExitCause) : (s.suspend c).port2 = s.port2 := s.suspend_port c .p2

theorem State.suspend_of_operational {s : State} (h : s.cc.node = .operational) (c : ExitCause) :
    s.suspend c = s.leaveOperational .suspended c := by simp only [State.suspend, h]

/-- At a node that is not OPERATIONAL the other blocks do not act. -/
theorem State.suspend_blocks_of_ne {s : State} (h : s.cc.node ≠ .operational) (c : ExitCause) :
    (s.suspend c).se = s.se ∧ (s.suspend c).dcu = s.dcu ∧ (s.suspend c).ha = s.ha ∧ (s.suspend c).hl = s.hl := by
  unfold State.suspend
  split
  next op => exact absurd op h
  all_goals exact ⟨rfl, rfl, rfl, rfl⟩

theorem State.suspend_sameHost (s : State) (c : ExitCause) : sameHost s (s.suspend c) := by
  by_cases op : s.cc.node = .operational
  · obtain ⟨h, still, hl⟩ := s.leaveOperational_hl .suspended c
    rw [State.suspend_of_operational op, sameHost, hl, HostLink.still_raise, still]
  · obtain ⟨-, -, -, hl⟩ := State.suspend_blocks_of_ne op c
    rw [sameHost, hl]

theorem State.suspend_sameSettings (s : State) (c : ExitCause) : sameSettings s (s.suspend c) := by
  by_cases op : s.cc.node = .operational
  · rw [State.suspend_of_operational op]
    by_cases lead : s.cc.claim.isSome = true <;>
      simp [sameSettings, State.leaveOperational_cc, State.leaveOperational_se, State.leaveOperational_dcu,
        State.leaveOperational_ha, SweepState.abandon, lead]
  · obtain ⟨hse, hdcu, hha, -⟩ := State.suspend_blocks_of_ne op c
    have coach : (s.suspend c).cc.coach = s.cc.coach := by
      rw [State.suspend_cc]
      split <;> rfl
    simp [sameSettings, hse, hdcu, hha, coach]

/-- A suspended node that was OPERATIONAL has left it in every block; another node's blocks stay. -/
theorem State.suspend_leftOperational (s : State) (c : ExitCause) : leftOperational s (s.suspend c) := by
  by_cases op : s.cc.node = .operational
  · obtain ⟨h, still, hl⟩ := s.leaveOperational_hl .suspended c
    have toldConsist : s.hl.masked .consist = true → told (s.leaveOperational .suspended c) .consist := fun masked =>
      .inl (by simp [hl, HostLink.masked_of_still still, masked])
    rw [State.suspend_of_operational op]
    refine ⟨fun _ => ?_, fun ne => absurd op ne⟩
    cases lead : s.cc.claim <;>
      simpa [State.leaveOperational_se, State.leaveOperational_dcu, State.leaveOperational_ha, SweepState.abandon, lead]
        using toldConsist
  · obtain ⟨hse, hdcu, hha, -⟩ := State.suspend_blocks_of_ne op c
    exact ⟨fun h => absurd h op, fun _ => by simp [hse, hdcu, hha]⟩

/-! ### What a departure says is read off the other blocks -/

/-- A later change of the Consist Controller or the Host Link that keeps CONSIST told keeps what a departure did. -/
theorem leftOperational_of_blocks {s t u : State} (left : leftOperational s t) (hse : u.se = t.se) (hdcu : u.dcu = t.dcu)
    (hha : u.ha = t.ha) (consist : told t .consist → told u .consist) : leftOperational s u := by
  obtain ⟨atOperational, elsewhere⟩ := left
  simp only [leftOperational, hse, hdcu, hha]
  refine ⟨fun op => ?_, elsewhere⟩
  obtain ⟨r1, r2, held, watchdog, notice, rest⟩ := atOperational op
  exact ⟨r1, r2, held, watchdog, fun masked => consist (notice masked), rest⟩

theorem sameSettings_of_blocks {s t u : State} (same : sameSettings s t) (hse : u.se = t.se) (hdcu : u.dcu = t.dcu)
    (hha : u.ha = t.ha) (coach : u.cc.coach = t.cc.coach) : sameSettings s u := by
  simpa only [sameSettings, hse, hdcu, hha, coach] using same

end Sys2Proof.Machine
end

section
/-! A request that finds a slot free (09 R170, R171), and the requests about the lead claim (05 R80, R81, R83, R99). -/

namespace Sys2Proof.Machine

/-! ### A request with a slot -/

/-- The request's frame has ended, and the request holds a slot (09 R169, R170); `State.exec_request` ties it to `exec`. -/
def State.holding (s : State) (kind tag : Nat) (payload : List Nat) : State :=
  s.modHl fun h => { h with assembler := none, frameTimer := none, slots := h.slots ++ [{ kind, tag, payload }] }

/-- The owner's answer has joined the reply queue (09 R171). -/
def Answer.queued (a : Answer) (kind tag : Nat) : State :=
  a.state.modHl fun h => { h with replies := h.replies ++ [{ kind, tag, status := a.status, fields := a.fields }] }

/-- A request of the right length that finds a slot free is answered by its owner. -/
theorem State.request_done {s : State} {kind : Nat} {payload : List Nat} (slot : takesSlot s)
    (length : requestBytes kind = some payload.length) (tag : Nat) (owner : State → Answer) :
    (s.request kind tag payload owner).done =
      .next ((owner (s.holding kind tag payload)).queued kind tag).hostKick := by
  obtain ⟨listening, inFrame, free⟩ := slot
  rw [State.request_free (s.hostFraming_iff.mpr ⟨listening, inFrame⟩) free, State.takeRequest,
    State.answer_owner length rfl]
  rfl

/-- A refused request leaves only its slot and its reply. -/
theorem State.refuse_queued (s : State) (kind tag : Nat) (payload : List Nat) (status : Status) :
    ((s.holding kind tag payload).refuse status).queued kind tag = s.replied kind tag payload status [] := rfl

/-! ### The walk trigger and the lead claim -/

/-- A walk trigger at the Consist Controller (05 R83). -/
def Consist.triggered (c : Consist) : Consist :=
  if c.claim.isSome && c.walk == .idle then { c with walk := .settling, settleTimer := some 0 } else c

theorem State.walkTrigger_eq_modCc (s : State) : s.walkTrigger = s.modCc Consist.triggered := by
  unfold State.walkTrigger State.modCc Consist.triggered
  split <;> rfl

theorem Consist.triggered_of_idle {c : Consist} (claimed : c.claim.isSome = true) (idle : c.walk = .idle) :
    c.triggered = { c with walk := .settling, settleTimer := some 0 } := by simp [Consist.triggered, claimed, idle]

/-- Outside IDLE a walk trigger is absorbed. -/
theorem Consist.triggered_of_busy {c : Consist} (busy : c.walk ≠ .idle) : c.triggered = c := by
  simp [Consist.triggered, busy]

theorem Consist.triggered_coach (c : Consist) : c.triggered.coach = c.coach := by
  unfold Consist.triggered
  split <;> rfl

/-- The lead claim of a node changes: the node is SUSPENDED with a cause where it stood in a consist, the Consist Controller takes the
change, and LEAD is raised (04 R69, 05 R80, R81). -/
def State.leadChange (s : State) (cause : ExitCause) (f : Consist → Consist) : State :=
  ((s.suspend cause).modCc f).raise .lead

/-- What a new claim at a cab end sets (05 R80). -/
def Consist.claimed (c : Consist) (e : PortId) : Consist :=
  { c with claim := some e, front := some e, orientation := some (orientationOf e), leadCause := .claimed }

/-- What the end of a dropped claim sets (05 R81). -/
def Consist.dropped (c : Consist) : Consist :=
  { c.abandonWalk with
    claim := none, leadCause := .dropped,
    front := if c.position.isSome then c.front else none,
    orientation := if c.position.isSome then c.orientation else none }

theorem State.acceptClaim_eq_leadChange (s : State) (e : PortId) :
    s.acceptClaim e = s.leadChange .claim fun c => (c.claimed e).triggered := by
  rw [State.acceptClaim, State.walkTrigger_eq_modCc]
  rfl

theorem State.dropClaim_eq_leadChange (s : State) :
    (s.suspend .drop).endClaim .dropped = s.leadChange .drop Consist.dropped := rfl

/-- What a request that changes the lead claim does outside the Consist Controller: the node's blocks leave OPERATIONAL, LEAD is told
and the reply stands; ports, system and settings stay. -/
def leadChanged (s t : State) (kind tag : Nat) : Prop :=
  leftOperational s t ∧ sameSettings s t ∧ (s.hl.masked .lead = true → told t .lead) ∧ samePorts s t ∧
    t.hl.replies = s.hl.replies ++ [{ kind, tag, status := .ok, fields := [] }] ∧ sameSystem s t

theorem State.leadChange_answered (s : State) (kind tag : Nat) (payload : List Nat) (cause : ExitCause)
    {f : Consist → Consist} (coach : ∀ c, (f c).coach = c.coach) :
    let t := ((((s.holding kind tag payload).leadChange cause f).accept noFields).queued kind tag).hostKick
    t.cc = f (s.suspend cause).cc ∧ leadChanged s t kind tag := by
  intro t
  let u := s.holding kind tag payload
  have host : (u.suspend cause).hl.still = u.hl.still := u.suspend_sameHost cause
  have left : leftOperational u (u.suspend cause) := u.suspend_leftOperational cause
  have settings : sameSettings u (u.suspend cause) := u.suspend_sameSettings cause
  have hse : t.se = (u.suspend cause).se := State.hostKick_se _
  have hdcu : t.dcu = (u.suspend cause).dcu := State.hostKick_dcu _
  have hha : t.ha = (u.suspend cause).ha := State.hostKick_ha _
  have hcc : t.cc = f (u.suspend cause).cc := State.hostKick_cc _
  have consist : told (u.suspend cause) .consist → told t .consist := fun h => told_hostKick (told_raise .lead h)
  have lead : s.hl.masked .lead = true → told t .lead := fun masked =>
    told_hostKick (told_raise_self (s := (u.suspend cause).modCc f) ((HostLink.masked_of_still host .lead).trans masked))
  refine ⟨?_, leftOperational_of_blocks left hse hdcu hha consist,
    sameSettings_of_blocks settings hse hdcu hha (by rw [hcc, coach]), lead, ?_, ?_, ?_⟩
  · rw [hcc, State.suspend_cc, State.suspend_cc]
    rfl
  · exact ⟨(State.hostKick_port1 _).trans (u.suspend_port1 cause), (State.hostKick_port2 _).trans (u.suspend_port2 cause)⟩
  · rw [State.hostKick_hl_replies]
    have replies : (u.suspend cause).hl.replies = u.hl.replies := HostLink.replies_of_still host
    exact congrArg (· ++ _) replies
  · exact ⟨(State.hostKick_sys _).trans (u.suspend_sys cause), (State.hostKick_pending _).trans (u.suspend_pending cause)⟩

/-- The Consist Controller of a node after it was suspended, field by field (04 R66). -/
theorem State.suspend_cc_fields (s : State) (cause : ExitCause) :
    (s.suspend cause).cc = { s.cc with
      node := if s.cc.node = .operational ∨ s.cc.node = .provisional then .suspended else s.cc.node,
      lastExit := if s.cc.node = .operational ∨ s.cc.node = .provisional then cause else s.cc.lastExit,
      confirmTimer := if s.cc.node = .provisional then none else s.cc.confirmTimer,
      silenceTimer := if s.cc.node = .operational then none else s.cc.silenceTimer } := by
  rw [State.suspend_cc]
  rcases h : s.cc with ⟨node, _⟩
  cases node <;> rfl

/-! ### Claim Lead -/

theorem portOfNumber_eq_none_iff (n : Nat) : portOfNumber n = none ↔ n = 0 ∨ 2 < n := by
  match n with
  | 0 | 1 | 2 => simp [portOfNumber]
  | _ + 3 => simp [portOfNumber]

theorem State.reqClaimLead_range {n : Nat} (noEnd : portOfNumber n = none) (s : State) :
    s.reqClaimLead n = s.refuse .range := by simp only [State.reqClaimLead, noEnd]

/-- An isolated node, a neighbour at the cab end or a claim at the other end refuses the claim (05 R80). -/
theorem State.reqClaimLead_state {s : State} {n : Nat} {e : PortId} (cabEnd : portOfNumber n = some e)
    (bar : s.cc.node = .isolated ∨ s.hasNeighbour e = true ∨ s.cc.claim = some (other e)) :
    s.reqClaimLead n = s.refuse .state := by
  have otherEnd : other e ≠ e := by cases e <;> decide
  simp only [State.reqClaimLead, cabEnd]
  split
  · rfl
  · next free =>
    have held : s.cc.claim = some (other e) := by
      rcases bar with isolated | present | held
      · exact absurd (.inl isolated) free
      · exact absurd (.inr present) free
      · exact held
    simp only [held, otherEnd, if_false]

/-- A claim at the end that is held already is a walk trigger (05 R80). -/
theorem State.reqClaimLead_held {s : State} {n : Nat} {e : PortId} (cabEnd : portOfNumber n = some e)
    (node : s.cc.node ≠ .isolated) (absent : s.hasNeighbour e = false) (held : s.cc.claim = some e) :
    s.reqClaimLead n = s.walkTrigger.accept noFields := by
  simp [State.reqClaimLead, cabEnd, node, absent, held]

theorem State.reqClaimLead_new {s : State} {n : Nat} {e : PortId} (cabEnd : portOfNumber n = some e)
    (node : s.cc.node ≠ .isolated) (absent : s.hasNeighbour e = false) (free : s.cc.claim = none) :
    s.reqClaimLead n = (s.acceptClaim e).accept noFields := by
  simp [State.reqClaimLead, cabEnd, node, absent, free]

section
variable {s : State} (slot : takesSlot s) (tag : Nat)
include slot

theorem exec_claimLead (n : Nat) :
    exec (.claimLead tag [n]) s = .next (((s.holding 0x03 tag [n]).reqClaimLead n).queued 0x03 tag).hostKick :=
  State.request_done slot rfl tag _

theorem exec_dropLead :
    exec (.dropLead tag []) s = .next ((s.holding 0x04 tag []).reqDropLead.queued 0x04 tag).hostKick :=
  State.request_done slot rfl tag _

theorem exec_startInauguration :
    exec (.startInauguration tag []) s =
      .next ((s.holding 0x05 tag []).reqStartInauguration.queued 0x05 tag).hostKick :=
  State.request_done slot rfl tag _

theorem exec_claimLead_range {n : Nat} (range : n = 0 ∨ 2 < n) :
    exec (.claimLead tag [n]) s = .next (s.replied 0x03 tag [n] .range []).hostKick := by
  rw [exec_claimLead slot, State.reqClaimLead_range ((portOfNumber_eq_none_iff n).mpr range), State.refuse_queued]

theorem exec_claimLead_state {n : Nat} {e : PortId} (cabEnd : portOfNumber n = some e)
    (bar : s.cc.node = .isolated ∨ s.hasNeighbour e = true ∨ s.cc.claim = some (other e)) :
    exec (.claimLead tag [n]) s = .next (s.replied 0x03 tag [n] .state []).hostKick := by
  rw [exec_claimLead slot, State.reqClaimLead_state (s := s.holding 0x03 tag [n]) cabEnd bar, State.refuse_queued]

theorem exec_claimLead_held {n : Nat} {e : PortId} (cabEnd : portOfNumber n = some e) (node : s.cc.node ≠ .isolated)
    (absent : s.hasNeighbour e = false) (held : s.cc.claim = some e) :
    exec (.claimLead tag [n]) s = .next (State.replied s.walkTrigger 0x03 tag [n] .ok []).hostKick := by
  rw [exec_claimLead slot, State.reqClaimLead_held (s := s.holding 0x03 tag [n]) cabEnd node absent held,
    State.walkTrigger_eq_modCc, State.walkTrigger_eq_modCc]
  rfl

/-- A new claim suspends its node, makes the cab end its front port and starts the settle timer (05 R80, 04 R69). -/
theorem exec_claimLead_new {n : Nat} {e : PortId} (cabEnd : portOfNumber n = some e) (node : s.cc.node ≠ .isolated)
    (absent : s.hasNeighbour e = false) (free : s.cc.claim = none) (idle : s.cc.walk = .idle) :
    completes (exec (.claimLead tag [n]) s) fun t =>
      t.cc = { s.cc with
        claim := some e, front := some e, orientation := some (orientationOf e), leadCause := .claimed,
        walk := .settling, settleTimer := some 0,
        node := if s.cc.node = .detached then .detached else .suspended,
        lastExit := if s.cc.node = .operational ∨ s.cc.node = .provisional then .claim else s.cc.lastExit,
        confirmTimer := if s.cc.node = .provisional then none else s.cc.confirmTimer,
        silenceTimer := if s.cc.node = .operational then none else s.cc.silenceTimer } ∧
      leadChanged s t 0x03 tag := by
  have claimCoach (c : Consist) : (c.claimed e).triggered.coach = c.coach := Consist.triggered_coach _
  obtain ⟨hcc, rest⟩ := s.leadChange_answered 0x03 tag [n] .claim claimCoach
  refine ⟨_, exec_claimLead slot tag n, ?_⟩
  rw [State.reqClaimLead_new (s := s.holding 0x03 tag [n]) cabEnd node absent free, State.acceptClaim_eq_leadChange]
  refine ⟨hcc.trans ?_, rest⟩
  have nodeAfter : (if s.cc.node = .operational ∨ s.cc.node = .provisional then NodeState.suspended else s.cc.node) =
      if s.cc.node = .detached then .detached else .suspended := by
    cases h : s.cc.node <;> simp_all
  rw [State.suspend_cc_fields, nodeAfter]
  exact Consist.triggered_of_idle rfl idle

/-! ### Drop Lead -/

theorem exec_dropLead_notLead (free : s.cc.claim = none) :
    exec (.dropLead tag []) s = .next (s.replied 0x04 tag [] .notLead []).hostKick := by
  rw [exec_dropLead slot, State.reqDropLead, if_neg (by simp [State.holding, free]), State.refuse_queued]

/-- A drop abandons the walk and suspends a node that stands in a consist (05 R79, R81). -/
theorem exec_dropLead_claimed (claimed : s.cc.claim.isSome = true) :
    completes (exec (.dropLead tag []) s) fun t =>
      t.cc = { s.cc with
        claim := none, leadCause := .dropped, walk := .idle, settleTimer := none, walkTimer := none, records := [],
        callHeld := false, front := if s.cc.position.isSome then s.cc.front else none,
        orientation := if s.cc.position.isSome then s.cc.orientation else none,
        node := if s.cc.node = .operational ∨ s.cc.node = .provisional then .suspended else s.cc.node,
        lastExit := if s.cc.node = .operational ∨ s.cc.node = .provisional then .drop else s.cc.lastExit,
        confirmTimer := if s.cc.node = .provisional then none else s.cc.confirmTimer,
        silenceTimer := if s.cc.node = .operational then none else s.cc.silenceTimer } ∧
      leadChanged s t 0x04 tag := by
  obtain ⟨hcc, rest⟩ := s.leadChange_answered 0x04 tag [] .drop (f := Consist.dropped) fun _ => rfl
  refine ⟨_, exec_dropLead slot tag, ?_⟩
  rw [State.reqDropLead, if_pos (show (s.holding 0x04 tag []).cc.claim.isSome = true from claimed),
    State.dropClaim_eq_leadChange]
  refine ⟨hcc.trans ?_, rest⟩
  rw [State.suspend_cc_fields]
  rfl

/-! ### Start Inauguration -/

theorem exec_startInauguration_notLead (free : s.cc.claim = none) :
    exec (.startInauguration tag []) s = .next (s.replied 0x05 tag [] .notLead []).hostKick := by
  rw [exec_startInauguration slot, State.reqStartInauguration, if_neg (by simp [State.holding, free]),
    State.refuse_queued]

/-- At a claimant Start Inauguration is a walk trigger, and its reply is the walk engine's state after it (05 R99). -/
theorem exec_startInauguration_claimed (claimed : s.cc.claim.isSome = true) :
    exec (.startInauguration tag []) s =
      .next (State.replied { s with cc := s.cc.triggered } 0x05 tag [] .ok
        [walkStateCode s.cc.triggered.walk]).hostKick := by
  rw [exec_startInauguration slot, State.reqStartInauguration,
    if_pos (show (s.holding 0x05 tag []).cc.claim.isSome = true from claimed), State.walkTrigger_eq_modCc]
  rfl

end

/-- Settles O50: each request, in each of its cases, by what its owner answers there. -/
theorem leadRequestsChangeTheClaim : Obligations.LeadRequestsChangeTheClaim := by
  intro s tag n e slot
  refine ⟨exec_claimLead_range slot tag, exec_claimLead_state slot tag, fun cabEnd node absent =>
    ⟨exec_claimLead_held slot tag cabEnd node absent, exec_claimLead_new slot tag cabEnd node absent⟩,
    fun free => ⟨exec_dropLead_notLead slot tag free, exec_startInauguration_notLead slot tag free⟩,
    exec_dropLead_claimed slot tag, fun claimed => ⟨fun idle => ?_, fun busy => ?_⟩⟩
  · rw [exec_startInauguration_claimed slot tag claimed, Consist.triggered_of_idle claimed idle]
    rfl
  · rw [exec_startInauguration_claimed slot tag claimed, Consist.triggered_of_busy busy]

end Sys2Proof.Machine
end

section
/-! The sweep interval and its request (06 R106). -/

namespace Sys2Proof.Machine

/-! ### The applied interval -/

/-- Rounding down to a multiple of 10 takes the remainder off. -/
theorem appliedInterval_eq (v : Nat) :
    appliedInterval v = if v < 50 then 50 else if 1000 < v then 1000 else v - v % 10 := by
  have rounded : v / 10 * 10 = v - v % 10 := by omega
  rw [appliedInterval, rounded]

theorem appliedInterval_le (v : Nat) : appliedInterval v ≤ 1000 := by
  unfold appliedInterval
  split
  · decide
  · split <;> omega

/-- Below 2^16 the high byte of a two-byte field is the whole quotient. -/
theorem byte2_of_lt {n : Nat} (small : n < 65536) : byte2 n = [n / 256, n % 256] := by
  have high : n / 256 < 256 := by omega
  rw [byte2, Nat.mod_eq_of_lt high]

theorem byte2_appliedInterval (v : Nat) :
    byte2 (appliedInterval v) = [appliedInterval v / 256, appliedInterval v % 256] :=
  byte2_of_lt (Nat.lt_of_le_of_lt (appliedInterval_le v) (by decide))

/-! ### Set Sweep Interval -/

/-- The request that holds its slot sets the interval and queues it in the reply; nothing else changes. -/
theorem State.reqSetSweepInterval_queued (s : State) (kind tag v : Nat) (payload : List Nat) :
    ((s.holding kind tag payload).reqSetSweepInterval v).queued kind tag =
      State.replied { s with se := { s.se with interval := appliedInterval v } } kind tag payload .ok
        (byte2 (appliedInterval v)) := rfl

theorem exec_setSweepInterval {s : State} (slot : takesSlot s) (tag v1 v0 : Nat) :
    exec (.setSweepInterval tag [v1, v0]) s =
      .next (((s.holding 0x10 tag [v1, v0]).reqSetSweepInterval (v1 * 256 + v0)).queued 0x10 tag).hostKick :=
  State.request_done slot rfl tag _

/-- Settles O49: the request's owner stores the clamped and rounded value, and its two bytes are the reply. -/
theorem sweepIntervalIsClampedAndApplied : Obligations.SweepIntervalIsClampedAndApplied := by
  intro s tag v1 v0 slot v applied
  have value : appliedInterval v = applied := appliedInterval_eq v
  rw [exec_setSweepInterval slot, State.reqSetSweepInterval_queued, byte2_appliedInterval, value]

end Sys2Proof.Machine
end

section
/-! The output pins (10 R183): the condition of each one, and the running phase that all of them need. -/

namespace Sys2Proof.Machine

/-! ### The leader's condition -/

theorem State.operationalLeader_iff (s : State) :
    s.operationalLeader = true ↔ s.cc.claim ≠ none ∧ s.cc.node = .operational := by
  simp [State.operationalLeader, Option.isSome_iff_ne_none]

/-! ### When a pin is high -/

theorem State.release1Out_iff (s : State) : s.release1Out = true ↔ s.running = true ∧ s.dcu.release1 = true :=
  Bool.and_eq_true_iff

theorem State.release2Out_iff (s : State) : s.release2Out = true ↔ s.running = true ∧ s.dcu.release2 = true :=
  Bool.and_eq_true_iff

theorem State.trainClosedOut_iff (s : State) :
    s.trainClosedOut = true ↔ s.running = true ∧ s.dcu.trainClosed = true :=
  Bool.and_eq_true_iff

/-- HEAT-ENABLE (08 R147). -/
theorem State.heatEnable_iff (s : State) :
    s.heatEnable = true ↔
      s.running = true ∧ s.cc.node = .operational ∧ 0 < s.ha.held ∧ s.ha.watchdog ≠ none := by
  simp [State.heatEnable, Option.isSome_iff_ne_none, and_assoc]

/-- SUPPLY-ENABLE (08 R153). -/
theorem State.supplyEnable_iff (s : State) :
    s.supplyEnable = true ↔
      s.running = true ∧ s.cc.claim ≠ none ∧ s.cc.node = .operational ∧ 0 < s.ha.capacity ∧
        s.ha.holdOff = none ∧ s.ha.lockout = false := by
  simp [State.supplyEnable, State.operationalLeader_iff, and_assoc]

/-- THRU-HOLD (03 R58). -/
theorem State.thruHold_iff (s : State) : s.thruHold = true ↔ s.running = true ∧ s.cc.node ≠ .isolated := by
  simp [State.thruHold]

/-! ### The gate of the running phase -/

/-- A pin that is high only while the part runs is low outside the running phase. -/
theorem State.pin_low_of_not_running {s : State} {pin : Bool} {condition : Prop} (stopped : s.running = false)
    (high : pin = true ↔ s.running = true ∧ condition) : pin = false :=
  Bool.eq_false_iff.mpr fun isHigh => Bool.eq_false_iff.mp stopped (high.mp isHigh).left

/-- While the part runs, only a pin's own condition is left. -/
theorem State.pin_iff_of_running {s : State} {pin : Bool} {condition : Prop} (running : s.running = true)
    (high : pin = true ↔ s.running = true ∧ condition) : pin = true ↔ condition :=
  high.trans (and_iff_right running)

/-- Settles O3: each pin's condition, once with the gate of the running phase shut and once with it open. -/
theorem outputPinsFollowTheirConditions : Obligations.OutputPinsFollowTheirConditions := by
  intro s
  constructor
  · intro stopped
    have low {pin condition} := State.pin_low_of_not_running (pin := pin) (condition := condition) stopped
    exact ⟨low s.release1Out_iff, low s.release2Out_iff, low s.heatEnable_iff, low s.supplyEnable_iff,
      low s.trainClosedOut_iff, low s.thruHold_iff, stopped⟩
  · intro running
    have follows {pin condition} := State.pin_iff_of_running (pin := pin) (condition := condition) running
    exact ⟨follows s.heatEnable_iff, follows s.supplyEnable_iff, Bool.eq_iff_iff.mpr (follows s.release1Out_iff),
      Bool.eq_iff_iff.mpr (follows s.release2Out_iff), Bool.eq_iff_iff.mpr (follows s.trainClosedOut_iff),
      follows s.thruHold_iff⟩

end Sys2Proof.Machine
end

section
/-! Properties of the state that what a port does keeps: a property that survives each change of one port's own blocks, each
notice, each neighbour event and each delivery survives everything the port's commands do. One such induction serves the
invariants of the part and what a command leaves unchanged. -/

namespace Sys2Proof.Machine

/-! ### The queues of a relay (02 R37 to R40) -/

theorem ClassQueue.agings_le_of_waited_le {q q' : ClassQueue} (c : Cls) (h : q.waited ≤ q'.waited) :
    q.agings c ≤ q'.agings c := by
  unfold ClassQueue.agings
  omega

theorem ClassQueue.hold_aged_le {q : ClassQueue} {c : Cls} (l : List Frame) (h : q.aged ≤ q.agings c) :
    (q.hold l).aged ≤ (q.hold l).agings c := by
  obtain ⟨_, e⟩ | ⟨_, e⟩ := q.hold_cases l <;> rw [e]
  · exact Nat.zero_le _
  · exact h

/-- A class's queue holds at most so many frames. -/
def queueRoom : Cls → Nat
  | .beat => 1
  | _ => 4

/-- The queue invariant, class by class. -/
theorem Relay.inv_iff (r : Relay) :
    r.inv ↔ (∀ c, (r.queue c).frames.length ≤ queueRoom c) ∧
      (∀ c f, r.slot = some (c, f) → c ≠ .beat ∧ (r.queue c).frames.length = 4) ∧
      ∀ c, (r.queue c).aged ≤ (r.queue c).agings c := by
  constructor
  · rintro ⟨h1, h2, h3, h4, h5, hslot, haged⟩
    exact ⟨fun c => by cases c <;> assumption, hslot, haged⟩
  · rintro ⟨hroom, hslot, haged⟩
    exact ⟨hroom .control, hroom .door, hroom .grant, hroom .sweep, hroom .beat, hslot, haged⟩

/-- A relay whose queues and slot stand as they were keeps the invariant. -/
theorem Relay.inv_of_queues {r r' : Relay} (hq : ∀ c, r'.queue c = r.queue c) (hs : r'.slot = r.slot) (h : r.inv) :
    r'.inv := by
  rw [Relay.inv_iff] at h ⊢
  simpa only [hq, hs] using h

/-- A relay with one queue replaced keeps the invariant if that queue fits and the slot's queue stays full. -/
theorem Relay.setQueue_inv {r : Relay} {c : Cls} {q : ClassQueue} (h : r.inv) (room : q.frames.length ≤ queueRoom c)
    (full : ∀ f, r.slot = some (c, f) → q.frames.length = 4) (aged : q.aged ≤ q.agings c) : (r.setQueue c q).inv := by
  rw [Relay.inv_iff] at h ⊢
  obtain ⟨hroom, hslot, haged⟩ := h
  refine ⟨fun c' => ?_, fun c' f hf => ?_, fun c' => ?_⟩
  · by_cases e : c' = c
    · subst e; simpa using room
    · simpa [Relay.setQueue_queue_ne r q e] using hroom c'
  · rw [Relay.setQueue_slot] at hf
    by_cases e : c' = c
    · subst e; exact ⟨(hslot _ f hf).1, by simpa using full f hf⟩
    · simpa [Relay.setQueue_queue_ne r q e] using hslot c' f hf
  · by_cases e : c' = c
    · subst e; simpa using aged
    · simpa [Relay.setQueue_queue_ne r q e] using haged c'

theorem Relay.enqueue_inv {r : Relay} (h : r.inv) (c : Cls) (f : Frame) : (r.enqueue c f).inv := by
  obtain ⟨hroom, hslot, haged⟩ := r.inv_iff.mp h
  unfold Relay.enqueue
  split
  · exact Relay.setQueue_inv (c := .beat) h (by simp [queueRoom]) (fun g hg => absurd rfl (hslot _ g hg).1)
      (ClassQueue.hold_aged_le _ (haged .beat))
  · next notBeat =>
    have room : queueRoom c = 4 := by cases c <;> first | rfl | exact absurd rfl notBeat
    split
    · next free =>
      refine Relay.setQueue_inv h (by simp [room]; omega) (fun g hg => ?_) (ClassQueue.hold_aged_le _ (haged c))
      have := (hslot c g hg).2
      omega
    · next full =>
      have four : (r.queue c).frames.length = 4 := by
        have := hroom c
        omega
      refine (Relay.inv_iff _).mpr ⟨fun c' => hroom c', fun c' g hg => ?_, fun c' => haged c'⟩
      obtain ⟨rfl, rfl⟩ : c = c' ∧ f = g := by simpa using hg
      exact ⟨notBeat, four⟩

theorem Relay.takeHead_inv {r r' : Relay} {c : Cls} {f : Frame} (h : r.inv) (e : r.takeHead c = some (f, r')) :
    r'.inv := by
  obtain ⟨rest, hfr, hq, hs, hne, -⟩ := Relay.takeHead_eq_some e
  obtain ⟨hroom, hslot, haged⟩ := r.inv_iff.mp h
  have len : (joinFromSlot c rest r.slot).1.length ≤ queueRoom c := by
    have hr := hroom c
    rw [hfr, List.length_cons] at hr
    unfold joinFromSlot
    split
    · exact Nat.le_of_succ_le hr
    · split
      · simpa using hr
      · exact Nat.le_of_succ_le hr
  have slotOf : ∀ c' g, r'.slot = some (c', g) → r.slot = some (c', g) ∧ c' ≠ c := by
    intro c' g hg
    rw [hs] at hg
    unfold joinFromSlot at hg
    split at hg
    · simp at hg
    · split at hg
      · simp at hg
      · next ne => simp only [Option.some.injEq, Prod.mk.injEq] at hg; simp_all
  refine r'.inv_iff.mpr ⟨fun c' => ?_, fun c' g hg => ?_, fun c' => ?_⟩
  · by_cases e : c' = c
    · subst e; rw [hq]; exact len
    · rw [hne c' e]; exact hroom c'
  · obtain ⟨hg, ne⟩ := slotOf c' g hg
    rw [hne c' ne]
    exact hslot c' g hg
  · by_cases e : c' = c
    · subst e; rw [hq]; exact Nat.zero_le _
    · rw [hne c' e]; exact haged c'

theorem Relay.reset_inv : Relay.reset.inv :=
  (Relay.inv_iff _).mpr ⟨fun c => by cases c <;> decide, nofun, fun c => by cases c <;> decide⟩

theorem Relay.flush_inv (r : Relay) : r.flush.inv :=
  Relay.inv_of_queues (r := .reset) (fun c => by cases c <;> rfl) rfl Relay.reset_inv

/-- An aging that is due keeps the level of the head within its waiting time (02 R40). -/
theorem Relay.age_inv {r : Relay} {c : Cls} (h : r.inv) (due : (r.queue c).agingDue c = true) :
    (r.setQueue c (r.queue c).age).inv := by
  obtain ⟨hroom, hslot, -⟩ := r.inv_iff.mp h
  simp only [ClassQueue.agingDue, Bool.and_eq_true, decide_eq_true_eq] at due
  exact Relay.setQueue_inv h (hroom c) (fun f hf => (hslot c f hf).2) due.2

theorem Relay.tick_queue (r : Relay) (c : Cls) : r.tick.queue c = (r.queue c).tick := by cases c <;> rfl

theorem Relay.tick_inv {r : Relay} (h : r.inv) : r.tick.inv := by
  obtain ⟨hroom, hslot, haged⟩ := r.inv_iff.mp h
  have frames (c : Cls) : (r.tick.queue c).frames = (r.queue c).frames := by
    rw [Relay.tick_queue]; unfold ClassQueue.tick; split <;> rfl
  refine r.tick.inv_iff.mpr ⟨fun c => (frames c).symm ▸ hroom c, fun c f hf => ?_, fun c => ?_⟩
  · rw [frames]
    exact hslot c f hf
  · rw [Relay.tick_queue]
    unfold ClassQueue.tick
    split
    · exact haged c
    · exact (haged c).trans (ClassQueue.agings_le_of_waited_le c (Nat.le_succ _))

/-! ### What a port does with its own blocks -/

/-- A property of the state that each change of port p's own blocks and each notice keeps; a change of its relay only where it
keeps the queue invariant. -/
structure PortClosed (p : PortId) (P : State → Prop) : Prop where
  cp : ∀ {s : State} (f : Coupler → Coupler), P s → P (s.modCp p f)
  nm : ∀ {s : State} (f : Nbr → Nbr), P s → P (s.modNm p f)
  lr : ∀ {s : State} (f : Relay → Relay), ((s.lr p).inv → (f (s.lr p)).inv) → P s → P (s.modLr p f)
  raise : ∀ {s : State} (k : Notice), P s → P (s.raise k)

section
variable {p : PortId} {P : State → Prop} (C : PortClosed p P) {s : State}
include C

theorem PortClosed.raiseIf (b : Bool) (k : Notice) (h : P s) : P (s.raiseIf b k) := by
  cases b
  · exact h
  · exact C.raise k h

theorem PortClosed.counter (f : Relay → Relay) (hq : ∀ r c, (f r).queue c = r.queue c) (hs : ∀ r, (f r).slot = r.slot)
    (h : P s) : P (s.modLr p f) :=
  C.lr f (Relay.inv_of_queues (hq _) (hs _)) h

theorem PortClosed.countStale (h : P s) : P (s.countStale p) :=
  C.counter _ (fun _ c => by cases c <;> rfl) (fun _ => rfl) h

theorem PortClosed.countMalformed (h : P s) : P (s.countMalformed p) :=
  C.counter _ (fun _ c => by cases c <;> rfl) (fun _ => rfl) h

theorem PortClosed.countMisroute (h : P s) : P (s.countMisroute p) :=
  C.counter _ (fun _ c => by cases c <;> rfl) (fun _ => rfl) h

theorem PortClosed.flush (h : P s) : P (s.modLr p Relay.flush) := C.lr _ (fun _ => Relay.flush_inv _) h

theorem PortClosed.startPattern (h : P s) : P (s.startPattern p) :=
  C.cp _ (C.counter _ (fun _ c => by cases c <;> rfl) (fun _ => rfl) h)

theorem PortClosed.startFrame (c : Cls) (h : P s) : P (s.startFrame p c) := by
  unfold State.startFrame
  split
  · exact h
  · next f r e =>
    refine C.cp _ (C.lr _ (fun inv => ?_) h)
    exact Relay.inv_of_queues (r := r) (fun c => by cases c <;> rfl) rfl (Relay.takeHead_inv inv e)

theorem PortClosed.kickLine (h : P s) : P (s.kickLine p) := by
  obtain e | ⟨-, -, e⟩ | ⟨c, -, -, -, e⟩ := s.kickLine_cases p <;> rw [e]
  · exact h
  · exact C.startPattern h
  · exact C.startFrame c h

theorem PortClosed.offer (f : Frame) (h : P s) : P (s.offer p f) := by
  obtain ⟨-, e⟩ | ⟨-, e⟩ | ⟨c, -, -, e⟩ := s.offer_cases p f <;> rw [e]
  · exact h
  · exact C.counter _ (fun _ c => by cases c <;> rfl) (fun _ => rfl) h
  · exact C.kickLine (C.lr _ (fun inv => Relay.enqueue_inv inv c f) h)

theorem PortClosed.beginAttempt (rate : Nat) (h : P s) : P (s.beginAttempt p rate) :=
  C.raiseIf _ _ (C.nm _ (C.cp _ h))

theorem PortClosed.enterLoop (h : P s) : P (s.enterLoop p) := C.raise _ (C.cp _ h)

theorem PortClosed.nmLinked (h : P s) : P (s.nmLinked p) := C.nm _ (C.offer _ h)

theorem PortClosed.enterLinked (h : P s) : P (s.enterLinked p) := C.nmLinked (C.kickLine (C.raise _ (C.cp _ h)))

theorem PortClosed.answerPattern (h : P s) : P (s.answerPattern p) := by
  unfold State.answerPattern
  split
  · exact h
  · exact C.kickLine (C.cp _ h)

theorem PortClosed.emptySlot (h : P s) : P (s.emptySlot p) := C.cp _ h

theorem PortClosed.hold (q : PairId) (seq : Nat) (f : Frame) (h : P s) : P (s.hold p q seq f) := C.cp _ h

end

/-! ### A port that leaves its link or an attempt -/

/-- A property that a port's own changes and the loss or change of its neighbour keep. -/
structure LinkClosed (p : PortId) (P : State → Prop) : Prop extends PortClosed p P where
  gone : ∀ {s : State}, P s → P (s.ccGone p)

section
variable {p : PortId} {P : State → Prop} (C : LinkClosed p P) {s : State}
include C

theorem LinkClosed.neighbourGone (h : P s) : P (s.neighbourGone p) := C.raise _ (C.gone h)

theorem LinkClosed.nmDepart (h : P s) : P (s.nmDepart p) := by
  unfold State.nmDepart
  dsimp only
  split
  · exact C.nm _ h
  · exact C.neighbourGone (C.nm _ h)
  · exact C.raise _ (C.nm _ h)

theorem LinkClosed.enterFaulted (h : P s) : P (s.enterFaulted p) :=
  C.nmDepart (C.raise _ (C.flush (C.cp _ h)))

theorem LinkClosed.failAttempt (h : P s) : P (s.failAttempt p) := by
  obtain ⟨-, e⟩ | ⟨-, -, e⟩ | ⟨-, -, e⟩ := s.failAttempt_cases p <;> rw [e]
  · exact C.beginAttempt 0 (C.cp _ h)
  · exact C.enterFaulted h
  · exact C.beginAttempt 0 (C.cp _ h)

theorem LinkClosed.failDead (fuel : Nat) (h : P s) : P (s.failDead fuel p) := by
  induction fuel generalizing s with
  | zero => exact h
  | succ fuel ih =>
    unfold State.failDead
    split
    · exact ih (C.failAttempt h)
    · exact h

theorem LinkClosed.alignFails (h : P s) : P (s.alignFails p) := C.failDead 4 (C.failAttempt h)

theorem LinkClosed.alignAttempt (rate : Nat) (h : P s) : P (s.alignAttempt p rate) :=
  C.failDead 4 (C.beginAttempt rate h)

theorem LinkClosed.leaveOpen (h : P s) : P (s.leaveOpen p) := by
  obtain e | ⟨-, -, -, e⟩ | ⟨-, -, -, -, e⟩ := s.leaveOpen_cases p <;> rw [e]
  · exact h
  · exact C.enterLoop h
  · exact C.alignAttempt 0 h

theorem LinkClosed.portToOpen (cause : OpenCause) (h : P s) : P (s.portToOpen p cause) := by
  unfold State.portToOpen
  split
  · exact h
  · exact C.leaveOpen (C.nmDepart (C.raise _ (C.flush (C.cp _ h))))

theorem LinkClosed.beginStep (h : P s) : P (s.beginStep p) := by
  unfold State.beginStep
  split
  · exact C.alignAttempt _ (C.cp _ h)
  · exact h
  · exact h

theorem LinkClosed.ownBeat (h : P s) : P (s.ownBeat p) := by
  unfold State.ownBeat
  split
  · exact C.raise _ (C.nm _ h)
  · exact h
  · exact C.neighbourGone (C.nm _ h)

theorem LinkClosed.farBeat (r : NbrRecord) (h : P s) : P (s.farBeat p r) := by
  unfold State.farBeat
  split
  · exact C.nm _ h
  · exact C.raise _ (C.nm _ h)
  · split
    · exact C.nm _ h
    · exact C.neighbourGone (C.nm _ h)

theorem LinkClosed.applyLoopMode (m : LoopMode) (h : P s) : P (s.applyLoopMode p m) := by
  unfold State.applyLoopMode
  split
  · exact h
  · dsimp only
    split
    · exact C.leaveOpen (C.cp _ h)
    · exact C.portToOpen _ (C.cp _ h)

theorem LinkClosed.forceRealign (h : P s) : P (s.forceRealign p) := by
  unfold State.forceRealign
  split
  · exact C.portToOpen _ h
  · exact C.portToOpen _ h
  · exact C.portToOpen _ h
  · exact h
  · exact h

theorem LinkClosed.applySetPort (m : LoopMode) (rate : Nat) (force : Bool) (h : P s) :
    P (s.applySetPort p m rate force) := by
  unfold State.applySetPort
  dsimp only
  split
  · exact C.forceRealign (C.applyLoopMode m (C.cp _ h))
  · exact C.applyLoopMode m (C.cp _ h)

theorem LinkClosed.adoptSense (h : P s) : P (s.adoptSense p) := by
  unfold State.adoptSense
  dsimp only
  split
  · exact C.nm _ h
  · split
    · exact C.leaveOpen (C.nm _ h)
    · exact C.portToOpen _ (C.nm _ h)

theorem LinkClosed.repetition (q : PairId) (sampled : BitVec 32) (h : P s) : P (s.repetition p q sampled) := by
  unfold State.repetition
  dsimp only
  split
  · exact C.alignFails (C.cp _ h)
  · exact C.cp _ h

end

/-! ### A port that delivers frames -/

/-- A property that a port's own changes, its neighbour's loss and each delivered frame keep. -/
structure FrameClosed (p : PortId) (P : State → Prop) : Prop extends LinkClosed p P where
  handOn : ∀ {s : State} (f : Frame), P s → P (s.handOn p f)

section
variable {p : PortId} {P : State → Prop} (C : FrameClosed p P) {s : State}
include C

theorem FrameClosed.deliver (q : PairId) (seq : Nat) (f : Frame) (h : P s) : P (s.deliver p q seq f) :=
  C.handOn f (C.nm _ (C.cp _ h))

theorem FrameClosed.deliverHeld (h : P s) : P (s.deliverHeld p) := by
  unfold State.deliverHeld
  split
  · exact h
  · exact C.deliver _ _ _ (C.emptySlot h)

theorem FrameClosed.deliverNew (q : PairId) (seq : Nat) (f : Frame) (h : P s) : P (s.deliverNew p q seq f) := by
  unfold State.deliverNew
  split
  · exact C.deliver q seq f h
  · exact h

theorem FrameClosed.receivePreferred (q : PairId) (seq : Nat) (f : Frame) (h : P s) :
    P (s.receivePreferred p q seq f) := by
  unfold State.receivePreferred
  split
  · exact C.deliverNew q seq f h
  · split
    · exact C.deliver q seq f (C.emptySlot h)
    · split
      · exact C.deliverNew q seq f (C.deliverHeld h)
      · exact C.deliverNew q seq f h

theorem FrameClosed.receiveOther (q : PairId) (seq : Nat) (f : Frame) (h : P s) : P (s.receiveOther p q seq f) := by
  unfold State.receiveOther
  split
  · split
    · exact C.hold q seq f h
    · split
      · exact C.hold q seq f (C.deliverHeld h)
      · exact h
  · exact h

theorem FrameClosed.receive (q : PairId) (seq : Nat) (f : Frame) (h : P s) : P (s.receive p q seq f) := by
  unfold State.receive
  split
  · exact C.receivePreferred q seq f h
  · exact C.receiveOther q seq f h

theorem FrameClosed.changePair (q : PairId) (f : Pair → Pair) (h : P s) : P (s.changePair p q f) := by
  obtain ⟨b, e | e⟩ := s.changePair_cases p q f <;> rw [e]
  · exact C.raiseIf b _ (C.cp _ h)
  · exact C.deliverHeld (C.raiseIf b _ (C.cp _ h))

theorem FrameClosed.goodFrame (q : PairId) (seq : Nat) (f : Frame) (h : P s) : P (s.goodFrame p q seq f) := by
  unfold State.goodFrame
  split
  · dsimp only
    split
    · exact C.cp _ (C.cp _ h)
    · exact C.changePair q _ (C.cp _ h)
    · exact C.cp _ (C.changePair q _ (C.receive q seq f (C.cp _ h)))
    · exact C.cp _ h
    · exact C.cp _ h
  · exact h

theorem FrameClosed.badFrame (q : PairId) (cause : BadCause) (h : P s) : P (s.badFrame p q cause) := by
  unfold State.badFrame
  split
  · dsimp only
    split
    · exact C.changePair q _ (C.cp _ h)
    · refine C.changePair q _ ?_
      split
      · exact C.deliverHeld (C.cp _ h)
      · exact C.cp _ h
    · exact C.cp _ h
    · exact C.cp _ h
    · exact C.cp _ h
  · exact h

theorem FrameClosed.patternScore (q : PairId) (h : P s) : P (s.patternScore p q) := by
  unfold State.patternScore
  dsimp only
  split
  · exact C.changePair q _ (C.cp _ h)
  · exact C.changePair q _ (C.cp _ h)
  · exact C.cp _ h
  · exact C.cp _ h
  · exact C.cp _ h

theorem FrameClosed.goodPattern (q : PairId) (ready : Bool) (rate : Nat) (h : P s) : P (s.goodPattern p q ready rate) := by
  have scored : P (s.patternScore p q) := C.patternScore q h
  unfold State.goodPattern
  split
  · dsimp only
    split
    · split
      · exact C.enterLinked scored
      · exact scored
    · split
      · exact scored
      · split
        · exact C.answerPattern scored
        · exact C.portToOpen _ scored
    · exact scored
    · exact scored
    · exact scored
  · exact h

theorem FrameClosed.oddPattern (q : PairId) (h : P s) : P (s.oddPattern p q) := by
  unfold State.oddPattern
  split
  · exact C.patternScore q h
  · exact h

theorem FrameClosed.anyFrame (q : PairId) (seq : Nat) (f : Frame) (h : P s) : P (s.anyFrame p q seq f) := by
  unfold State.anyFrame
  split
  · exact C.goodPattern q _ _ h
  · split
    · exact C.oddPattern q h
    · exact C.goodFrame q seq f h
  · exact C.goodFrame q seq f h

theorem FrameClosed.loopBack (q : PairId) (ready : Bool) (rate : Nat) (h : P s) : P (s.loopBack p q ready rate) := by
  obtain e | ⟨-, -, e⟩ := s.loopBack_cases p q ready rate <;> rw [e]
  · exact h
  · exact C.goodPattern q ready rate h

theorem FrameClosed.hearOwn (t : LineTx) (h : P s) : P (s.hearOwn p t) := by
  cases t with
  | pattern ready rate => exact C.loopBack .b ready rate (C.loopBack .a ready rate h)
  | frame => exact h

theorem FrameClosed.transmitEnd (h : P s) : P (s.transmitEnd p) := by
  have idle : P (s.modLr p fun r => { r with tx := none }) :=
    C.counter _ (fun _ c => by cases c <;> rfl) (fun _ => rfl) h
  unfold State.transmitEnd
  split
  · exact h
  · dsimp only
    split
    · exact C.beginStep idle
    · exact C.kickLine (C.hearOwn _ idle)

theorem FrameClosed.breakAligning (q : PairId) (h : P s) : P (s.breakAligning p q) := by
  unfold State.breakAligning
  dsimp only
  split
  · exact C.alignFails (C.cp _ (C.changePair q _ h))
  · exact C.cp _ (C.changePair q _ h)

theorem FrameClosed.breakLinked (q : PairId) (h : P s) : P (s.breakLinked p q) := by
  unfold State.breakLinked
  dsimp only
  generalize e : (if ((s.cp p).pair q).inFrame then s.badFrame p q .framing else s) = u
  have abandoned : P u := by
    rw [← e]
    split
    · exact C.badFrame q _ h
    · exact h
  split
  · exact C.portToOpen _ (C.raiseIf _ _ (C.cp _ abandoned))
  · exact C.changePair q _ abandoned

end

end Sys2Proof.Machine
end

section
/-! What the events of the node do to the four blocks of the node, each told once as a chain of basic moves. A property that the
moves keep survives every event; the moves are the fields of `NodeClosed`. -/

namespace Sys2Proof.Machine

/-! ### The part of the state that the node's invariants read -/

/-- A timer but for its count. -/
def Timer.flag (t : Timer) : Timer := t.map fun _ => 0

@[simp] theorem Timer.flag_none : Timer.flag none = none := rfl

@[simp] theorem Timer.isSome_flag (t : Timer) : (Timer.flag t).isSome = t.isSome := by simp [Timer.flag]

theorem Timer.flag_tickTimer (t : Timer) : Timer.flag (tickTimer t) = Timer.flag t := by
  cases t <;> rfl

/-- The state but for what no invariant of the node reads: ports, host link, counts of timers, settings and records of the past. -/
def State.nodeCore (s : State) : State :=
  { State.reset with
    sys := { Sys.reset with serial := s.sys.serial },
    cc := { s.cc with
      confirmTimer := none, silenceTimer := none, lastExit := .none, callHeld := false, confirmCheck := false,
      leadCause := .none, settleTimer := Timer.flag s.cc.settleTimer, walkTimer := Timer.flag s.cc.walkTimer },
    se := { SweepState.reset with
      outstanding := s.se.outstanding, launchDue := s.se.launchDue, timeout := Timer.flag s.se.timeout,
      intervalTimer := Timer.flag s.se.intervalTimer, demand := s.se.demand },
    dcu := { Doors.reset with
      release1 := s.dcu.release1, release2 := s.dcu.release2, queue := s.dcu.queue, inFlight := s.dcu.inFlight,
      echoTimer := Timer.flag s.dcu.echoTimer, trainClosed := s.dcu.trainClosed, fence := s.dcu.fence },
    ha := { s.ha with
      watchdog := Timer.flag s.ha.watchdog, lastTaken := none, ramp := 0, holdOff := Timer.flag s.ha.holdOff,
      trips := [], lastIssued := none } }

theorem Timer.flag_eq_none (t : Timer) : Timer.flag t = none ↔ t = none := by cases t <;> simp [Timer.flag]

theorem State.nodeInv_nodeCore (s : State) : s.nodeCore.nodeInv ↔ s.nodeInv := by
  simp [State.nodeInv, State.quietOutside, State.leaderOnly, State.holdsLeaderState, State.walkOfClaim,
    State.operationalLeader, Consist.walking, State.nodeCore, Timer.flag_eq_none]

theorem State.consistInv_nodeCore (s : State) : s.nodeCore.consistInv ↔ s.consistInv := Iff.rfl

theorem State.heatInv_nodeCore (s : State) : s.nodeCore.heatInv ↔ s.heatInv := by
  simp [State.heatInv, State.operationalLeader, State.consistN, State.powers, Heating.barred, State.nodeCore]

theorem nodeCore_of_sameNode {s t : State} (h : sameNode s t) (serial : t.sys.serial = s.sys.serial) :
    t.nodeCore = s.nodeCore := by
  obtain ⟨hcc, hse, hdcu, hha⟩ := h
  simp only [State.nodeCore, hcc, hse, hdcu, hha, serial]

/-! ### The moves -/

/-- The end of a claim at the Consist Controller (05 R81, R82, R85). -/
def Consist.released (c : Consist) : Consist :=
  { c.abandonWalk with
    claim := none,
    front := if c.position.isSome then c.front else none,
    orientation := if c.position.isSome then c.orientation else none }

/-- A member's place in a walk (04 R62). -/
def Consist.placed (c : Consist) (x : PortId) (gen pos : Nat) : Consist :=
  { c with table := Table.empty, gen, position := some pos, front := some x, orientation := some (orientationOf x),
           node := .provisional }

/-- The entry a leader's attempt starts with (05 R84). -/
def Consist.leaderEntry (c : Consist) (serial : Serial) : Entry :=
  { serial, position := 1, orientation := c.orientation.getD .forward, cls := c.coach.cls, leaves1 := c.coach.leaves1,
    leaves2 := c.coach.leaves2, stepPower := c.coach.stepPower, lead := true }

/-- A walk attempt at its leader, before its WALK goes out (05 R84). -/
def Consist.attempting (c : Consist) (serial : Serial) (which : WalkState) : Consist :=
  { c with gen := nextGeneration c.gen, position := some 1, node := .provisional, table := Table.empty, walk := which,
           settleTimer := none, walkTimer := none, records := [c.leaderEntry serial] }

/-- A node that is isolated (04 R76). -/
def Consist.unplaced (c : Consist) : Consist :=
  { c with node := .isolated, table := Table.empty, gen := 0, position := none, orientation := none, front := none }

/-- The grants after a completed sweep's run (08 R154). -/
def State.allocated (s : State) : State :=
  if s.ha.barred then s.zeroGrants
  else s.modHa fun h => { h with grants := s.fullResult, rotation := nextRotation h.rotation s.consistN }

/-- The grants after a shed-only run, where one is made (08 R159). -/
def State.shedded (s : State) : State :=
  if s.operationalLeader && !s.ha.barred then s.modHa fun h => { h with grants := s.shedResult } else s

/-- The tables and grants after a completed sweep (06 R116, 08 R154). -/
def State.tabled (s : State) (number : Nat) (records : List Record) : State :=
  (({ s with
      se := s.se.completed s.cc.gen number s.sys.freeCount records,
      sys := { s.sys with freeCount := s.sys.freeCount + 1 } } : State).decideTrainClosed
    (records.map Record.summaryFlags)).allocated

/-- A leader's confirmed walk: its table, and its sweep and grant state afresh (05 R93, 06 R103, 08 R151). -/
def State.confirmed (s : State) (t : Table) : State :=
  { s.modCc (fun c => { c with table := t, node := .operational, walkTimer := none }) with
    se := s.se.startGeneration, ha := s.ha.startGeneration }

/-- What makes a table the confirmed one of a node. -/
def Consist.confirms (c : Consist) (t : Table) : Prop :=
  t.entries ≠ [] ∧ tableWellFormed t.entries.length t.entries = true ∧ t.gen = c.gen

/-- A property of the state that each basic move of the node keeps. Where N holds, the property implies the node invariant, and a
move is made only under the guards that are stated with N. -/
structure NodeClosed (N : Prop) (P : State → Prop) : Prop where
  inv : ∀ {s : State}, N → P s → s.nodeInv
  port : ∀ p, PortClosed p P
  core : ∀ {s t : State}, t.nodeCore = s.nodeCore → samePorts s t → t.hl = s.hl → P s → P t
  leave : ∀ {s : State} (n : NodeState) (c : ExitCause), n = .suspended ∨ n = .provisional → s.cc.node = .operational →
    P s → P (s.leaveOperational n c)
  suspended : ∀ {s : State}, (N → s.cc.node ≠ .operational) → P s → P (s.modCc fun c => { c with node := .suspended })
  trigger : ∀ {s : State}, P s → P s.walkTrigger
  released : ∀ {s : State}, (N → s.cc.node ≠ .operational) → P s → P (s.modCc Consist.released)
  claimed : ∀ {s : State} (e : PortId), s.cc.claim = none → (N → s.cc.node ≠ .operational) →
    (N → s.cc.node ≠ .isolated) → P s → P (s.modCc fun c => c.claimed e)
  abandoned : ∀ {s : State}, P s → P (s.modCc Consist.abandonWalk)
  placed : ∀ {s : State} (x : PortId) (gen pos : Nat), s.cc.claim = none → (N → s.cc.node ≠ .operational) → gen ≠ 0 →
    P s → P (s.modCc fun c => c.placed x gen pos)
  attempting : ∀ {s : State} (which : WalkState), which = .walkFirst ∨ which = .walkSecond →
    (N → s.cc.claim.isSome = true) → (N → s.cc.node ≠ .operational) →
    P s → P (s.modCc fun c => c.attempting s.sys.serial which)
  walkStarts : ∀ {s : State}, s.cc.walking = true → P s → P (s.modCc fun c => { c with walkTimer := some 0 })
  walkStops : ∀ {s : State}, P s → P (s.modCc fun c => { c with walkTimer := none })
  recorded : ∀ {s : State} (e : Entry), entryInRange e = true → e.lead = (e.position == 1) →
    P s → P (s.modCc fun c => { c with records := insertRecord e c.records })
  confirmed : ∀ {s : State} (t : Table), (N → s.cc.claim.isSome = true) → (N → s.consistInv → s.cc.confirms t) →
    P s → P (s.confirmed t)
  walkEnds : ∀ {s : State}, (N → s.cc.walk ≠ .settling) → (N → s.cc.walkTimer = none) →
    P s → P (s.modCc fun c => { c with walk := .idle, records := [] })
  member : ∀ {s : State} (t : Table), s.cc.claim = none → s.cc.node = .provisional → s.cc.confirms t →
    P s → P (s.modCc fun c => { c with table := t, node := .operational })
  coach : ∀ {s : State} (k : Coach), k.inRange → P s → P (s.modCc fun c => { c with coach := k })
  unplaced : ∀ {s : State}, (N → s.cc.node ≠ .operational) → s.cc.claim = none → P s → P (s.modCc Consist.unplaced)
  detached : ∀ {s : State}, s.cc.node = .isolated → P s → P (s.modCc fun c => { c with node := .detached })
  doors : ∀ {s : State} (f : Doors → Doors), (N → s.operationalLeader = true) → P s → P (s.modDcu f)
  releases : ∀ {s : State} (a b : Bool), (N → s.cc.node = .operational) →
    P s → P (s.modDcu fun d => { d with release1 := a, release2 := b })
  sweeps : ∀ {s : State} (f : SweepState → SweepState), (N → s.operationalLeader = true) →
    (f s.se).demand = s.se.demand → P s → P (s.modSe f)
  takes : ∀ {s : State} (v : Nat), (N → s.cc.node = .operational) → (s.heatInv → v ≤ 7) →
    P s → P (s.modHa fun h => { h with held := v, watchdog := some 0 })
  unheld : ∀ {s : State}, P s → P (s.modHa fun h => { h with held := 0, watchdog := none })
  zeroed : ∀ {s : State}, P s → P s.zeroGrants
  tabled : ∀ {s : State} (number : Nat) (records : List Record), (N → s.operationalLeader = true) →
    (N → s.consistInv → records.length ≤ 32) → P s → P (s.tabled number records)
  supplied : ∀ {s : State} (cap ramp : Nat), P s → P (s.modHa fun h => { h with capacity := cap, ramp }).shedded
  unlocked : ∀ {s : State}, P s → P (s.modHa fun h => { h with lockout := false })
  heldOff : ∀ {s : State} (t : Timer) (b : Bool), s.ha.grants = List.replicate 32 0 →
    P s → P (s.modHa fun h => { h with holdOff := t, lockout := b })
  offEnds : ∀ {s : State}, P s → P (s.modHa fun h => { h with holdOff := none })
  levelled : ∀ {s : State} (v : Nat), v ≤ 7 → P s → P (s.modHa fun h => { h with level := v })

/-! ### Facts about single operations -/

theorem State.suspend_node_ne (s : State) (c : ExitCause) : (s.suspend c).cc.node ≠ .operational := by
  rw [State.suspend_cc_fields]
  cases h : s.cc.node <;> simp

theorem State.heatInv_at1_grants_le {s : State} (h : s.heatInv) : at1 s.ha.grants 1 ≤ 7 := by
  obtain ⟨-, len, -, -, le7, within, -⟩ := h
  have w := within 0 (by decide)
  have mem : s.se.demand.getD 0 0 ∈ s.se.demand := by
    rw [List.getD_eq_getElem _ _ (by omega)]
    exact List.getElem_mem _
  exact w.trans (le7 _ mem)

theorem State.operationalLeader_of_cc {s t : State} (h : t.cc = s.cc) : t.operationalLeader = s.operationalLeader := by
  simp only [State.operationalLeader, h]

theorem State.node_of_operationalLeader {s : State} (h : s.operationalLeader = true) : s.cc.node = .operational := by
  simp only [State.operationalLeader, Bool.and_eq_true, beq_iff_eq] at h
  exact h.2

theorem State.claim_of_operationalLeader {s : State} (h : s.operationalLeader = true) : s.cc.claim.isSome = true := by
  simp only [State.operationalLeader, Bool.and_eq_true, beq_iff_eq] at h
  exact h.1

theorem State.leads_of_nodeInv {s : State} (inv : s.nodeInv) (holds : s.holdsLeaderState) : s.operationalLeader = true :=
  inv.2.1 holds

theorem State.tabled_cc (s : State) (number : Nat) (records : List Record) : (s.tabled number records).cc = s.cc := by
  unfold State.tabled State.allocated
  split <;> simp

/-- A completed sweep: tables and grants, the GRANT, the confirm check (06 R116). -/
theorem State.completeCore_eq (s : State) (number : Nat) (records : List Record) :
    s.completeCore number records =
      ((s.tabled number records).issueGrant (if s.ha.barred then .held else .allocation) (some number)).checkConfirm
        (records.map Record.summaryFlags) := by
  unfold State.completeCore State.tabled State.allocate State.allocated
  simp only [State.decideTrainClosed_ha]
  split <;> rfl

theorem State.leaveForWalk_claim (s : State) : s.leaveForWalk.cc.claim = s.cc.claim := by
  unfold State.leaveForWalk
  split
  · rw [State.leaveOperational_cc]
  · rfl

theorem State.leaveForWalk_node (s : State) : s.leaveForWalk.cc.node ≠ .operational := by
  unfold State.leaveForWalk
  split
  · rw [State.leaveOperational_cc]
    simp
  · assumption

/-- A walk in progress absorbs triggers. -/
theorem State.walkTrigger_of_busy {s : State} (busy : s.cc.walk ≠ .idle) : s.walkTrigger = s := by
  simp [State.walkTrigger, busy]

theorem State.checkConfirm_walk {s : State} (busy : s.cc.walk ≠ .idle) (flags : List SummaryFlags) :
    (s.checkConfirm flags).cc.walk = s.cc.walk ∧ (s.checkConfirm flags).cc.walkTimer = s.cc.walkTimer := by
  unfold State.checkConfirm
  split
  · dsimp only
    split
    · rw [State.walkTrigger_of_busy (by simpa using busy)]
      exact ⟨rfl, rfl⟩
    · exact ⟨rfl, rfl⟩
  · exact ⟨rfl, rfl⟩

theorem State.completeCore_walk {s : State} (busy : s.cc.walk ≠ .idle) (number : Nat) (records : List Record) :
    (s.completeCore number records).cc.walk = s.cc.walk ∧ (s.completeCore number records).cc.walkTimer = s.cc.walkTimer := by
  obtain ⟨c, e⟩ : ∃ c, s.completeCore number records =
      ((s.tabled number records).issueGrant c (some number)).checkConfirm (records.map Record.summaryFlags) :=
    ⟨_, s.completeCore_eq number records⟩
  have cc : ((s.tabled number records).issueGrant c (some number)).cc = s.cc := by
    rw [State.issueGrant_cc, State.tabled_cc]
  rw [e, ← cc]
  exact State.checkConfirm_walk (by rwa [cc]) _

/-- The leader's sweep state as the next number goes out, before its own element joins (06 R105). -/
def SweepState.launching (e : SweepState) : SweepState :=
  { e with lastLaunched := some (expectedNumber e.lastLaunched), outstanding := some (expectedNumber e.lastLaunched),
           intervalTimer := some 0, intervalPeriod := e.interval }

/-- The leader as the next number goes out, its own element in the list (06 R105, R109). -/
def State.launching (s : State) : State :=
  (((s.modSe SweepState.launching).gapCheck (expectedNumber s.se.lastLaunched)).afterAppend
    (((s.modSe SweepState.launching).gapCheck (expectedNumber s.se.lastLaunched)).ownAppended s.se.refresh))

@[simp] theorem State.launching_cc (s : State) : s.launching.cc = s.cc := rfl

/-- A launch sends the SWEEP rearward, or completes alone (06 R105). -/
theorem State.launchOnce_cases (s : State) :
    (∃ records : List Record, records.length = 1 ∧
      s.launchOnce = s.launching.completeCore (expectedNumber s.se.lastLaunched) records) ∨
    ∃ f, s.launchOnce = (s.launching.modSe fun e => { e with timeout := some 0 }).offerRear f := by
  unfold State.launchOnce
  dsimp only
  split
  · exact .inl ⟨_, rfl, rfl⟩
  · exact .inr ⟨_, rfl⟩

theorem State.launchOnce_walk {s : State} (busy : s.cc.walk ≠ .idle) :
    s.launchOnce.cc.walk = s.cc.walk ∧ s.launchOnce.cc.walkTimer = s.cc.walkTimer := by
  obtain ⟨records, -, e⟩ | ⟨f, e⟩ := s.launchOnce_cases <;> rw [e]
  · exact State.completeCore_walk (s := s.launching) busy _ records
  · rw [State.offerRear_cc]
    exact ⟨rfl, rfl⟩

/-- The launch of a sweep leaves a walk in progress as it is. -/
theorem State.launch_walk {s : State} (busy : s.cc.walk ≠ .idle) :
    s.launch.cc.walk = s.cc.walk ∧ s.launch.cc.walkTimer = s.cc.walkTimer := by
  obtain ⟨w1, t1⟩ := State.launchOnce_walk busy
  unfold State.launch
  split
  · unfold State.relaunchIfDue
    split
    · have busy1 : (s.launchOnce.modSe fun e => { e with launchDue := false }).cc.walk ≠ .idle := by rwa [State.modSe_cc, w1]
      obtain ⟨w2, t2⟩ := State.launchOnce_walk busy1
      exact ⟨w2.trans w1, t2.trans t1⟩
    · exact ⟨w1, t1⟩
  · exact ⟨w1, t1⟩

theorem at1_le {l : List Nat} {m : Nat} (h : ∀ g ∈ l, g ≤ m) (p : Nat) : at1 l p ≤ m := by
  unfold at1
  by_cases inside : p - 1 < l.length
  · rw [List.getD_eq_getElem _ _ inside]
    exact h _ (List.getElem_mem _)
  · rw [List.getD_eq_default _ _ (by omega)]
    exact Nat.zero_le m

theorem grantFields_levels {cause number n : Nat} {grants : List Nat} {c : GrantCause} {k : Option Nat}
    (h : grantFields cause number n grants = some (c, k)) : ∀ g ∈ grants, g ≤ 7 := by
  unfold grantFields at h
  split at h
  · split at h
    · next fields => simpa using fields.2.2.2
    · simp at h
  · simp at h

/-- What a RELEASE takes back before it goes out (07 R130, R143). -/
def State.lowered (s : State) : Action → State
  | .release => (s.setTrainClosed false).modDcu fun d => { d with fence := d.fence || s.se.outstanding.isSome }
  | .close => s

@[simp] theorem State.lowered_cc (s : State) (a : Action) : (s.lowered a).cc = s.cc := by
  cases a <;> simp [State.lowered]

theorem State.dispatchPrepare_eq (s : State) (c : DoorCmd) (first : Nat) :
    s.dispatchPrepare c first =
      if first = 1 then
        ((s.lowered c.action).modDcu fun d =>
          { d with lastDoor := some { gen := s.cc.gen, id := c.id, applied := decide (first = 1) } }).applyDoor c.action c.side
      else (s.lowered c.action).modDcu fun d =>
        { d with lastDoor := some { gen := s.cc.gen, id := c.id, applied := decide (first = 1) } } := rfl

/-! ### Tables that a confirmation sets (04 R70, 05 R93) -/

theorem recordAt_position {records : List Entry} {p : Nat} {e : Entry} (h : recordAt records p = some e) : e.position = p := by
  simpa using List.find?_some h

theorem recordAt_mem {records : List Entry} {p : Nat} {e : Entry} (h : recordAt records p = some e) : e ∈ records :=
  List.mem_of_find?_eq_some h

theorem heldUpTo_iff (records : List Entry) (n : Nat) :
    heldUpTo records n = true ↔ ∀ i < n, (recordAt records (i + 1)).isSome = true := by
  simp [heldUpTo]

theorem heldPrefix_le (records : List Entry) : heldPrefix records ≤ 32 :=
  ((List.takeWhile_sublist _).length_le).trans (by simp)

theorem heldUpTo_heldPrefix (records : List Entry) : heldUpTo records (heldPrefix records) = true := by
  rw [heldUpTo_iff]
  intro i hi
  set test : Nat → Bool := fun i => (recordAt records (i + 1)).isSome with htest
  have hi' : i < ((List.range 32).takeWhile test).length := hi
  have mem : ((List.range 32).takeWhile test)[i] ∈ (List.range 32).takeWhile test := List.getElem_mem _
  have pass := List.mem_takeWhile_imp mem
  have value : ((List.range 32).takeWhile test)[i] = i := by
    rw [(List.takeWhile_prefix test).getElem hi']
    simp
  rwa [value] at pass

theorem heldPrefix_pos {records : List Entry} (h : (recordAt records 1).isSome = true) : 1 ≤ heldPrefix records := by
  unfold heldPrefix
  rw [List.range_succ_eq_map, List.takeWhile_cons, if_pos (by simpa using h)]
  simp

/-- The records of positions 1 to n stand at those positions. -/
theorem positions_of_heldUpTo {records : List Entry} {n : Nat} (h : heldUpTo records n = true) :
    ((List.range n).filterMap fun i => recordAt records (i + 1)).map Entry.position = (List.range n).map (· + 1) := by
  rw [heldUpTo_iff] at h
  induction n with
  | zero => rfl
  | succ n ih =>
    obtain ⟨e, he⟩ := Option.isSome_iff_exists.mp (h n (Nat.lt_succ_self n))
    have step := ih fun i hi => h i (Nat.lt_succ_of_lt hi)
    simp [List.range_succ, List.filterMap_append, he, step, recordAt_position he]

theorem cutDuplicates_prefix (seen : List Serial) (l : List Entry) : cutDuplicates seen l <+: l := by
  induction l generalizing seen with
  | nil => exact List.prefix_rfl
  | cons e rest ih =>
    unfold cutDuplicates
    split
    · exact List.nil_prefix
    · exact (List.prefix_cons_inj e).mpr (ih _)

theorem cutDuplicates_serials (seen : List Serial) (l : List Entry) :
    ((cutDuplicates seen l).map Entry.serial).Nodup ∧ ∀ e ∈ cutDuplicates seen l, e.serial ∉ seen := by
  induction l generalizing seen with
  | nil => simp [cutDuplicates]
  | cons e rest ih =>
    unfold cutDuplicates
    split
    · simp
    · next new =>
      obtain ⟨nodup, fresh⟩ := ih (e.serial :: seen)
      refine ⟨?_, ?_⟩
      · rw [List.map_cons, List.nodup_cons]
        refine ⟨fun mem => ?_, nodup⟩
        obtain ⟨e', he', eq⟩ := List.mem_map.mp mem
        exact fresh e' he' (by simp [eq])
      · intro e' mem
        rcases List.mem_cons.mp mem with rfl | mem
        · exact new
        · exact fun h => fresh e' mem (List.mem_cons_of_mem _ h)

theorem tableWellFormed_iff (n : Nat) (l : List Entry) :
    tableWellFormed n l = true ↔ 1 ≤ n ∧ n ≤ 32 ∧ l.map Entry.position = (List.range n).map (· + 1) ∧
      (l.map Entry.serial).Nodup ∧ (∀ e ∈ l, entryInRange e = true) ∧ ∀ e ∈ l, e.lead = (e.position == 1) := by
  simp [tableWellFormed, and_assoc]

/-- A well-formed table has as many entries as its N says. -/
theorem length_of_tableWellFormed {n : Nat} {l : List Entry} (h : tableWellFormed n l = true) : l.length = n := by
  obtain ⟨-, -, positions, -⟩ := (tableWellFormed_iff n l).mp h
  simpa using congrArg List.length positions

/-- The table confirmed from records held at every position up to n is well-formed (05 R93). -/
theorem Consist.confirms_confirmedTable {c : Consist} (inv : c.recordsInv) {n : Nat} (pos : 1 ≤ n) (le : n ≤ 32)
    (held : heldUpTo c.records n = true) (reason : Reason) : c.confirms (confirmedTable c.records c.gen n reason) := by
  obtain ⟨range, -⟩ := inv
  set l := (List.range n).filterMap fun i => recordAt c.records (i + 1) with hl
  have positions : l.map Entry.position = (List.range n).map (· + 1) := positions_of_heldUpTo held
  have len : l.length = n := by simpa using congrArg List.length positions
  have fromRecords : ∀ e ∈ l, e ∈ c.records := fun e he => by
    obtain ⟨i, -, h⟩ := List.mem_filterMap.mp he
    exact recordAt_mem h
  have pre : cutDuplicates [] l <+: l := cutDuplicates_prefix [] l
  have inside : ∀ e ∈ cutDuplicates [] l, e ∈ c.records := fun e he => fromRecords e (pre.subset he)
  have nonempty : cutDuplicates [] l ≠ [] := by
    cases e : l with
    | nil => simp [e] at len; omega
    | cons a rest => simp [cutDuplicates]
  refine ⟨nonempty, (tableWellFormed_iff _ _).mpr ⟨?_, ?_, ?_, (cutDuplicates_serials [] l).1,
    fun e he => (range e (inside e he)).1, fun e he => (range e (inside e he)).2⟩, rfl⟩
  · exact List.length_pos_of_ne_nil nonempty
  · exact (pre.length_le.trans len.le).trans le
  · change (cutDuplicates [] l).map Entry.position = (List.range (cutDuplicates [] l).length).map (· + 1)
    have cut : (cutDuplicates [] l).map Entry.position = ((List.range n).map (· + 1)).take (cutDuplicates [] l).length := by
      rw [← positions, ← List.map_take, ← List.prefix_iff_eq_take.mp pre]
    rw [cut, ← List.map_take, List.take_range, Nat.min_eq_left (pre.length_le.trans len.le)]

/-- The table of a CONFIRM that a member accepts (05 R94). -/
theorem Consist.confirms_of_accepts {s : State} {gen n reason : Nat} {entries : List Entry} {r : Reason}
    (ofGen : gen = s.cc.gen) (accepts : s.acceptsConfirm n reason entries = true) :
    s.cc.confirms { gen, reason := r, entries } := by
  simp only [State.acceptsConfirm, Bool.and_eq_true] at accepts
  obtain ⟨⟨wf, -⟩, -⟩ := accepts
  have len := length_of_tableWellFormed wf
  refine ⟨fun empty => ?_, len ▸ wf, ofGen⟩
  obtain ⟨pos, -⟩ := (tableWellFormed_iff _ _).mp wf
  simp only at empty
  simp [empty] at len
  omega

/-! ### Coverage (06 R115) -/

theorem heldRun_length {held : List (Option Record)} {p k : Nat} {rs : List Record} (h : heldRun held p k = some rs) :
    rs.length = k := by
  unfold heldRun at h
  dsimp only at h
  split at h
  · next cond =>
    obtain ⟨len, all⟩ := cond
    simp only [Option.some.injEq] at h
    rw [← h]
    have : ∀ l : List (Option Record), l.all Option.isSome = true → (l.filterMap id).length = l.length := by
      intro l
      induction l with
      | nil => simp
      | cons a l ih => cases a <;> simp_all
    exact (this _ all).trans len
  · simp at h

/-- A list that covers the positions from p to n stands for one record each. -/
theorem coverFrom_length {held : List (Option Record)} {n p : Nat} {l : List Element} {rs : List Record}
    (h : coverFrom held n p l = some rs) : p + rs.length = n + 1 := by
  induction l generalizing p rs with
  | nil =>
    unfold coverFrom at h
    split at h
    · simp_all
    · simp at h
  | cons x l ih =>
    cases x with
    | full r =>
      simp only [coverFrom] at h
      split at h
      · obtain ⟨rest, hr, rfl⟩ := Option.map_eq_some_iff.mp h
        have := ih hr
        simp only [List.length_cons]
        omega
      · simp at h
    | nil =>
      simp only [coverFrom] at h
      split at h
      · next part hp =>
        split at h
        · obtain ⟨rest, hr, rfl⟩ := Option.map_eq_some_iff.mp h
          have := ih hr
          have := heldRun_length hp
          simp only [List.length_append]
          omega
        · simp at h
      · simp at h
    | nilRun k =>
      simp only [coverFrom] at h
      split at h
      · next part hp =>
        split at h
        · obtain ⟨rest, hr, rfl⟩ := Option.map_eq_some_iff.mp h
          have := ih hr
          have := heldRun_length hp
          simp only [List.length_append]
          omega
        · simp at h
      · simp at h

theorem State.covered_length {s : State} {n : Nat} {list : List Nat} {records : List Record}
    (h : s.covered n list = some records) : records.length = s.consistN := by
  unfold State.covered at h
  split at h
  · simp at h
  · split at h
    · next len =>
      have := coverFrom_length h
      omega
    · simp at h

theorem State.consistN_le {s : State} (inv : s.consistInv) : s.consistN ≤ 32 := by
  obtain ⟨-, -, -, -, -, full⟩ := inv
  by_cases empty : s.cc.table.entries = []
  · simp [State.consistN, empty]
  · exact ((tableWellFormed_iff _ _).mp (full empty).1).2.1

theorem State.covered_length_le {s : State} (inv : s.consistInv) {n : Nat} {list : List Nat} {records : List Record}
    (h : s.covered n list = some records) : records.length ≤ 32 := State.covered_length h ▸ State.consistN_le inv

section
variable {N : Prop} {P : State → Prop} (C : NodeClosed N P) {s : State}
include C

/-! ### Changes that no invariant of the node reads -/

theorem NodeClosed.still {t : State} (h : P s) (core : t.nodeCore = s.nodeCore) (ports : samePorts s t) (hl : t.hl = s.hl) :
    P t := C.core core ports hl h

theorem NodeClosed.raise (k : Notice) (h : P s) : P (s.raise k) := (C.port .p1).raise k h

theorem NodeClosed.raiseIf (b : Bool) (k : Notice) (h : P s) : P (s.raiseIf b k) := (C.port .p1).raiseIf b k h

theorem NodeClosed.offer (p : PortId) (f : Frame) (h : P s) : P (s.offer p f) := (C.port p).offer f h

theorem NodeClosed.offerRear (f : Frame) (h : P s) : P (s.offerRear f) := by
  unfold State.offerRear
  split
  · exact C.offer _ f h
  · exact h

theorem NodeClosed.offerFront (f : Frame) (h : P s) : P (s.offerFront f) := by
  unfold State.offerFront
  split
  · exact C.offer _ f h
  · exact h

theorem NodeClosed.emitCall (cause port : Nat) (h : P s) : P (s.emitCall cause port) := by
  unfold State.emitCall
  split
  · split
    · exact C.offer _ _ h
    · exact h
  · exact h

/-! ### Out of a consist -/

theorem NodeClosed.suspend (c : ExitCause) (h : P s) : P (s.suspend c) := by
  unfold State.suspend
  split
  · next op => exact C.leave _ c (.inl rfl) op h
  · next prov =>
    exact C.still (C.suspended (fun _ => by simp [prov]) h) rfl ⟨rfl, rfl⟩ rfl
  · exact h
  · exact h
  · exact h

theorem NodeClosed.endClaim (cause : LeadCause) (op : N → s.cc.node ≠ .operational) (h : P s) : P (s.endClaim cause) :=
  C.raise _ (C.still (C.released op h) rfl ⟨rfl, rfl⟩ rfl)

theorem NodeClosed.cabEndLoss (h : P s) : P s.cabEndLoss := by
  refine C.endClaim _ (fun _ => by simp) ?_
  exact C.suspended (fun _ => s.suspend_node_ne _) (C.suspend _ h)

theorem NodeClosed.conflict (h : P s) : P s.conflict := by
  refine C.endClaim _ (fun _ => by simp) ?_
  exact C.still (C.suspended (fun _ => s.suspend_node_ne .conflict) (C.suspend .conflict h)) rfl ⟨rfl, rfl⟩ rfl

theorem NodeClosed.present (p : PortId) (h : P s) : P (s.ccPresent p) := by
  unfold State.ccPresent
  split
  · split
    · exact C.cabEndLoss h
    · exact C.trigger h
  · split
    · exact C.emitCall _ _ (C.suspend _ h)
    · exact C.emitCall _ _ h
    · exact h
    · exact h
    · exact h

theorem NodeClosed.gone (p : PortId) (h : P s) : P (s.ccGone p) := by
  unfold State.ccGone
  split
  · split
    · exact h
    · refine C.trigger ?_
      split
      · exact C.suspend _ h
      · exact h
  · split
    · exact C.emitCall _ _ (C.suspend _ h)
    · exact C.emitCall _ _ (C.suspend _ h)
    · exact h
    · exact h
    · exact h

theorem NodeClosed.link (p : PortId) : LinkClosed p P := { C.port p with gone := C.gone p }

theorem NodeClosed.coachChanged (h : P s) : P s.coachChanged := by
  unfold State.coachChanged
  split
  · exact C.emitCall _ _ (C.suspend _ h)
  · exact C.emitCall _ _ (C.suspend _ h)
  · exact C.trigger (C.suspend _ (C.abandoned h))
  · exact C.trigger (C.suspend _ h)
  · exact h
  · exact h
  · exact h

theorem NodeClosed.acceptClaim (e : PortId) (free : s.cc.claim = none) (node : s.cc.node ≠ .isolated) (h : P s) :
    P (s.acceptClaim e) := by
  rw [State.acceptClaim]
  refine C.trigger (C.raise _ ?_)
  refine C.claimed e (by simp [State.suspend_cc_fields, free]) (fun _ => s.suspend_node_ne _) (fun _ => ?_) (C.suspend _ h)
  rw [State.suspend_cc_fields]
  cases hn : s.cc.node <;> simp_all

/-! ### Grants, doors and sweeps -/

theorem NodeClosed.takeGrant (v gen : Nat) (cause : GrantCause) (number : Option Nat) (op : N → s.cc.node = .operational)
    (level : s.heatInv → v ≤ 7) (h : P s) : P (s.takeGrant v gen cause number) := by
  have taken := C.raiseIf (s.ha.held != v) .grant (C.takes v op level h)
  refine C.still taken ?_ ?_ ?_ <;> cases hb : s.ha.held != v <;>
    simp [State.takeGrant, State.setHeld, hb, State.raiseIf, State.nodeCore, samePorts, State.raise, State.modHa]

theorem NodeClosed.issueGrant (cause : GrantCause) (number : Option Nat) (op : N → s.cc.node = .operational) (h : P s) :
    P (s.issueGrant cause number) := by
  have issued : P (s.modHa fun h => { h with lastIssued := some (cause, number) }) := C.still h rfl ⟨rfl, rfl⟩ rfl
  have taken := C.takeGrant (s := s.modHa fun h => { h with lastIssued := some (cause, number) }) (at1 s.ha.grants 1)
    s.cc.gen cause number op (fun inv => State.heatInv_at1_grants_le (s := s) inv) issued
  unfold State.issueGrant
  dsimp only
  split
  · exact C.offerRear _ taken
  · exact taken

theorem NodeClosed.setTrainClosed (v : Bool) (lead : N → s.operationalLeader = true) (h : P s) : P (s.setTrainClosed v) :=
  C.raiseIf _ _ (C.doors _ lead h)

theorem NodeClosed.addResults (l : List DoorResult) (h : P s) : P (s.addResults l) :=
  C.raiseIf _ _ (C.still h rfl ⟨rfl, rfl⟩ rfl)

theorem NodeClosed.setReleases (a b : Bool) (op : N → s.cc.node = .operational) (h : P s) : P (s.setReleases a b) :=
  C.raiseIf _ _ (C.releases a b op h)

theorem NodeClosed.applyDoor (a : Action) (d : TrainSide) (op : N → s.cc.node = .operational) (h : P s) :
    P (s.applyDoor a d) := by
  unfold State.applyDoor
  split
  · exact h
  · split
    · exact C.setReleases _ _ op h
    · exact C.setReleases _ _ op h

theorem NodeClosed.endHead (e : Ending) (r : Option (Nat × Nat)) (a : Option PosSet)
    (lead : N → s.operationalLeader = true) (h : P s) : P (s.endHead e r a) := by
  unfold State.endHead
  split
  · exact h
  · exact C.addResults _ (C.doors _ lead h)

theorem NodeClosed.lowered (a : Action) (lead : N → s.operationalLeader = true) (h : P s) : P (s.lowered a) := by
  cases a
  · exact C.doors (fun d => { d with fence := d.fence || s.se.outstanding.isSome })
      (by simpa [State.operationalLeader] using lead)
      (C.setTrainClosed _ lead h)
  · exact h

theorem NodeClosed.dispatchPrepare (c : DoorCmd) (first : Nat) (lead : N → s.operationalLeader = true) (h : P s) :
    P (s.dispatchPrepare c first) := by
  have noted : P ((s.lowered c.action).modDcu fun d =>
      { d with lastDoor := some { gen := s.cc.gen, id := c.id, applied := decide (first = 1) } }) :=
    C.still (C.lowered c.action lead h) rfl ⟨rfl, rfl⟩ rfl
  rw [State.dispatchPrepare_eq]
  split
  · exact C.applyDoor _ _ (fun n => by simpa using State.node_of_operationalLeader (lead n)) noted
  · exact noted

theorem NodeClosed.dispatch (fuel : Nat) (lead : N → s.operationalLeader = true) (h : P s) : P (s.dispatch fuel) := by
  induction fuel generalizing s with
  | zero => exact h
  | succ fuel ih =>
    unfold State.dispatch
    split
    · exact h
    · next c _ _ =>
      dsimp only
      have prepared := C.dispatchPrepare c (s.resolve c.window).1 lead h
      split
      · exact ih (by simpa [State.operationalLeader] using lead) (C.endHead _ _ _ lead h)
      · split
        · exact ih (by simpa [State.operationalLeader] using lead)
            (C.endHead _ _ _ (by simpa [State.operationalLeader] using lead) prepared)
        · exact C.offerRear _ (C.doors _ (by simpa [State.operationalLeader] using lead) prepared)

theorem NodeClosed.dispatchQueue (lead : N → s.operationalLeader = true) (h : P s) : P s.dispatchQueue :=
  C.dispatch _ lead h

theorem NodeClosed.endInFlight (e : Ending) (a : Option PosSet) (lead : N → s.operationalLeader = true) (h : P s) :
    P (s.endInFlight e a) :=
  C.dispatchQueue (by simpa [State.operationalLeader] using lead) (C.endHead _ _ _ lead h)

theorem NodeClosed.withdrawStandstill (lead : N → s.operationalLeader = true) (h : P s) : P s.withdrawStandstill := by
  unfold State.withdrawStandstill
  dsimp only
  split
  · exact C.addResults _ (C.doors _ lead h)
  · exact C.dispatchQueue (by simpa [State.operationalLeader] using lead) (C.addResults _ (C.doors _ lead h))

theorem NodeClosed.queueDoor (a : Action) (d : TrainSide) (w : Nat) (lead : N → s.operationalLeader = true) (h : P s) :
    P (s.queueDoor a d w) := by
  unfold State.queueDoor
  dsimp only
  split
  · exact C.dispatchQueue (s := s.modDcu _) lead (C.doors _ lead h)
  · exact C.doors _ lead h

theorem NodeClosed.checkConfirm (flags : List SummaryFlags) (h : P s) : P (s.checkConfirm flags) := by
  have checked : P (s.modCc fun c => { c with confirmCheck := false }) := C.still h rfl ⟨rfl, rfl⟩ rfl
  unfold State.checkConfirm
  split
  · dsimp only
    split
    · exact C.trigger checked
    · exact checked
  · exact h

theorem NodeClosed.completeCore (number : Nat) (records : List Record) (lead : N → s.operationalLeader = true)
    (len : N → s.consistInv → records.length ≤ 32) (h : P s) : P (s.completeCore number records) := by
  rw [State.completeCore_eq]
  refine C.checkConfirm _ (C.issueGrant _ _ (fun n => ?_) (C.tabled number records lead len h))
  rw [State.tabled_cc]
  exact State.node_of_operationalLeader (lead n)

theorem NodeClosed.gapCheck (number : Nat) (h : P s) : P (s.gapCheck number) := C.still h rfl ⟨rfl, rfl⟩ rfl

theorem NodeClosed.afterAppend (a : Appended) (h : P s) : P (s.afterAppend a) := C.still h rfl ⟨rfl, rfl⟩ rfl

theorem NodeClosed.launchOnce (lead : N → s.operationalLeader = true) (h : P s) : P s.launchOnce := by
  have sent : P s.launching := C.afterAppend _ (C.gapCheck _ (C.sweeps SweepState.launching lead rfl h))
  obtain ⟨records, one, e⟩ | ⟨f, e⟩ := s.launchOnce_cases <;> rw [e]
  · exact C.completeCore _ records (s := s.launching) lead (fun _ _ => by omega) sent
  · exact C.offerRear f (C.sweeps _ (s := s.launching) lead rfl sent)

theorem NodeClosed.relaunchIfDue (h : P s) : P s.relaunchIfDue := by
  unfold State.relaunchIfDue
  split
  · next due =>
    have lead (n : N) : s.operationalLeader = true := State.leads_of_nodeInv (C.inv n h) (by simp [State.holdsLeaderState, due])
    exact C.launchOnce lead (C.sweeps _ lead rfl h)
  · exact h

theorem NodeClosed.launch (lead : N → s.operationalLeader = true) (h : P s) : P s.launch := by
  unfold State.launch
  split
  · exact C.relaunchIfDue (C.launchOnce lead h)
  · exact C.launchOnce lead h

theorem NodeClosed.completeSweep (number : Nat) (records : List Record) (lead : N → s.operationalLeader = true)
    (len : N → s.consistInv → records.length ≤ 32) (h : P s) : P (s.completeSweep number records) :=
  C.relaunchIfDue (C.completeCore number records lead len h)

theorem NodeClosed.loseClosedProof (lead : N → s.operationalLeader = true) (h : P s) : P s.loseClosedProof :=
  C.doors _ (by simpa [State.operationalLeader] using lead) (C.setTrainClosed _ lead h)

theorem NodeClosed.loseSweep (cause : LossCause) (lead : N → s.operationalLeader = true) (h : P s) :
    P (s.loseSweep cause) := by
  unfold State.loseSweep
  dsimp only
  refine C.relaunchIfDue ?_
  split
  · exact C.trigger (C.raise _ (C.loseClosedProof lead (C.sweeps _ lead rfl h)))
  · exact C.raise _ (C.loseClosedProof lead (C.sweeps _ lead rfl h))

/-! ### Walks -/

theorem NodeClosed.leaveForWalk (h : P s) : P s.leaveForWalk := by
  unfold State.leaveForWalk
  split
  · next op => exact C.leave _ _ (.inr rfl) op h
  · exact h

theorem NodeClosed.takePosition (x : PortId) (gen pos : Nat) (free : s.cc.claim = none) (real : gen ≠ 0) (h : P s) :
    P (s.takePosition x gen pos) := by
  have started : P s.leaveForWalk.startPosition := C.still (C.leaveForWalk h) rfl ⟨rfl, rfl⟩ rfl
  refine C.still (C.placed x gen pos ?_ (fun _ => ?_) real started) rfl ⟨rfl, rfl⟩ rfl
  · exact (State.leaveForWalk_claim s).trans free
  · exact State.leaveForWalk_node s

theorem NodeClosed.confirmWalk (n : Nat) (reason : Reason) (walking : s.cc.walking = true)
    (claim : N → s.cc.claim.isSome = true)
    (table : N → s.consistInv → s.cc.confirms (confirmedTable s.cc.records s.cc.gen n reason)) (h : P s) :
    P (s.confirmWalk n reason) := by
  unfold State.confirmWalk
  dsimp only
  set t := confirmedTable s.cc.records s.cc.gen n reason
  generalize e3 : State.modCc _ (fun c : Consist => { c with confirmCheck := true }) = s3
  have hP3 : P s3 := by
    rw [← e3]
    exact C.still (C.raise .consist (C.confirmed t claim table h)) rfl ⟨rfl, rfl⟩ rfl
  have cc3 : s3.cc.walk = s.cc.walk ∧ s3.cc.walkTimer = none ∧ s3.cc.node = .operational ∧ s3.cc.claim = s.cc.claim := by
    rw [← e3]
    exact ⟨rfl, rfl, rfl, rfl⟩
  generalize e4 : (if 1 < t.entries.length then _ else s3) = s4
  have hP4 : P s4 ∧ s4.cc = s3.cc := by
    rw [← e4]
    split
    · exact ⟨C.offerRear _ hP3, by simp⟩
    · exact ⟨hP3, rfl⟩
  obtain ⟨hP4, cc4⟩ := hP4
  rw [← cc4] at cc3
  obtain ⟨walk4, timer4, node4, claim4⟩ := cc3
  have busy : s4.cc.walk ≠ .idle ∧ s4.cc.walk ≠ .settling := by
    rw [walk4]
    simp only [Consist.walking, Bool.or_eq_true, beq_iff_eq] at walking
    rcases walking with e | e <;> simp [e]
  obtain ⟨walk5, timer5⟩ := State.launch_walk busy.1
  have launched : P s4.launch := C.launch (fun n => by simpa [State.operationalLeader, node4, claim4] using claim n) hP4
  have ended : P (s4.launch.modCc fun c => { c with walk := .idle, records := [], callHeld := false }) :=
    C.still (C.walkEnds (fun _ => walk5 ▸ busy.2) (fun _ => timer5 ▸ timer4) launched) rfl ⟨rfl, rfl⟩ rfl
  split
  · exact C.trigger ended
  · exact ended

theorem NodeClosed.startAttempt (which : WalkState) (walks : which = .walkFirst ∨ which = .walkSecond)
    (claim : N → s.cc.claim.isSome = true) (h : P s) : P (s.startAttempt which) := by
  unfold State.startAttempt
  dsimp only
  have quiet : P (s.modCc fun c => { c with callHeld := false }) := C.still h rfl ⟨rfl, rfl⟩ rfl
  have cc1 := State.leaveForWalk_claim (s.modCc fun c => { c with callHeld := false })
  have cc2 := State.leaveForWalk_node (s.modCc fun c => { c with callHeld := false })
  generalize eu : (s.modCc fun c => { c with callHeld := false }).leaveForWalk.startPosition = u
  have hPu : P u := by
    rw [← eu]
    exact C.still (C.leaveForWalk quiet) rfl ⟨rfl, rfl⟩ rfl
  have claimU : u.cc.claim = s.cc.claim := by rw [← eu]; exact cc1
  have nodeU : u.cc.node ≠ .operational := by rw [← eu]; exact cc2
  have begun : P (u.modCc fun c => c.attempting u.sys.serial which) :=
    C.attempting which walks (fun n => claimU ▸ claim n) (fun _ => nodeU) hPu
  have walking : (u.modCc fun c => c.attempting u.sys.serial which).cc.walking = true := by
    rcases walks with e | e <;> simp [e, Consist.attempting, Consist.walking]
  split
  · exact C.offerRear _ (C.walkStarts walking begun)
  · refine C.confirmWalk (s := u.modCc fun c => c.attempting u.sys.serial which) 1 .none walking
      (fun n => claimU ▸ claim n) (fun _ inv => ?_) begun
    exact Consist.confirms_confirmedTable inv.2.2.1 (by decide) (by decide)
      (by simp [Consist.attempting, heldUpTo, recordAt, Consist.leaderEntry]) _

theorem NodeClosed.attemptFails (claim : N → s.cc.claim.isSome = true) (h : P s) : P s.attemptFails := by
  unfold State.attemptFails
  split
  · exact C.startAttempt _ (.inr rfl) claim h
  · next second =>
    have walking : s.cc.walking = true := by simp [Consist.walking, second]
    refine C.confirmWalk _ _ walking claim (fun _ inv => ?_) h
    obtain ⟨-, -, records, -⟩ := inv
    exact Consist.confirms_confirmedTable records (heldPrefix_pos (records.2 walking)) (heldPrefix_le _)
      (heldUpTo_heldPrefix _) _
  · exact h
  · exact h

/-! ### Frames -/

theorem NodeClosed.ccWalk (x : PortId) (gen : Nat) (leader : Serial) (next : Nat) (h : P s) : P (s.ccWalk x gen leader next) := by
  unfold State.ccWalk
  split
  · exact h
  split
  · exact C.conflict (C.offer _ _ h)
  next unclaimed =>
  have free : s.cc.claim = none := by simpa using unclaimed
  split
  · exact h
  split
  · exact (C.port x).countMalformed h
  next fields =>
  split
  · exact h
  split
  · exact C.offer _ _ h
  dsimp only
  have placed := C.offer x { gen, body := .node (plainEntry ((s.takePosition x gen next).ownEntry false)) }
    (C.takePosition x gen next free (by omega) h)
  split
  · exact C.offer _ _ placed
  · exact C.offer _ _ placed

theorem NodeClosed.ccNode (x : PortId) (gen : Nat) (e : Entry) (h : P s) : P (s.ccNode x gen e) := by
  unfold State.ccNode
  split
  · exact (C.port x).countStale h
  split
  · next fields =>
    simp only [Bool.and_eq_true, decide_eq_true_eq] at fields
    obtain ⟨⟨⟨⟨-, above⟩, -⟩, -⟩, range⟩ := fields
    refine C.recorded _ range ?_ h
    have notFirst : e.position ≠ 1 := by omega
    simp [notFirst]
  · exact h

theorem NodeClosed.ccTail (x : PortId) (gen : Nat) (tooLong : Bool) (last : Nat) (claim : s.cc.claim.isSome = true) (h : P s) :
    P (s.ccTail x gen tooLong last) := by
  unfold State.ccTail
  split
  · exact (C.port x).countStale h
  split
  · exact h
  next walks =>
  have walking : s.cc.walking = true := by simpa using walks
  have confirms (n : Nat) (r : Reason) (pos : 1 ≤ n) (le : n ≤ 32) (held : heldUpTo s.cc.records n = true) :
      P (s.confirmWalk n r) :=
    C.confirmWalk n r walking (fun _ => claim)
      (fun _ inv => Consist.confirms_confirmedTable inv.2.2.1 pos le held _) h
  split
  · split
    · next held => exact confirms 32 .overlength (by decide) (by decide) held
    · exact C.attemptFails (fun _ => claim) h
  split
  · exact (C.port x).countMalformed h
  next range =>
  split
  · next held => exact confirms last .none (by omega) (by omega) held
  · exact C.attemptFails (fun _ => claim) h

theorem NodeClosed.ccClash (x : PortId) (gen : Nat) (h : P s) : P (s.ccClash x gen) := by
  unfold State.ccClash
  split
  · exact (C.port x).countStale h
  · exact C.conflict h

theorem NodeClosed.ccCall (x : PortId) (gen cause : Nat) (h : P s) : P (s.ccCall x gen cause) := by
  unfold State.ccCall
  split
  · exact (C.port x).countStale h
  split
  · exact (C.port x).countMalformed h
  split
  · exact C.still h rfl ⟨rfl, rfl⟩ rfl
  · exact C.trigger h

theorem NodeClosed.ccConfirm (x : PortId) (gen n reason : Nat) (entries : List LineEntry) (free : s.cc.claim = none)
    (h : P s) : P (s.ccConfirm x gen n reason entries) := by
  unfold State.ccConfirm
  dsimp only
  split
  · exact (C.port x).countStale h
  next ofGen =>
  split
  · exact h
  next prov =>
  simp only [not_or, not_not] at ofGen prov
  split
  · next accepts =>
    have confirms : s.cc.confirms ⟨gen, (reasonOfCode reason).getD .none, entries.map LineEntry.entry⟩ :=
      Consist.confirms_of_accepts ofGen.1 accepts
    have entered := C.raise .consist (C.member _ free prov confirms h)
    have operational : P (s.enterOperational ⟨gen, (reasonOfCode reason).getD .none, entries.map LineEntry.entry⟩) :=
      C.still entered rfl ⟨rfl, rfl⟩ rfl
    split
    · exact C.offerRear _ operational
    · exact operational
  · exact C.emitCall _ _ (C.suspend _ h)

theorem NodeClosed.heardSweep (h : P s) : P s.heardSweep := by
  unfold State.heardSweep
  split
  · exact C.still h rfl ⟨rfl, rfl⟩ rfl
  · exact h

theorem NodeClosed.answerSweep (gen number flags n : Nat) (list : List Nat) (l : List Element) (h : P s) :
    P (s.answerSweep gen number flags n list l) := by
  unfold State.answerSweep
  dsimp only
  have answered := C.afterAppend ((s.gapCheck number).ownAppended (refreshBit flags)) (C.gapCheck number h)
  split
  · exact C.offerRear _ answered
  · exact C.offerFront _ answered

theorem NodeClosed.seSweep (x : PortId) (gen number flags n : Nat) (list : List Nat) (h : P s) :
    P (s.seSweep x gen number flags n list) := by
  unfold State.seSweep
  split
  · exact (C.port x).countStale h
  split
  · exact h
  split
  · exact (C.port x).countMalformed (C.heardSweep h)
  · exact C.answerSweep _ _ _ _ _ _ (C.heardSweep h)

theorem NodeClosed.seReturn (x : PortId) (gen number n : Nat) (list : List Nat) (claim : s.cc.claim.isSome = true)
    (h : P s) : P (s.seReturn x gen number n list) := by
  unfold State.seReturn
  split
  · exact (C.port x).countStale h
  split
  · exact C.still h rfl ⟨rfl, rfl⟩ rfl
  next due =>
  simp only [not_or, not_not] at due
  have lead (_ : N) : s.operationalLeader = true := by simp [State.operationalLeader, claim, due.1]
  split
  · next records covered =>
    exact C.completeSweep number records lead (fun _ inv => State.covered_length_le inv covered) h
  · exact C.loseSweep _ (s := s.modSe _) lead (C.still h rfl ⟨rfl, rfl⟩ rfl)

theorem NodeClosed.handleDoor (gen id : Nat) (a : Action) (t : TrainSide) (first last : Nat) (h : P s) :
    P (s.handleDoor gen id a t first last) := by
  unfold State.handleDoor
  dsimp only
  have applied : P (if s.doorApplies first last then s.applyDoor a t else s) := by
    split
    · next applies =>
      simp only [State.doorApplies, Bool.and_eq_true, beq_iff_eq] at applies
      exact C.applyDoor a t (fun _ => applies.1.1) h
    · exact h
  generalize (if s.doorApplies first last then s.applyDoor a t else s) = u at applied ⊢
  have noted : P (u.modDcu fun d => { d with lastDoor := some { gen, id, applied := s.doorApplies first last } }) :=
    C.still applied rfl ⟨rfl, rfl⟩ rfl
  split
  · exact C.offerFront _ noted
  · exact C.offerRear _ noted

theorem NodeClosed.dcuDoor (x : PortId) (gen id action side first last : Nat) (h : P s) :
    P (s.dcuDoor x gen id action side first last) := by
  unfold State.dcuDoor
  split
  · exact (C.port x).countStale h
  split
  · exact (C.port x).countMalformed h
  · exact C.handleDoor _ _ _ _ _ _ h

theorem NodeClosed.dcuEcho (x : PortId) (gen id : Nat) (applied : PosSet) (h : P s) : P (s.dcuEcho x gen id applied) := by
  have late : P (s.modDcu fun d => { d with lateEchoes := inc16 d.lateEchoes }) := C.still h rfl ⟨rfl, rfl⟩ rfl
  unfold State.dcuEcho
  split
  · exact (C.port x).countStale h
  split
  · next flight _ =>
    split
    · exact C.endInFlight _ _
        (fun n => State.leads_of_nodeInv (C.inv n h) (by simp [State.holdsLeaderState, flight])) h
    · exact late
  · exact late

theorem NodeClosed.handleGrant (gen cause number n : Nat) (grants : List Nat) (c : GrantCause) (k : Option Nat)
    (levels : ∀ g ∈ grants, g ≤ 7) (h : P s) : P (s.handleGrant gen cause number n grants c k) := by
  unfold State.handleGrant
  dsimp only
  have taken : P (if s.cc.node = .operational ∧ s.pos ≤ n then s.takeGrant (at1 grants s.pos) gen c k else s) := by
    split
    · next takes => exact C.takeGrant _ _ _ _ (fun _ => takes.1) (fun _ => at1_le levels _) h
    · exact h
  generalize (if s.cc.node = .operational ∧ s.pos ≤ n then s.takeGrant (at1 grants s.pos) gen c k else s) = u at taken ⊢
  split
  · exact C.offerRear _ taken
  · exact taken

theorem NodeClosed.haGrant (x : PortId) (gen cause number n : Nat) (grants : List Nat) (h : P s) :
    P (s.haGrant x gen cause number n grants) := by
  unfold State.haGrant
  split
  · exact (C.port x).countStale h
  split
  · exact (C.port x).countMalformed h
  · next fields =>
    split
    · exact C.handleGrant _ _ _ _ _ _ _ (grantFields_levels fields) h
    · exact h

theorem NodeClosed.frontward (x : PortId) (f : Frame) (consume : State → State)
    (consumes : s.cc.claim.isSome = true → P (consume s)) (h : P s) : P (s.frontward x f consume) := by
  unfold State.frontward
  split
  · next claim =>
    split
    · exact (C.port x).countMisroute h
    · exact consumes (by simp [claim])
  · split
    · exact (C.port x).countMisroute h
    · exact C.offer _ _ h

theorem NodeClosed.rearward (x : PortId) (consume : State → State) (consumes : s.cc.claim = none → P (consume s))
    (h : P s) : P (s.rearward x consume) := by
  unfold State.rearward
  split
  · exact (C.port x).countMisroute h
  · next passes => exact consumes (by simp_all)

theorem NodeClosed.route (x : PortId) (f : Frame) (h : P s) : P (s.route x f) := by
  unfold State.route
  split
  · exact (C.port x).countMalformed h
  split
  · exact C.ccWalk _ _ _ _ h
  · exact C.frontward _ _ _ (fun _ => C.ccNode _ _ _ h) h
  · exact C.frontward _ _ _ (fun claim => C.ccTail _ _ _ _ claim h) h
  · exact C.frontward _ _ _ (fun _ => C.ccClash _ _ h) h
  · exact C.frontward _ _ _ (fun _ => C.ccCall _ _ _ h) h
  · exact C.frontward _ _ _ (fun _ => C.dcuEcho _ _ _ _ h) h
  · exact C.frontward _ _ _ (fun claim => C.seReturn _ _ _ _ _ claim h) h
  · exact C.rearward _ _ (fun free => C.ccConfirm _ _ _ _ _ free h) h
  · exact C.rearward _ _ (fun _ => C.dcuDoor _ _ _ _ _ _ _ h) h
  · exact C.rearward _ _ (fun _ => C.seSweep _ _ _ _ _ _ h) h
  · exact C.rearward _ _ (fun _ => C.haGrant _ _ _ _ _ _ h) h
  · exact (C.port x).countMalformed h
  · exact (C.port x).countMalformed h
  · exact (C.port x).countMalformed h

theorem NodeClosed.announce (p : PortId) (h : P s) : P (s.announce p) := by
  unfold State.announce
  split
  · exact h
  · split
    · exact C.raise _ (C.present p ((C.port p).nm _ h))
    · exact h

theorem NodeClosed.nmBeat (p : PortId) (gen : Nat) (b : BeatBody) (h : P s) : P (s.nmBeat p gen b) := by
  unfold State.nmBeat
  split
  · exact (C.port p).nm _ h
  split
  · exact (C.link p).ownBeat h
  · exact C.announce p ((C.link p).farBeat _ ((C.port p).cp _ h))

theorem NodeClosed.handOn (p : PortId) (f : Frame) (h : P s) : P (s.handOn p f) := by
  unfold State.handOn
  split
  · exact C.nmBeat _ _ _ h
  · split
    · exact (C.port p).nm _ h
    · exact C.route _ _ h
  · exact C.route _ _ h

/-- A port's commands keep the property. -/
theorem NodeClosed.frame (p : PortId) : FrameClosed p P := { C.link p with handOn := C.handOn p }

end

end Sys2Proof.Machine
end

section
/-! What a step does to the whole part: the timers and the requests of the node, and the events that reach every block. A property
that the node's moves, the resets and the host link's bookkeeping keep survives every step. -/

namespace Sys2Proof.Machine

/-- The books of the host link: slots, replies, refusal slot and the message in transmission (09 R170, R172). -/
def HostLink.books (h : HostLink) : List Request × List Reply × Option Reply × Option HostTx :=
  (h.slots, h.replies, h.refusal, h.tx)

/-- A property that the node's moves keep, and the host link's events that leave its books as they are. -/
structure HostClosed (N : Prop) (P : State → Prop) : Prop extends NodeClosed N P where
  host : ∀ {s : State} (f : HostLink → HostLink), (∀ h, (f h).books = h.books) → P s → P (s.modHl f)

/-- An owner that keeps every such property. -/
def OwnerKeeps (N : Prop) (owner : State → Answer) : Prop :=
  ∀ Q : State → Prop, HostClosed N Q → ∀ s, Q s → Q (owner s).state

/-- The node out of its consist, but for its place and its claim (04 R76). -/
def State.departed (s : State) : State :=
  match s.cc.node with
  | .operational => s.leaveOperational .isolated .isolation
  | .provisional => s.modCc fun c => { c with lastExit := .isolation }
  | .detached => s
  | .suspended => s
  | .isolated => s

theorem State.leaveForIsolation_eq (s : State) :
    s.leaveForIsolation = if s.cc.claim.isSome then s.departed.endClaim .isolation else s.departed := rfl

theorem State.issueGrant_ha_grants (s : State) (c : GrantCause) (k : Option Nat) :
    (s.issueGrant c k).ha.grants = s.ha.grants := by
  unfold State.issueGrant
  dsimp only
  split <;> simp [State.takeGrant, State.setHeld]

section
variable {N : Prop} {P : State → Prop} (C : NodeClosed N P) {s : State}
include C

/-! ### Settings, doors and supply -/

theorem NodeClosed.examineOpen (h : P s) : P s.examineOpen := by
  unfold State.examineOpen
  split
  · split
    · exact h
    · exact C.still h rfl ⟨rfl, rfl⟩ rfl
  · exact C.raiseIf _ _ (C.still h rfl ⟨rfl, rfl⟩ rfl)

theorem NodeClosed.clearLockout (h : P s) : P s.clearLockout := by
  unfold State.clearLockout
  split
  · exact C.raise _ (C.still (C.unlocked h) rfl ⟨rfl, rfl⟩ rfl)
  · exact h

theorem NodeClosed.shedAtSupply_of_shedded (h : P s.shedded) : P s.shedAtSupply := by
  unfold State.shedded at h
  unfold State.shedAtSupply
  split at h
  · next runs =>
    rw [if_pos runs]
    simp only [Bool.and_eq_true] at runs
    dsimp only
    split
    · exact h
    · exact C.issueGrant _ _ (fun _ => State.node_of_operationalLeader runs.1) h
  · next rests => rwa [if_neg rests]

theorem NodeClosed.recordTrip (zero : s.ha.grants = List.replicate 32 0) (h : P s) :
    P ((s.modHa fun h => { h with holdOff := some 0 }).recordTrip) :=
  C.raiseIf _ _ (C.still (C.heldOff (some 0) (s.ha.lockout || decide (3 ≤ (joinTrip s.ha.trips s.sys.ticks).length)) zero h)
    rfl ⟨rfl, rfl⟩ rfl)

/-! ### Timers of the node -/

theorem NodeClosed.settleTimer (running : s.cc.settleTimer.isSome = true) (h : P s) : P (s.startAttempt .walkFirst) := by
  refine C.startAttempt _ (.inl rfl) (fun n => ?_) h
  obtain ⟨-, -, claims, settles, -⟩ := C.inv n h
  exact claims (by simp [settles running])

theorem NodeClosed.walkTimer (running : s.cc.walkTimer.isSome = true) (h : P s) :
    P (s.modCc fun c => { c with walkTimer := none }).attemptFails := by
  refine C.attemptFails (fun n => ?_) (C.walkStops h)
  obtain ⟨-, -, claims, -, walks⟩ := C.inv n h
  refine claims fun idle => ?_
  simpa [Consist.walking, idle] using walks running

theorem NodeClosed.confirmTimeout (h : P s) : P s.confirmTimeout := by
  unfold State.confirmTimeout
  split
  · exact C.still (C.suspend _ h) rfl ⟨rfl, rfl⟩ rfl
  · exact C.still h rfl ⟨rfl, rfl⟩ rfl

theorem NodeClosed.sweepSilence (h : P s) : P s.sweepSilence := by
  unfold State.sweepSilence
  split
  · exact C.still (C.suspend _ h) rfl ⟨rfl, rfl⟩ rfl
  · exact C.still h rfl ⟨rfl, rfl⟩ rfl

theorem NodeClosed.intervalExpires (running : s.se.intervalTimer.isSome = true) (h : P s) : P s.intervalExpires := by
  have lead (n : N) : s.operationalLeader = true :=
    State.leads_of_nodeInv (C.inv n h) (by simp [State.holdsLeaderState, running])
  have stopped := C.sweeps (fun e => { e with intervalTimer := none }) lead rfl h
  unfold State.intervalExpires
  dsimp only
  split
  · exact stopped
  · split
    · exact C.sweeps (s := s.modSe _) _ lead rfl stopped
    · exact C.launch (s := s.modSe _) lead stopped

theorem NodeClosed.sweepTimeout (running : s.se.timeout.isSome = true) (h : P s) : P (s.loseSweep .timeout) :=
  C.loseSweep _ (fun n => State.leads_of_nodeInv (C.inv n h) (by simp [State.holdsLeaderState, running])) h

theorem NodeClosed.echoTimer (running : s.dcu.echoTimer.isSome = true) (h : P s) : P (s.endInFlight .timeout none) :=
  C.endInFlight _ _ (fun n => State.leads_of_nodeInv (C.inv n h) (by simp [State.holdsLeaderState, running])) h

theorem NodeClosed.watchdogExpires (h : P s) : P s.watchdogExpires := by
  have lowered := C.raise .grant (C.raiseIf (s.ha.held != 0) .grant (C.unheld h))
  unfold State.watchdogExpires State.setHeld
  cases hb : s.ha.held != 0 <;> rw [hb] at lowered <;> exact lowered

/-! ### Requests of the node -/

theorem NodeClosed.reqSetCoach (cls l1 l2 sp : Nat) (h : P s) : P (s.reqSetCoach cls l1 l2 sp).state := by
  unfold State.reqSetCoach
  split
  · exact h
  next range =>
  dsimp only
  split
  · exact h
  · refine C.examineOpen (C.coachChanged (C.coach _ ?_ h))
    simp only [not_or, Nat.not_lt] at range
    obtain ⟨h1, h2, h3, h4, h5⟩ := range
    exact ⟨h1, h2, h3, Nat.pos_of_ne_zero h4, h5⟩

theorem NodeClosed.reqClaimLead (cabEnd : Nat) (h : P s) : P (s.reqClaimLead cabEnd).state := by
  unfold State.reqClaimLead
  split
  · exact h
  split
  · exact h
  next node =>
  simp only [not_or] at node
  split
  · next free => exact C.acceptClaim _ free node.1 h
  · split
    · exact C.trigger h
    · exact h

theorem NodeClosed.reqDropLead (h : P s) : P s.reqDropLead.state := by
  unfold State.reqDropLead
  split
  · exact C.endClaim _ (fun _ => s.suspend_node_ne _) (C.suspend _ h)
  · exact h

theorem NodeClosed.reqStartInauguration (h : P s) : P s.reqStartInauguration.state := by
  unfold State.reqStartInauguration
  split
  · exact C.trigger h
  · exact h

/-- Such a node is one that a move has taken out of OPERATIONAL, but for what the isolation clears. -/
theorem NodeClosed.departed (h : P s) :
    ∃ (u : State) (n : NodeState) (e : ExitCause) (t : Table), P u ∧ u.cc.node ≠ .operational ∧ u.cc.claim = s.cc.claim ∧
      s.departed = u.modCc fun c => { c with node := n, lastExit := e, table := t } := by
  unfold State.departed
  split
  · next op =>
    refine ⟨_, .isolated, .isolation, Table.empty, C.leave .suspended .isolation (.inl rfl) op h, ?_, ?_, rfl⟩ <;>
      simp [State.leaveOperational_cc]
  · next prov => exact ⟨s, _, .isolation, _, h, by simp [prov], rfl, rfl⟩
  · next det => exact ⟨s, _, _, _, h, by simp [det], rfl, rfl⟩
  · next susp => exact ⟨s, _, _, _, h, by simp [susp], rfl, rfl⟩
  · next iso => exact ⟨s, _, _, _, h, by simp [iso], rfl, rfl⟩

theorem NodeClosed.isolates (h : P s) : P (s.leaveForIsolation.startPosition.modCc Consist.isolate) := by
  obtain ⟨u, n, e, t, hu, node, claim, departed⟩ := C.departed h
  rw [State.leaveForIsolation_eq, departed]
  split
  · exact C.still (C.unplaced (s := (u.modCc Consist.released).raise .lead) (fun _ => node) rfl
      (C.raise .lead (C.released (fun _ => node) hu))) rfl ⟨rfl, rfl⟩ rfl
  · next free =>
    exact C.still (C.unplaced (fun _ => node) (by rw [claim]; simpa using free) hu) rfl ⟨rfl, rfl⟩ rfl

theorem NodeClosed.reqEnterIsolation (h : P s) : P s.reqEnterIsolation.state := by
  unfold State.reqEnterIsolation
  split
  · exact h
  · exact (C.link .p2).portToOpen _ ((C.link .p1).portToOpen _ (C.isolates h))

theorem NodeClosed.reqLeaveIsolation (h : P s) : P s.reqLeaveIsolation.state := by
  unfold State.reqLeaveIsolation
  split
  · next iso => exact (C.link .p2).leaveOpen ((C.link .p1).leaveOpen (C.detached iso h))
  · exact h

theorem NodeClosed.reqSetWindow (index anchor offset count enabled : Nat) (h : P s) :
    P (s.reqSetWindow index anchor offset count enabled).state := by
  unfold State.reqSetWindow
  split
  · split
    · exact h
    · exact C.still h rfl ⟨rfl, rfl⟩ rfl
  · exact h

theorem NodeClosed.reqDoorCommand (action side window : Nat) (h : P s) : P (s.reqDoorCommand action side window).state := by
  unfold State.reqDoorCommand
  split
  · exact h
  next leads =>
  have lead : s.operationalLeader = true := by simpa using leads
  split
  · split
    · exact h
    split
    · exact h
    split
    · exact h
    · exact C.queueDoor _ _ _ (fun _ => lead) h
  · exact h

theorem NodeClosed.reqSetStandstill (value : Nat) (h : P s) : P (s.reqSetStandstill value).state := by
  have withdrawn : P (s.modDcu fun d => { d with standstill := false }) := C.still h rfl ⟨rfl, rfl⟩ rfl
  unfold State.reqSetStandstill
  split
  · exact h
  · exact C.still h rfl ⟨rfl, rfl⟩ rfl
  · change P (ite _ _ _)
    split
    · next known =>
      simp only [Bool.and_eq_true] at known
      exact C.withdrawStandstill (fun _ => known.1.2) withdrawn
    · exact withdrawn

theorem NodeClosed.reqIsolateLeaves (set : Nat) (h : P s) : P (s.reqIsolateLeaves set).state := by
  unfold State.reqIsolateLeaves
  dsimp only
  split
  · exact h
  · exact C.examineOpen (C.raise _ (C.still h rfl ⟨rfl, rfl⟩ rfl))

theorem NodeClosed.reqSetHeatLevel (level : Nat) (h : P s) : P (s.reqSetHeatLevel level).state :=
  C.levelled _ (Nat.min_le_left _ _) h

theorem NodeClosed.reqSetSupply (capacity ramp clear : Nat) (h : P s) : P (s.reqSetSupply capacity ramp clear).state := by
  unfold State.reqSetSupply
  split
  · exact h
  next c _ =>
  split
  · exact h
  · refine C.shedAtSupply_of_shedded ?_
    cases c
    · exact C.supplied _ _ h
    · have cleared := C.supplied (min 4000 capacity) (max 1 (min 400 ramp)) (C.clearLockout h)
      unfold State.clearLockout at cleared ⊢
      cases hl : s.ha.lockout
      all_goals
        rw [hl] at cleared
        simp only [if_true, State.modHa_ha, hl]
        exact cleared

theorem NodeClosed.reqSupplyTrip (h : P s) : P s.reqSupplyTrip.state := by
  unfold State.reqSupplyTrip
  split
  · dsimp only
    refine C.raise _ (C.recordTrip ?_ ?_)
    · split
      · rw [State.issueGrant_ha_grants]; rfl
      · rfl
    · split
      · next op => exact C.issueGrant _ _ (fun _ => op) (C.zeroed h)
      · exact C.zeroed h
  · exact h

theorem NodeClosed.reqSetSweepInterval (v : Nat) (h : P s) : P (s.reqSetSweepInterval v).state :=
  C.still h rfl ⟨rfl, rfl⟩ rfl

theorem NodeClosed.reqSetPort (port mode rate force : Nat) (h : P s) : P (s.reqSetPort port mode rate force).state := by
  unfold State.reqSetPort
  split
  · split
    · exact h
    split
    · exact h
    · exact (C.link _).applySetPort _ _ _ h
  · exact h

end

theorem HostClosed.reqSetNotices {N : Prop} {P : State → Prop} (C : HostClosed N P) {s : State} (mask : Nat) (h : P s) :
    P (s.reqSetNotices mask).state := by
  unfold State.reqSetNotices
  split
  · exact h
  · exact C.host (fun h => { h with mask := BitVec.ofNat 12 mask, notices := h.notices &&& BitVec.ofNat 12 mask })
      (fun _ => rfl) h

theorem HostClosed.reqSoftReset {N : Prop} {P : State → Prop} (C : HostClosed N P) {s : State} (h : P s) : P s.reqSoftReset.state :=
  C.host (fun h => { h with resetPending := true }) (fun _ => rfl) h

end Sys2Proof.Machine
end

section
/-! Every step keeps the invariants (O57, O58, O59): the events that reach every block, and one pass over the commands. -/

namespace Sys2Proof.Machine

/-- A property that the node's moves, the resets and the host link's bookkeeping keep. -/
structure PartClosed (N : Prop) (P : State → Prop) : Prop extends HostClosed N P where
  request : ∀ {s : State} (kind tag : Nat) (payload : List Nat) (owner : State → Answer), OwnerKeeps N owner →
    P s → P (s.request kind tag payload owner)
  kick : ∀ {s : State}, P s → P s.hostKick
  sent : ∀ {s : State}, P s → P (s.modHl HostLink.messageEnds)
  down : ∀ {s : State}, P s → P s.powerDown
  pin : ∀ {s : State}, P s → P s.assertPin
  soft : ∀ {s : State} (ratesel : Bool), P s → P (s.softValues ratesel)

theorem State.running_of_expires {s : State} {t : Timer} {n : Nat} (h : s.expires t n = true) : t.isSome = true := by
  obtain ⟨-, due⟩ := (s.expires_iff t n).mp h
  obtain ⟨e, rfl, -⟩ := (timerDue_iff t n).mp due
  rfl

theorem HostLink.books_takeSync (h : HostLink) : h.takeSync.books = h.books := by
  unfold HostLink.takeSync
  split <;> rfl

/-- An event that acts only where its condition holds. -/
theorem holds_when {P : State → Prop} {s t : State} {b : Prop} [Decidable b] (acts : b → P t) (h : P s) :
    P (if b then t else s) := by
  split
  · exact acts ‹b›
  · exact h

section
variable {N : Prop} {P : State → Prop} (C : PartClosed N P) {s : State}
include C

theorem PartClosed.done (h : P s) : completes s.done P := ⟨_, rfl, C.kick h⟩

/-! ### Resets, the clock, the end of the initialisation -/

theorem PartClosed.releaseReset (ratesel : Bool) (h : P s) : P (s.releaseReset ratesel) := by
  refine C.examineOpen ?_
  refine C.still (C.host (fun l => { l with rateHigh := ratesel }) (fun _ => rfl)
    ((C.port .p2).nm (fun n => { n with stab := some 0 }) ((C.port .p1).nm (fun n => { n with stab := some 0 }) h)))
    rfl ⟨rfl, rfl⟩ rfl

theorem PartClosed.releaseLine (line : ResetLine) (ratesel : Bool) (h : P s) : P (s.releaseLine line ratesel) := by
  have released : P { s with sys := s.sys.release line } := by cases line <;> exact C.still h rfl ⟨rfl, rfl⟩ rfl
  unfold State.releaseLine
  split
  · dsimp only
    split
    · exact released
    · exact C.releaseReset _ released
  · exact h

theorem PartClosed.startupEnd (h : P s) : P s.startupEnd := by
  unfold State.startupEnd
  split
  · refine (C.link .p2).leaveOpen ((C.link .p1).leaveOpen (C.raise _ ?_))
    exact C.still (C.host (fun l => { l with txHold := true }) (fun _ => rfl) h) rfl ⟨rfl, rfl⟩ rfl
  · exact h

theorem PartClosed.softReset (ratesel : Bool) (h : P s) : P (s.softReset ratesel) :=
  (C.link .p2).leaveOpen ((C.link .p1).leaveOpen (C.examineOpen (C.raise _ (C.soft ratesel h))))

theorem PartClosed.messageSent (h : P s) : P s.messageSent := by
  unfold State.messageSent
  split
  · exact C.softReset _ (C.still h rfl ⟨rfl, rfl⟩ rfl)
  · exact C.sent h

theorem PartClosed.portTick (p : PortId) (h : P s) :
    P (((s.modCp p Coupler.tick).modNm p Nbr.tick).modLr p fun r => if (s.cp p).st = .linked then r.tick else r) := by
  refine (C.port p).lr _ (fun inv => ?_) ((C.port p).nm _ ((C.port p).cp _ h))
  split
  · exact Relay.tick_inv inv
  · exact inv

theorem PartClosed.tick (h : P s) : P s.tick := by
  unfold State.tick
  split
  · have ported := C.portTick .p2 (C.portTick .p1 h)
    refine C.still (C.host (fun l => { l with frameTimer := tickTimer l.frameTimer }) (fun _ => rfl) ported) ?_ ⟨rfl, rfl⟩ rfl
    simp [State.nodeCore, Timer.flag_tickTimer]
  · exact h

/-! ### The commands -/

theorem PartClosed.adoptLeaf (i : Nat) (h : P s) : P (s.adoptLeaf i) := by
  unfold State.adoptLeaf
  dsimp only
  split
  · exact C.still h rfl ⟨rfl, rfl⟩ rfl
  · exact C.examineOpen (C.raise _ (C.still h rfl ⟨rfl, rfl⟩ rfl))

/-! ### Requests with fields -/

theorem PartClosed.setCoach (tag : Nat) (payload : List Nat) (h : P s) : completes (execSetCoach tag payload s) P := by
  refine C.done (C.request _ _ _ _ (fun Q D u hu => ?_) h)
  split
  · exact D.reqSetCoach _ _ _ _ hu
  · exact hu

theorem PartClosed.claimLead (tag : Nat) (payload : List Nat) (h : P s) : completes (execClaimLead tag payload s) P := by
  refine C.done (C.request _ _ _ _ (fun Q D u hu => ?_) h)
  split
  · exact D.reqClaimLead _ hu
  · exact hu

theorem PartClosed.getConsist (tag : Nat) (payload : List Nat) (h : P s) : completes (execGetConsist tag payload s) P := by
  refine C.done (C.request _ _ _ _ (fun Q D u hu => ?_) h)
  split
  · unfold State.reqGetConsist
    split <;> exact hu
  · exact hu

theorem PartClosed.setWindow (tag : Nat) (payload : List Nat) (h : P s) : completes (execSetWindow tag payload s) P := by
  refine C.done (C.request _ _ _ _ (fun Q D u hu => ?_) h)
  split
  · exact D.reqSetWindow _ _ _ _ _ hu
  · exact hu

theorem PartClosed.doorCommand (tag : Nat) (payload : List Nat) (h : P s) : completes (execDoorCommand tag payload s) P := by
  refine C.done (C.request _ _ _ _ (fun Q D u hu => ?_) h)
  split
  · exact D.reqDoorCommand _ _ _ hu
  · exact hu

theorem PartClosed.setStandstill (tag : Nat) (payload : List Nat) (h : P s) : completes (execSetStandstill tag payload s) P := by
  refine C.done (C.request _ _ _ _ (fun Q D u hu => ?_) h)
  split
  · exact D.reqSetStandstill _ hu
  · exact hu

theorem PartClosed.setHeatLevel (tag : Nat) (payload : List Nat) (h : P s) : completes (execSetHeatLevel tag payload s) P := by
  refine C.done (C.request _ _ _ _ (fun Q D u hu => ?_) h)
  split
  · exact D.reqSetHeatLevel _ hu
  · exact hu

theorem PartClosed.setSupply (tag : Nat) (payload : List Nat) (h : P s) : completes (execSetSupply tag payload s) P := by
  refine C.done (C.request _ _ _ _ (fun Q D u hu => ?_) h)
  split
  · exact D.reqSetSupply _ _ _ hu
  · exact hu

theorem PartClosed.setSweepInterval (tag : Nat) (payload : List Nat) (h : P s) :
    completes (execSetSweepInterval tag payload s) P := by
  refine C.done (C.request _ _ _ _ (fun Q D u hu => ?_) h)
  split
  · exact D.reqSetSweepInterval _ hu
  · exact hu

theorem PartClosed.setPort (tag : Nat) (payload : List Nat) (h : P s) : completes (execSetPortMaximumRate tag payload s) P := by
  refine C.done (C.request _ _ _ _ (fun Q D u hu => ?_) h)
  split
  · exact D.reqSetPort _ _ _ _ hu
  · exact hu

theorem PartClosed.isolateLeaves (tag : Nat) (payload : List Nat) (h : P s) : completes (execIsolateLeaves tag payload s) P := by
  refine C.done (C.request _ _ _ _ (fun Q D u hu => ?_) h)
  split
  · exact D.reqIsolateLeaves _ hu
  · exact hu

theorem PartClosed.setNotices (tag : Nat) (payload : List Nat) (h : P s) : completes (execSetNotices tag payload s) P := by
  refine C.done (C.request _ _ _ _ (fun Q D u hu => ?_) h)
  split
  · exact D.reqSetNotices _ hu
  · exact hu

theorem PartClosed.getPort (tag : Nat) (payload : List Nat) (h : P s) : completes (execGetPort tag payload s) P := by
  refine C.done (C.request _ _ _ _ (fun Q D u hu => ?_) h)
  split
  · unfold State.reqGetPort
    split <;> exact hu
  · exact hu

theorem PartClosed.exec (i : Instr) (h : P s) : completes (exec i s) P := by
  have frame (p : PortId) := C.frame p
  cases i with
  | powerOnReset => exact C.done (C.down h)
  | hardReset => exact C.done (C.pin h)
  | resetRelease line ratesel => exact C.done (C.releaseLine line ratesel h)
  | startupEnd => exact C.done (C.startupEnd h)
  | hostTxMarkSettled => exact C.done (holds_when (fun _ => C.host (fun l => { l with txHold := false }) (fun _ => rfl) h) h)
  | refclkLoss stopped => exact C.done (C.still h rfl ⟨rfl, rfl⟩ rfl)
  | coupledInputChange p coupled => exact C.done ((C.port p).nm _ h)
  | couplerSenseDebounce p => exact C.done (holds_when (fun _ => (C.link p).adoptSense h) h)
  | leafInputChange n closed => exact C.done (C.still h rfl ⟨rfl, rfl⟩ rfl)
  | leafDebounce n => exact C.done (holds_when (fun _ => C.adoptLeaf _ h) h)
  | openTimerBoost => exact C.done (holds_when (fun _ => C.raise _ (C.still h rfl ⟨rfl, rfl⟩ rfl)) h)
  | falseStart p q => exact C.done (holds_when (fun _ => (C.port p).cp _ h) h)
  | strayCharacterFramingError p q =>
    refine C.done ?_
    split
    · exact (frame p).badFrame q _ h
    · exact holds_when (fun _ => (C.port p).cp _ h) h
  | lineIdleAbandon p q => exact C.done (holds_when (fun _ => (frame p).badFrame q _ h) h)
  | badFrame p q cause => exact C.done ((frame p).badFrame q cause h)
  | pairCharacterTaken p q char => exact C.done (holds_when (fun _ => (C.port p).cp _ h) h)
  | patternRepetition p q sampled => exact C.done (holds_when (fun _ => (C.link p).repetition q sampled h) h)
  | pattern p q ready rate => exact C.done ((frame p).goodPattern q ready rate h)
  | patternTimer p => exact C.done (holds_when (fun _ => (C.port p).kickLine ((C.port p).cp _ h)) h)
  | attemptTimerExpiry p => exact C.done (holds_when (fun _ => (C.link p).alignFails h) h)
  | retryTimerExpiry p => exact C.done (holds_when (fun _ => (C.link p).alignAttempt 0 h) h)
  | pairBreak p q =>
    refine C.done (holds_when (fun _ => ?_) h)
    split
    · exact (frame p).breakAligning q h
    · exact (frame p).breakLinked q h
    · exact h
    · exact h
    · exact h
  | breakEnd p q => exact C.done (holds_when (fun _ => (C.port p).cp _ h) h)
  | silenceTimerExpiry p q => exact C.done (holds_when (fun _ => (frame p).changePair q _ h) h)
  | heldCopyTimerExpiry p => exact C.done (holds_when (fun _ => (frame p).deliverHeld h) h)
  | transmitEnd p => exact C.done (holds_when (fun _ => (frame p).transmitEnd h) h)
  | headFrameAging p c =>
    refine C.done (holds_when (fun due => (C.port p).lr _ (fun inv => ?_) h) h)
    simp only [Bool.and_eq_true, State.headAges] at due
    exact Relay.age_inv inv due.2.2
  | beatTimerExpiry p => exact C.done (holds_when (fun _ => (C.port p).nm _ ((C.port p).offer _ h)) h)
  | neighbourTimeout p => exact C.done (holds_when (fun _ => (C.link p).portToOpen _ ((C.port p).nm _ h)) h)
  | malformedFrame p q seq gen kind direction payload => exact C.done ((frame p).anyFrame q seq _ h)
  | beat p q seq gen body => exact C.done ((frame p).goodFrame q seq _ h)
  | walk p q seq gen leader next => exact C.done ((frame p).goodFrame q seq _ h)
  | node p q seq gen line => exact C.done ((frame p).goodFrame q seq _ h)
  | tail p q seq gen flags last serial => exact C.done ((frame p).goodFrame q seq _ h)
  | clash p q seq gen claimant leader => exact C.done ((frame p).goodFrame q seq _ h)
  | call p q seq gen serial position cause port => exact C.done ((frame p).goodFrame q seq _ h)
  | confirm p q seq gen n reason entries => exact C.done ((frame p).goodFrame q seq _ h)
  | sweep p q seq gen number flags n list => exact C.done ((frame p).goodFrame q seq _ h)
  | sweepReturn p q seq gen number flags n list => exact C.done ((frame p).goodFrame q seq _ h)
  | door p q seq gen id action side first last => exact C.done ((frame p).goodFrame q seq _ h)
  | echo p q seq gen id applied => exact C.done ((frame p).goodFrame q seq _ h)
  | grant p q seq gen cause number n grants => exact C.done ((frame p).goodFrame q seq _ h)
  | settleTimerExpiry => exact C.done (holds_when (fun due => C.settleTimer (State.running_of_expires due) h) h)
  | walkTimerExpiry => exact C.done (holds_when (fun due => C.walkTimer (State.running_of_expires due) h) h)
  | confirmTimerExpiry => exact C.done (holds_when (fun _ => C.confirmTimeout h) h)
  | sweepSilenceTimerExpiry => exact C.done (holds_when (fun _ => C.sweepSilence h) h)
  | intervalTimerExpiry => exact C.done (holds_when (fun due => C.intervalExpires (State.running_of_expires due) h) h)
  | sweepTimeout => exact C.done (holds_when (fun due => C.sweepTimeout (State.running_of_expires due) h) h)
  | echoTimerExpiry => exact C.done (holds_when (fun due => C.echoTimer (State.running_of_expires due) h) h)
  | grantWatchdogExpiry => exact C.done (holds_when (fun _ => C.watchdogExpires h) h)
  | holdOffExpiry => exact C.done (holds_when (fun _ => C.raise _ (C.offEnds h)) h)
  | tripEntryRemoval => exact C.done (holds_when (fun _ => C.still h rfl ⟨rfl, rfl⟩ rfl) h)
  | softResetEffect ratesel => exact C.done (holds_when (fun _ => C.softReset ratesel h) h)
  | hostMessageSent => exact C.done (holds_when (fun _ => C.messageSent h) h)
  | hostSyncByte => exact C.done (holds_when (fun _ => C.host _ HostLink.books_takeSync h) h)
  | hostCharacterFramingError =>
    exact C.done (holds_when (fun _ => C.host (fun l => { l.hunt with charFraming := inc16 l.charFraming }) (fun _ => rfl) h) h)
  | hostFrameOverlength =>
    exact C.done (holds_when (fun _ => C.host (fun l => { l.hunt with overlength := inc16 l.overlength }) (fun _ => rfl) h) h)
  | hostFrameCrcError =>
    exact C.done (holds_when (fun _ => C.host (fun l => { l.hunt with crcErrors := inc16 l.crcErrors }) (fun _ => rfl) h) h)
  | frameTimerExpiry =>
    exact C.done (holds_when (fun _ => C.host (fun l => { l.hunt with frameTimeouts := inc16 l.frameTimeouts }) (fun _ => rfl) h) h)
  | getIdentity tag payload => exact C.done (C.request _ _ _ _ (fun _ _ _ h => h) h)
  | setCoach tag payload => exact C.setCoach tag payload h
  | claimLead tag payload => exact C.claimLead tag payload h
  | dropLead tag payload => exact C.done (C.request _ _ _ _ (fun _ D _ => D.reqDropLead) h)
  | startInauguration tag payload => exact C.done (C.request _ _ _ _ (fun _ D _ => D.reqStartInauguration) h)
  | getConsist tag payload => exact C.getConsist tag payload h
  | getNode tag payload => exact C.done (C.request _ _ _ _ (fun _ _ _ h => h) h)
  | setWindow tag payload => exact C.setWindow tag payload h
  | doorCommand tag payload => exact C.doorCommand tag payload h
  | getDoorResults tag payload => exact C.done (C.request _ _ _ _ (fun _ _ _ h => h) h)
  | setStandstill tag payload => exact C.setStandstill tag payload h
  | setHeatLevel tag payload => exact C.setHeatLevel tag payload h
  | setSupply tag payload => exact C.setSupply tag payload h
  | supplyTrip tag payload => exact C.done (C.request _ _ _ _ (fun _ D _ => D.reqSupplyTrip) h)
  | getHeating tag payload => exact C.done (C.request _ _ _ _ (fun _ _ _ h => h) h)
  | setSweepInterval tag payload => exact C.setSweepInterval tag payload h
  | setPortMaximumRate tag payload => exact C.setPort tag payload h
  | setPortLoopMode tag payload => exact C.setPort tag payload h
  | setPortForceRealign tag payload => exact C.setPort tag payload h
  | getPort tag payload => exact C.getPort tag payload h
  | isolateLeaves tag payload => exact C.isolateLeaves tag payload h
  | enterIsolation tag payload => exact C.done (C.request _ _ _ _ (fun _ D _ => D.reqEnterIsolation) h)
  | leaveIsolation tag payload => exact C.done (C.request _ _ _ _ (fun _ D _ => D.reqLeaveIsolation) h)
  | setNotices tag payload => exact C.setNotices tag payload h
  | softReset tag payload => exact C.done (C.request _ _ _ _ (fun _ D _ => D.reqSoftReset) h)
  | unknownRequest kind tag payload => exact C.done (C.request _ _ _ _ (fun _ _ _ h => h) h)

/-- Every step keeps the property. -/
theorem PartClosed.step {t : State} (h : P s) (steps : step s = .next t) : P t := by
  have keeps : completes (Sys2Proof.Machine.step s) P := by
    unfold Sys2Proof.Machine.step State.idle
    split
    · split
      · exact C.exec _ h
      · exact C.done (C.tick h)
    · exact C.exec _ (C.still h rfl ⟨rfl, rfl⟩ rfl)
  obtain ⟨t', e, ht⟩ := keeps
  rw [e] at steps
  cases steps
  exact ht

end

end Sys2Proof.Machine
end

section
/-! The allocation runs (08 section 8.4): what a shed and a raise do to the levels and to their total power. -/

namespace Sys2Proof.Machine

/-! ### Levels and their total power -/

theorem sum_set_add (l : List Nat) (i v : Nat) (inside : i < l.length) : (l.set i v).sum + l.getD i 0 = l.sum + v := by
  induction l generalizing i with
  | nil => simp at inside
  | cons a l ih =>
    cases i with
    | zero => simp; omega
    | succ i =>
      have := ih i (by simpa using inside)
      simp only [List.set_cons_succ, List.sum_cons, List.getD_cons_succ]
      omega

theorem totalPower_cons (a w : Nat) (l ws : List Nat) : totalPower (a :: l) (w :: ws) = a * w + totalPower l ws := by
  simp [totalPower]

/-- One step more at a position takes its step power. -/
theorem totalPower_step (l powers : List Nat) (i : Nat) (inside : i < l.length) (len : powers.length = l.length) :
    totalPower (l.set i (l.getD i 0 + 1)) powers = totalPower l powers + powers.getD i 0 := by
  induction l generalizing i powers with
  | nil => simp at inside
  | cons a l ih =>
    obtain _ | ⟨w, ws⟩ := powers
    · simp at len
    cases i with
    | zero => simp only [List.set_cons_zero, List.getD_cons_zero, totalPower_cons, Nat.add_mul]; omega
    | succ i =>
      have := ih ws i (by simpa using inside) (by simpa using len)
      simp only [List.set_cons_succ, List.getD_cons_succ, totalPower_cons, this]
      omega

theorem totalPower_of_zero {l : List Nat} (zero : ∀ x ∈ l, x = 0) (powers : List Nat) : totalPower l powers = 0 := by
  induction l generalizing powers with
  | nil => simp [totalPower]
  | cons a l ih =>
    obtain _ | ⟨w, ws⟩ := powers
    · simp [totalPower]
    · rw [totalPower_cons, ih (fun x hx => zero x (List.mem_cons_of_mem _ hx)), zero a List.mem_cons_self, Nat.zero_mul]

theorem getD_set_eq (l : List Nat) (i j v : Nat) (inside : i < l.length) :
    (l.set i v).getD j 0 = if i = j then v else l.getD j 0 := by
  simp only [List.getD_eq_getElem?_getD, List.getElem?_set]
  split
  · simp
  · rfl

/-! ### The visiting order -/

theorem visitOrder_eq_rotate (n start : Nat) :
    visitOrder n start = ((List.range n).map (· + 1)).rotate (start - 1) := by
  refine List.ext_getElem (by simp [visitOrder]) fun i h1 h2 => ?_
  simp [visitOrder, List.getElem_rotate, Nat.add_comm]

theorem visitOrder_perm (n start : Nat) : (visitOrder n start).Perm ((List.range n).map (· + 1)) :=
  visitOrder_eq_rotate n start ▸ List.rotate_perm _ _

theorem mem_visitOrder (n start p : Nat) :
    p ∈ visitOrder n start ↔ 1 ≤ p ∧ p ≤ n := by
  rw [(visitOrder_perm n start).mem_iff]
  simp only [List.mem_map, List.mem_range]
  constructor
  · rintro ⟨i, hi, rfl⟩
    omega
  · rintro ⟨h1, h2⟩
    exact ⟨p - 1, by omega, by omega⟩

theorem visitOrder_nodup (n start : Nat) : (visitOrder n start).Nodup := by
  rw [(visitOrder_perm n start).nodup_iff]
  exact List.Nodup.map (fun a b h => Nat.add_right_cancel h) List.nodup_range

/-! ### The position to shed -/

/-- x is the last of the greatest levels in an order. -/
def lastGreatest (levels order : List Nat) (x : Nat) : Prop :=
  ∃ before after, order = before ++ x :: after ∧ (∀ y ∈ before, at1 levels y ≤ at1 levels x) ∧
    ∀ y ∈ after, at1 levels y < at1 levels x

theorem shedChoice_append {levels order : List Nat} {b : Nat} (choice : shedChoice levels order = some b) (p : Nat) :
    shedChoice levels (order ++ [p]) = if at1 levels b ≤ at1 levels p then some p else some b := by
  unfold shedChoice at choice ⊢
  rw [List.foldl_append, choice]
  rfl

theorem shedChoice_lastGreatest {levels order : List Nat} (some : order ≠ []) :
    ∃ x, shedChoice levels order = Option.some x ∧ lastGreatest levels order x := by
  induction order using List.reverseRecOn with
  | nil => exact absurd rfl some
  | append_singleton order p ih =>
    by_cases empty : order = []
    · subst empty
      exact ⟨p, rfl, [], [], rfl, by simp, by simp⟩
    obtain ⟨b, hb, before, after, rfl, low, lower⟩ := ih empty
    rw [shedChoice_append hb]
    split
    · next le =>
      refine ⟨p, rfl, before ++ b :: after, [], rfl, fun y hy => ?_, by simp⟩
      rcases List.mem_append.mp hy with h | h
      · exact (low y h).trans le
      rcases List.mem_cons.mp h with rfl | h
      · exact le
      · exact (lower y h).le.trans le
    · next gt =>
      refine ⟨b, rfl, before, after ++ [p], by simp, low, fun y hy => ?_⟩
      rcases List.mem_append.mp hy with h | h
      · exact lower y h
      · obtain rfl : y = p := by simpa using h
        exact Nat.lt_of_not_le gt

theorem lastGreatest_unique {levels order : List Nat} {x y : Nat} (hx : lastGreatest levels order x)
    (hy : lastGreatest levels order y) : x = y := by
  obtain ⟨before, after, rfl, low, lower⟩ := hx
  obtain ⟨before', after', e, low', lower'⟩ := hy
  rcases List.append_eq_append_iff.mp e with ⟨mid, rfl, h⟩ | ⟨mid, rfl, h⟩
  · cases mid with
    | nil => simp at h; exact h.1
    | cons a mid =>
      obtain ⟨rfl, rfl⟩ : x = a ∧ after = mid ++ y :: after' := by simpa using h
      exact absurd (low' x (by simp)) (Nat.not_le_of_lt (lower y (by simp)))
  · cases mid with
    | nil => simp at h; exact h.1.symm
    | cons a mid =>
      obtain ⟨rfl, rfl⟩ : y = a ∧ after' = mid ++ x :: after := by simpa using h
      exact absurd (low y (by simp)) (Nat.not_le_of_lt (lower' x (by simp)))

theorem shedChoice_eq_some (levels order : List Nat) (x : Nat) :
    shedChoice levels order = some x ↔ lastGreatest levels order x := by
  constructor
  · intro h
    obtain ⟨y, hy, great⟩ := shedChoice_lastGreatest (levels := levels) (order := order)
      (by rintro rfl; simp [shedChoice] at h)
    rw [hy, Option.some.injEq] at h
    exact h ▸ great
  · intro h
    obtain ⟨y, hy, great⟩ := shedChoice_lastGreatest (levels := levels) (order := order)
      (by obtain ⟨before, after, rfl, -⟩ := h; simp)
    rw [hy, lastGreatest_unique h great]

theorem at1_le_of_lastGreatest {levels order : List Nat} {x y : Nat} (h : lastGreatest levels order x) (mem : y ∈ order) :
    at1 levels y ≤ at1 levels x := by
  obtain ⟨before, after, rfl, low, lower⟩ := h
  rcases List.mem_append.mp mem with hy | hy
  · exact low y hy
  rcases List.mem_cons.mp hy with rfl | hy
  · exact Nat.le_refl _
  · exact (lower y hy).le

/-! ### The shed stage (08 R155) -/

theorem shed_succ {levels order : List Nat} {x : Nat} (choice : shedChoice levels order = some x) (fuel : Nat)
    (powers : List Nat) (cap : Nat) :
    shed (fuel + 1) levels powers order cap =
      if cap < totalPower levels powers then shed fuel (levels.set (x - 1) (at1 levels x - 1)) powers order cap
      else levels := by
  simp only [shed, choice]
  split <;> split <;> first | rfl | omega

theorem shed_of_le {levels powers : List Nat} {cap : Nat} (fits : totalPower levels powers ≤ cap) (fuel : Nat)
    (order : List Nat) : shed fuel levels powers order cap = levels := by
  cases fuel with
  | zero => rfl
  | succ fuel => simp [shed, fits]

theorem getD_set_le (l : List Nat) (i j v : Nat) (le : v ≤ l.getD i 0) : (l.set i v).getD j 0 ≤ l.getD j 0 := by
  by_cases inside : i < l.length
  · rw [getD_set_eq l i j v inside]
    split
    · next h => exact h ▸ le
    · exact Nat.le_refl _
  · rw [List.set_eq_of_length_le (by omega)]

theorem shed_getD_le (fuel : Nat) (levels powers order : List Nat) (cap i : Nat) :
    (shed fuel levels powers order cap).getD i 0 ≤ levels.getD i 0 := by
  induction fuel generalizing levels with
  | zero => exact Nat.le_refl _
  | succ fuel ih =>
    unfold shed
    split
    · exact Nat.le_refl _
    · split
      · exact Nat.le_refl _
      · exact (ih _).trans (getD_set_le _ _ _ _ (Nat.sub_le _ _))

/-- A shed that visits every position brings the total within the capacity. -/
theorem shed_totalPower_le {fuel : Nat} {levels order : List Nat} (powers : List Nat) (cap : Nat) (enough : levels.sum ≤ fuel)
    (visits : ∀ p ∈ order, 1 ≤ p ∧ p ≤ levels.length) (all : ∀ i < levels.length, i + 1 ∈ order) :
    totalPower (shed fuel levels powers order cap) powers ≤ cap := by
  induction fuel generalizing levels with
  | zero =>
    have zero : ∀ x ∈ levels, x = 0 := fun x hx => by
      have := List.le_sum_of_mem hx
      omega
    simp [shed, totalPower_of_zero zero]
  | succ fuel ih =>
    by_cases fits : totalPower levels powers ≤ cap
    · rw [shed_of_le fits]
      exact fits
    have some : ∃ i < levels.length, 0 < levels.getD i 0 := by
      by_contra none
      refine fits ((totalPower_of_zero (fun x hx => ?_) powers).trans_le (Nat.zero_le _))
      obtain ⟨i, hi, rfl⟩ := List.getElem_of_mem hx
      by_contra pos
      exact none ⟨i, hi, by rw [List.getD_eq_getElem _ _ hi]; exact Nat.pos_of_ne_zero pos⟩
    obtain ⟨i, hi, pos⟩ := some
    obtain ⟨x, choice, great⟩ := shedChoice_lastGreatest (levels := levels)
      (List.ne_nil_of_mem (all i hi))
    have high : at1 levels (i + 1) ≤ at1 levels x := at1_le_of_lastGreatest great (all i hi)
    have inOrder : x ∈ order := by
      obtain ⟨before, after, rfl, -⟩ := great
      simp
    obtain ⟨x1, xn⟩ := visits x inOrder
    have sum := sum_set_add levels (x - 1) (at1 levels x - 1) (by omega)
    have level : at1 levels (i + 1) = levels.getD i 0 := rfl
    have value : at1 levels x = levels.getD (x - 1) 0 := rfl
    rw [shed_succ choice, if_pos (Nat.lt_of_not_le fits)]
    exact ih (by omega) (by simpa using visits) (by simpa using all)

/-! ### The raise stage (08 R156) -/

/-- Where a raise stands after a part of its visit: each visited position has its step, or could not be given it. -/
structure Raised (kept demands powers : List Nat) (cap ramp : Nat) (visited : List Nat) (r : RaiseState) : Prop where
  len : r.levels.length = kept.length
  headroom : totalPower r.levels powers + r.h = cap
  room : totalPower r.levels powers + r.u = totalPower kept powers + ramp
  atLeast : ∀ i < kept.length, kept.getD i 0 ≤ r.levels.getD i 0
  atMost : ∀ i < kept.length, r.levels.getD i 0 ≤ kept.getD i 0 + 1
  within : ∀ i < kept.length, r.levels.getD i 0 ≤ demands.getD i 0
  unvisited : ∀ i < kept.length, i + 1 ∉ visited → r.levels.getD i 0 = kept.getD i 0
  stuck : ∀ i < kept.length, i + 1 ∈ visited → r.levels.getD i 0 < demands.getD i 0 →
    r.levels.getD i 0 = kept.getD i 0 → r.h < powers.getD i 0 ∨ r.u < powers.getD i 0

/-- A visit of a position that has not been visited. -/
theorem Raised.visit {kept demands powers : List Nat} {cap ramp : Nat} {visited : List Nat} {r : RaiseState}
    (h : Raised kept demands powers cap ramp visited r) (len : powers.length = kept.length) {p : Nat} (pos : 1 ≤ p)
    (le : p ≤ kept.length) (new : p ∉ visited) :
    Raised kept demands powers cap ramp (visited ++ [p]) (raiseVisit demands powers r p) := by
  obtain ⟨k, rfl⟩ : ∃ k, p = k + 1 := ⟨p - 1, by omega⟩
  have inside : k < r.levels.length := by rw [h.len]; omega
  have untouched := h.unvisited k (by omega) new
  rw [raiseVisit]
  simp only [at1, Nat.add_sub_cancel]
  split
  · next raises =>
    obtain ⟨below, fitsH, fitsU⟩ := raises
    have total := totalPower_step r.levels powers k inside (len.trans h.len.symm)
    have level (i : Nat) := getD_set_eq r.levels k i (r.levels.getD k 0 + 1) inside
    refine ⟨by simpa using h.len, ?_, ?_, fun i hi => ?_, fun i hi => ?_, fun i hi => ?_, fun i hi unv => ?_,
      fun i hi vis low same => ?_⟩
    · have := h.headroom
      simp only [total]
      omega
    · have := h.room
      simp only [total]
      omega
    · have := h.atLeast i hi
      simp only [level]
      split <;> simp_all
    · have := h.atMost i hi
      simp only [level]
      split
      · next e => subst e; omega
      · exact this
    · have := h.within i hi
      simp only [level]
      split
      · next e => subst e; omega
      · exact this
    · simp only [List.mem_append, List.mem_singleton, not_or] at unv
      simp only [level]
      rw [if_neg (fun e => unv.2 (by omega))]
      exact h.unvisited i hi unv.1
    · simp only [level] at low same
      by_cases e : k = i
      · subst e
        rw [if_pos rfl] at same
        omega
      · rw [if_neg e] at low same
        have before : i + 1 ∈ visited := by
          simp only [List.mem_append, List.mem_singleton] at vis
          exact vis.resolve_right (by omega)
        have := h.stuck i hi before low same
        dsimp only
        omega
  · next stays =>
    refine ⟨h.len, h.headroom, h.room, h.atLeast, h.atMost, h.within, fun i hi unv => ?_, fun i hi vis low same => ?_⟩
    · exact h.unvisited i hi fun mem => unv (List.mem_append_left _ mem)
    · rcases List.mem_append.mp vis with vis | vis
      · exact h.stuck i hi vis low same
      · obtain rfl : i = k := by simpa using vis
        omega

theorem Raised.visits {kept demands powers : List Nat} {cap ramp : Nat} (len : powers.length = kept.length) (order : List Nat)
    {visited : List Nat} {r : RaiseState} (h : Raised kept demands powers cap ramp visited r)
    (range : ∀ p ∈ order, 1 ≤ p ∧ p ≤ kept.length) (nodup : (visited ++ order).Nodup) :
    Raised kept demands powers cap ramp (visited ++ order) (order.foldl (raiseVisit demands powers) r) := by
  induction order generalizing visited r with
  | nil => simpa using h
  | cons p order ih =>
    obtain ⟨pos, le⟩ := range p List.mem_cons_self
    have new : p ∉ visited := fun mem => (List.nodup_append.mp nodup).2.2 p mem p List.mem_cons_self rfl
    have step := ih (h.visit len pos le new) (fun q hq => range q (List.mem_cons_of_mem _ hq)) (by simpa using nodup)
    simpa using step

/-- The levels that a raise starts from. -/
theorem Raised.start {kept demands powers : List Nat} {cap : Nat} (ramp : Nat) (fits : totalPower kept powers ≤ cap)
    (within : ∀ i < kept.length, kept.getD i 0 ≤ demands.getD i 0) :
    Raised kept demands powers cap ramp [] { levels := kept, h := cap - totalPower kept powers, u := ramp } where
  len := rfl
  headroom := by dsimp only; omega
  room := rfl
  atLeast _ _ := Nat.le_refl _
  atMost _ _ := Nat.le_succ _
  within := within
  unvisited _ _ _ := rfl
  stuck _ _ mem := by simp at mem

/-! ### The runs -/

theorem getD_zipWith_min (a b : List Nat) (len : b.length = a.length) (i : Nat) :
    (List.zipWith min a b).getD i 0 = min (a.getD i 0) (b.getD i 0) := by
  by_cases inside : i < a.length
  · rw [List.getD_eq_getElem _ _ (by simp; omega), List.getD_eq_getElem _ _ inside, List.getD_eq_getElem _ _ (by omega),
      List.getElem_zipWith]
  · rw [List.getD_eq_default _ _ (by simp; omega), List.getD_eq_default _ _ (by omega),
      List.getD_eq_default _ _ (by omega)]
    rfl

section
variable {grants demands powers : List Nat} {start cap ramp : Nat} (hd : demands.length = grants.length)
include hd

theorem shedRun_length : (shedRun grants demands powers start cap).length = grants.length := by
  simp [shedRun, hd]

theorem shedRun_getD_le (i : Nat) :
    (shedRun grants demands powers start cap).getD i 0 ≤ min (grants.getD i 0) (demands.getD i 0) :=
  (shed_getD_le _ _ _ _ _ _).trans (getD_zipWith_min grants demands hd i).le

theorem shedRun_totalPower_le : totalPower (shedRun grants demands powers start cap) powers ≤ cap := by
  have len : (baseline grants demands).length = grants.length := by simp [hd]
  refine shed_totalPower_le powers cap (Nat.le_refl _) (fun p hp => ?_) fun i hi => ?_
  · exact (mem_visitOrder _ _ p).mp hp
  · exact (mem_visitOrder _ _ _).mpr ⟨by omega, by omega⟩

/-- A full run raises from the shed-only result, visiting every position once. -/
theorem fullRun_raised (hw : powers.length = grants.length) :
    ∃ r : RaiseState, r.levels = fullRun grants demands powers start cap ramp ∧
      Raised (shedRun grants demands powers start cap) demands powers cap ramp (visitOrder grants.length start) r := by
  have len := shedRun_length (powers := powers) (start := start) (cap := cap) hd
  have within (i : Nat) := (shedRun_getD_le (powers := powers) (start := start) (cap := cap) hd i).trans (Nat.min_le_right _ _)
  have raised := Raised.visits (hw.trans len.symm) (visitOrder grants.length start)
    (Raised.start ramp (shedRun_totalPower_le hd) fun i _ => within i)
    (fun p hp => by rw [len]; exact (mem_visitOrder _ _ p).mp hp) (visitOrder_nodup _ _)
  exact ⟨_, by simp only [fullRun, raiseStage, len], raised⟩

end

/-- Settles O44, from what a shed does to the total and what each visit of a raise leaves. -/
theorem allocationStaysInItsBounds : Obligations.AllocationStaysInItsBounds := by
  intro grants demands powers start cap ramp hd hw pos le _ n kept full
  obtain ⟨r, levels, raised⟩ := fullRun_raised (cap := cap) (ramp := ramp) hd hw
  have full_eq : full = r.levels := levels.symm
  have keptLen : kept.length = n := shedRun_length hd
  have visited (i : Nat) (hi : i < n) : i + 1 ∈ visitOrder n start := (mem_visitOrder _ _ _).mpr ⟨by omega, by omega⟩
  have headroom : totalPower full powers + r.h = cap := full_eq ▸ raised.headroom
  have room : totalPower full powers + r.u = totalPower kept powers + ramp := full_eq ▸ raised.room
  refine ⟨visitOrder_eq_rotate _ _, shedChoice_eq_some, fun fuel levels order x choice => shed_succ choice fuel _ _,
    keptLen, full_eq ▸ raised.len.trans keptLen, shedRun_totalPower_le hd, by omega, by omega,
    fun i hi => ⟨shedRun_getD_le hd i, ?_, ?_, ?_⟩, fun i hi low same => ?_, fun fits => shed_of_le fits _ _, ?_, ?_⟩
  · exact full_eq ▸ raised.atLeast i (keptLen ▸ hi)
  · exact full_eq ▸ raised.atMost i (keptLen ▸ hi)
  · exact full_eq ▸ raised.within i (keptLen ▸ hi)
  · have := raised.stuck i (keptLen ▸ hi) (visited i hi) (full_eq ▸ low) (full_eq ▸ same)
    omega
  · unfold nextRotation
    split <;> omega
  · unfold nextRotation
    split <;> omega

end Sys2Proof.Machine
end

section
/-! The invariants of the part are kept by the moves of the node, the resets and the host link's bookkeeping, and so by every
step. -/

namespace Sys2Proof.Machine

theorem PortClosed.of_core {P : State → Prop} (free : ∀ {s t : State}, t.nodeCore = s.nodeCore → P s → P t) (p : PortId) :
    PortClosed p P where
  cp _ h := free (by cases p <;> rfl) h
  nm _ h := free (by cases p <;> rfl) h
  lr _ _ h := free (by cases p <;> rfl) h
  raise {s} _ h := free (s := s) rfl h

/-! ### The node's invariant -/

theorem State.nodeInv_of_core {s t : State} (core : t.nodeCore = s.nodeCore) (h : s.nodeInv) : t.nodeInv := by
  rwa [← State.nodeInv_nodeCore, core, State.nodeInv_nodeCore]

theorem State.operationalLeader_iff_claim (s : State) :
    s.operationalLeader = true ↔ s.cc.claim.isSome = true ∧ s.cc.node = .operational := by
  simp [State.operationalLeader]

/-- At an OPERATIONAL leader only the walk engine is bound. -/
theorem State.nodeInv_of_lead {s : State} (lead : s.operationalLeader = true) (walk : s.walkOfClaim) : s.nodeInv :=
  ⟨fun off => absurd (State.node_of_operationalLeader lead) off, fun _ => lead, walk⟩

/-- A change of the Consist Controller alone. -/
theorem State.nodeInv_modCc {s : State} {f : Consist → Consist} (h : s.nodeInv)
    (node : (f s.cc).node = .operational ∨ s.cc.node ≠ .operational)
    (lead : s.cc.claim.isSome = true → s.cc.node = .operational →
      (f s.cc).claim.isSome = true ∧ (f s.cc).node = .operational)
    (walk : ((s.modCc f).walkOfClaim)) : (s.modCc f).nodeInv := by
  obtain ⟨quiet, leader, -⟩ := h
  refine ⟨fun off => quiet ?_, fun holds => ?_, walk⟩
  · exact node.resolve_left off
  · obtain ⟨claim, op⟩ := s.operationalLeader_iff_claim.mp (leader holds)
    exact (State.operationalLeader_iff_claim _).mpr (lead claim op)

theorem State.nodeInv.walk {s : State} (h : s.nodeInv) : s.walkOfClaim := h.2.2

theorem State.nodeInv.claims {s : State} (h : s.nodeInv) : s.cc.walk ≠ .idle → s.cc.claim.isSome = true := h.walk.1

theorem State.nodeInv.settles {s : State} (h : s.nodeInv) : s.cc.settleTimer.isSome = true → s.cc.walk = .settling :=
  h.walk.2.1

theorem State.nodeInv.walks {s : State} (h : s.nodeInv) : s.cc.walkTimer.isSome = true → s.cc.walking = true := h.walk.2.2

theorem State.nodeInv_modCc_off {s : State} {f : Consist → Consist} (h : s.nodeInv) (off : s.cc.node ≠ .operational)
    (walk : (s.modCc f).walkOfClaim) : (s.modCc f).nodeInv :=
  State.nodeInv_modCc h (.inr off) (fun _ op => absurd op off) walk

theorem State.nodeInv_modCc_same {s : State} {f : Consist → Consist} (h : s.nodeInv) (node : (f s.cc).node = s.cc.node)
    (claim : (f s.cc).claim = s.cc.claim) (walk : (s.modCc f).walkOfClaim) : (s.modCc f).nodeInv := by
  refine State.nodeInv_modCc h ?_ (fun held op => ⟨claim ▸ held, node ▸ op⟩) walk
  rw [node]
  exact em _

theorem State.nodeInv_leaveOperational {s : State} (n : NodeState) (c : ExitCause) (h : s.nodeInv) :
    (s.leaveOperational n c).nodeInv := by
  obtain ⟨-, leader, walk⟩ := h
  refine ⟨fun _ => ?_, fun holds => absurd holds ?_, ?_⟩
  · rw [State.leaveOperational_dcu, State.leaveOperational_ha]
    split <;> exact ⟨rfl, rfl, rfl, rfl⟩
  · by_cases lead : s.cc.claim.isSome = true
    · simp [State.holdsLeaderState, State.leaveOperational_dcu, State.leaveOperational_ha, State.leaveOperational_se, lead,
        SweepState.abandon]
    · have idle : ¬ s.holdsLeaderState := fun holds => lead (State.claim_of_operationalLeader (leader holds))
      simpa [State.holdsLeaderState, State.leaveOperational_dcu, State.leaveOperational_ha, State.leaveOperational_se, lead]
        using idle
  · simpa [State.walkOfClaim, Consist.walking, State.leaveOperational_cc] using walk

theorem State.nodeInv_zeroGrants {s : State} (h : s.nodeInv) : s.zeroGrants.nodeInv := by
  obtain ⟨quiet, leader, walk⟩ := h
  refine ⟨quiet, fun holds => leader ?_, walk⟩
  unfold State.holdsLeaderState at holds ⊢
  simp [State.zeroGrants] at holds
  tauto

/-- A shed-only run is made at an OPERATIONAL leader. -/
theorem State.nodeInv_shedded {s : State} (h : s.nodeInv) : s.shedded.nodeInv := by
  unfold State.shedded
  split
  · next runs =>
    simp only [Bool.and_eq_true] at runs
    exact State.nodeInv_of_lead (s := s.modHa _) runs.1 h.walk
  · exact h

theorem nodeInv_closed : NodeClosed True State.nodeInv where
  inv _ h := h
  port p := .of_core State.nodeInv_of_core p
  core core _ _ h := State.nodeInv_of_core core h
  leave n c _ _ h := State.nodeInv_leaveOperational n c h
  suspended off h := State.nodeInv_modCc_off h (off trivial) h.walk
  trigger {s} h := by
    unfold State.walkTrigger
    split
    · next free =>
      simp only [Bool.and_eq_true, beq_iff_eq] at free
      refine State.nodeInv_modCc_same h rfl rfl ⟨fun _ => free.1, fun _ => rfl, fun running => ?_⟩
      simpa [Consist.walking, free.2] using h.walks running
    · exact h
  released off h := State.nodeInv_modCc_off h (off trivial) ⟨fun busy => absurd rfl busy, nofun, nofun⟩
  claimed _ _ off _ h := State.nodeInv_modCc_off h (off trivial) ⟨fun _ => rfl, h.settles, h.walks⟩
  abandoned h := State.nodeInv_modCc_same h rfl rfl ⟨fun busy => absurd rfl busy, nofun, nofun⟩
  placed _ _ _ _ off _ h := State.nodeInv_modCc_off h (off trivial) h.walk
  attempting _ _ claim off h := State.nodeInv_modCc_off h (off trivial) ⟨fun _ => claim trivial, nofun, nofun⟩
  walkStarts walking h := State.nodeInv_modCc_same h rfl rfl ⟨h.claims, h.settles, fun _ => walking⟩
  walkStops h := State.nodeInv_modCc_same h rfl rfl ⟨h.claims, h.settles, nofun⟩
  recorded _ _ _ h := State.nodeInv_modCc_same h rfl rfl h.walk
  confirmed _ claim _ h := State.nodeInv_of_lead
    ((State.operationalLeader_iff_claim _).mpr ⟨claim trivial, rfl⟩) ⟨h.claims, h.settles, nofun⟩
  walkEnds settling stopped h := by
    refine State.nodeInv_modCc_same h rfl rfl
      ⟨fun busy => absurd rfl busy, fun running => absurd (h.settles running) (settling trivial), fun running => ?_⟩
    rw [State.modCc_cc, stopped trivial] at running
    simp at running
  member _ _ _ _ h := State.nodeInv_modCc h (.inl rfl) (fun claim _ => ⟨claim, rfl⟩) h.walk
  coach _ _ h := State.nodeInv_modCc_same h rfl rfl h.walk
  unplaced off _ h := State.nodeInv_modCc_off h (off trivial) h.walk
  detached iso h := State.nodeInv_modCc_off h (by simp [iso]) h.walk
  doors _ lead h := State.nodeInv_of_lead (lead trivial) h.walk
  releases _ _ op h := ⟨fun off => absurd (op trivial) off, h.2⟩
  sweeps _ lead _ h := State.nodeInv_of_lead (lead trivial) h.walk
  takes _ op _ h := ⟨fun off => absurd (op trivial) off, h.2⟩
  unheld h := ⟨fun off => ⟨(h.1 off).1, (h.1 off).2.1, rfl, rfl⟩, h.2⟩
  zeroed h := State.nodeInv_zeroGrants h
  tabled {s} number records lead _ h := by
    have cc := s.tabled_cc number records
    refine State.nodeInv_of_lead ?_ ?_
    · rw [State.operationalLeader_of_cc cc]
      exact lead trivial
    · unfold State.walkOfClaim
      rw [cc]
      exact h.walk
  supplied _ _ h := State.nodeInv_shedded (s := State.modHa _ _) h
  unlocked h := h
  heldOff _ _ _ h := h
  offEnds h := h
  levelled _ _ h := h

/-! ### Properties of the node through resets and the host link -/

theorem State.hostKick_nodeCore (s : State) : s.hostKick.nodeCore = s.nodeCore := by simp [State.nodeCore]

/-- The state of a part whose blocks are at reset, with a serial, a coach record, a heat level and a capacity. -/
def State.afresh (serial : Serial) (coach : Coach) (level capacity : Nat) : State :=
  { State.reset with
    sys := { Sys.reset with serial }, cc := { Consist.reset with coach },
    ha := { Heating.reset with level, capacity } }

theorem State.powerDown_nodeCore (s : State) :
    s.powerDown.nodeCore = (State.afresh s.sys.serial Coach.default 0 0).nodeCore := rfl

theorem State.assertPin_nodeCore (s : State) :
    s.assertPin.nodeCore = (State.afresh s.sys.serial Coach.default 0 0).nodeCore := rfl

theorem State.softValues_nodeCore (s : State) (ratesel : Bool) :
    (s.softValues ratesel).nodeCore = (State.afresh s.sys.serial s.cc.coach s.ha.level s.ha.capacity).nodeCore := rfl

theorem State.request_keeps {N : Prop} {P : State → Prop} (C : HostClosed N P)
    (free : ∀ {s : State} (f : HostLink → HostLink), P s → P (s.modHl f)) {s : State} (kind tag : Nat) (payload : List Nat)
    {owner : State → Answer} (keeps : OwnerKeeps N owner) (h : P s) : P (s.request kind tag payload owner) := by
  unfold State.request
  split
  · dsimp only
    split
    · refine free (s := (State.answer _ kind payload owner).state)
        (fun h => { h with replies := h.replies ++ [Reply.mk kind tag _ _] }) ?_
      have taken : P (((s.modHl HostLink.hunt).modHl fun h => { h with slots := h.slots ++ [{ kind, tag, payload }] })) :=
        free _ (free _ h)
      unfold State.answer
      split
      · exact taken
      · split
        · exact keeps P C _ taken
        · exact taken
    · split
      · exact free _ (free _ h)
      · exact free _ (free _ h)
  · exact h

/-- A property of the node alone, kept by its moves and held by a part at reset. -/
theorem PartClosed.of_core {N : Prop} {P : State → Prop} (C : NodeClosed N P)
    (free : ∀ {s t : State}, t.nodeCore = s.nodeCore → P s → P t)
    (down : ∀ {s : State}, P s → P (State.afresh s.sys.serial Coach.default 0 0))
    (soft : ∀ {s : State}, P s → P (State.afresh s.sys.serial s.cc.coach s.ha.level s.ha.capacity)) : PartClosed N P where
  toNodeClosed := C
  host {s} _ _ h := free (s := s) rfl h
  request kind tag payload _ keeps h := 
    State.request_keeps { C with host := fun {s} _ _ h => free (s := s) rfl h } (fun {s} _ h => free (s := s) rfl h) kind tag
      payload keeps h
  kick {s} h := free s.hostKick_nodeCore h
  sent {s} h := free (s := s) rfl h
  down {s} h := free s.powerDown_nodeCore (down h)
  pin {s} h := free s.assertPin_nodeCore (down h)
  soft {s} ratesel h := free (s.softValues_nodeCore ratesel) (soft h)

theorem State.nodeInv_afresh (serial : Serial) (coach : Coach) (level capacity : Nat) :
    (State.afresh serial coach level capacity).nodeInv := by
  refine ⟨fun _ => ⟨rfl, rfl, rfl, rfl⟩, fun holds => ?_, fun busy => absurd rfl busy, nofun, nofun⟩
  simp [State.holdsLeaderState, State.afresh, State.reset, Doors.reset, SweepState.reset, Heating.reset] at holds

theorem nodeInv_partClosed : PartClosed True State.nodeInv :=
  .of_core nodeInv_closed State.nodeInv_of_core (fun _ => State.nodeInv_afresh _ _ _ _) (fun _ => State.nodeInv_afresh _ _ _ _)

/-! ### The host link through the moves of the node -/

/-- Nothing of the host link has changed but that notices may have been raised. -/
def HostLink.raisedFrom (h h' : HostLink) : Prop := ∃ n, h' = { h with notices := h.notices ||| n }

theorem HostLink.raisedFrom_refl (h : HostLink) : h.raisedFrom h := ⟨0, by simp⟩

theorem HostLink.raisedFrom_trans {h h' h'' : HostLink} (first : h.raisedFrom h') (next : h'.raisedFrom h'') :
    h.raisedFrom h'' := by
  obtain ⟨n, rfl⟩ := first
  obtain ⟨m, rfl⟩ := next
  exact ⟨n ||| m, by simp [BitVec.or_assoc]⟩

theorem HostLink.raisedFrom_raise (h : HostLink) (k : Notice) : h.raisedFrom (h.raise k) := ⟨_, rfl⟩

theorem HostLink.raisedFrom_raiseIf (s : State) (b : Bool) (k : Notice) : s.hl.raisedFrom (s.raiseIf b k).hl := by
  cases b
  · exact s.hl.raisedFrom_refl
  · exact s.hl.raisedFrom_raise k

theorem HostLink.raisedFrom_setTrainClosed (s : State) (v : Bool) : s.hl.raisedFrom (s.setTrainClosed v).hl :=
  raisedFrom_raiseIf _ _ _

theorem HostLink.raisedFrom_addResults (s : State) (l : List DoorResult) : s.hl.raisedFrom (s.addResults l).hl :=
  raisedFrom_raiseIf _ _ _

theorem HostLink.raisedFrom_abortDoors (s : State) : s.hl.raisedFrom s.abortDoors.hl := by
  unfold State.abortDoors
  exact raisedFrom_trans (raisedFrom_addResults (State.modDcu _ _) _) (raisedFrom_setTrainClosed _ _)

theorem HostLink.raisedFrom_heatingLeaves (s : State) : s.hl.raisedFrom s.heatingLeaves.hl := by
  unfold State.heatingLeaves
  split <;> exact raisedFrom_raiseIf _ _ _

theorem HostLink.raisedFrom_leaveOperational (s : State) (n : NodeState) (c : ExitCause) :
    s.hl.raisedFrom (s.leaveOperational n c).hl := by
  have releases : s.hl.raisedFrom (s.setReleases false false).hl := raisedFrom_raiseIf _ _ _
  unfold State.leaveOperational
  dsimp only
  split
  · exact raisedFrom_trans releases (raisedFrom_trans (raisedFrom_abortDoors _)
      (raisedFrom_trans (raisedFrom_heatingLeaves _) (raisedFrom_raise _ _)))
  · exact raisedFrom_trans releases (raisedFrom_trans (raisedFrom_heatingLeaves _) (raisedFrom_raise _ _))

theorem HostLink.raisedFrom_tabled (s : State) (number : Nat) (records : List Record) :
    s.hl.raisedFrom (s.tabled number records).hl := by
  unfold State.tabled State.allocated
  split <;> exact raisedFrom_raiseIf _ _ _

/-- A property of the ports and of the host link that the raising of notices keeps. -/
theorem NodeClosed.of_free {P : State → Prop} (port : ∀ p, PortClosed p P)
    (free : ∀ {s t : State}, samePorts s t → s.hl.raisedFrom t.hl → P s → P t) : NodeClosed False P :=
  have still {s t : State} (h : P s) (port1 : t.port1 = s.port1) (port2 : t.port2 = s.port2) (hl : t.hl = s.hl) : P t :=
    free ⟨port1, port2⟩ (hl ▸ HostLink.raisedFrom_refl _) h
  { inv := False.elim
    port := port
    core _ ports hl h := free ports (hl ▸ HostLink.raisedFrom_refl _) h
    leave {s} n c _ _ h := free ⟨s.leaveOperational_port n c .p1, s.leaveOperational_port n c .p2⟩
      (HostLink.raisedFrom_leaveOperational s n c) h
    suspended _ h := still h rfl rfl rfl
    trigger {s} h := by
      unfold State.walkTrigger
      split
      · exact still h rfl rfl rfl
      · exact h
    released _ h := still h rfl rfl rfl
    claimed _ _ _ _ h := still h rfl rfl rfl
    abandoned h := still h rfl rfl rfl
    placed _ _ _ _ _ _ h := still h rfl rfl rfl
    attempting _ _ _ _ h := still h rfl rfl rfl
    walkStarts _ h := still h rfl rfl rfl
    walkStops h := still h rfl rfl rfl
    recorded _ _ _ h := still h rfl rfl rfl
    confirmed _ _ _ h := still h rfl rfl rfl
    walkEnds _ _ h := still h rfl rfl rfl
    member _ _ _ _ h := still h rfl rfl rfl
    coach _ _ h := still h rfl rfl rfl
    unplaced _ _ h := still h rfl rfl rfl
    detached _ h := still h rfl rfl rfl
    doors _ _ h := still h rfl rfl rfl
    releases _ _ _ h := still h rfl rfl rfl
    sweeps _ _ _ h := still h rfl rfl rfl
    takes _ _ _ h := still h rfl rfl rfl
    unheld h := still h rfl rfl rfl
    zeroed h := still h rfl rfl rfl
    tabled {s} number records _ _ h := by
      refine free (s := s) ?_ (HostLink.raisedFrom_tabled s number records) h
      unfold State.tabled State.allocated
      split <;> exact ⟨State.decideTrainClosed_port _ _ .p1, State.decideTrainClosed_port _ _ .p2⟩
    supplied {s} _ _ h := by
      unfold State.shedded
      split <;> exact still h rfl rfl rfl
    unlocked h := still h rfl rfl rfl
    heldOff _ _ _ h := still h rfl rfl rfl
    offEnds h := still h rfl rfl rfl
    levelled _ _ h := still h rfl rfl rfl }

/-! ### The transmit queues -/

theorem State.queueInv_iff (s : State) (p : PortId) : s.queueInv ↔ (s.lr p).inv ∧ (s.lr (other p)).inv := by
  cases p
  · exact Iff.rfl
  · exact And.comm

theorem State.queueInv_of_ports {s t : State} (ports : samePorts s t) (h : s.queueInv) : t.queueInv := by
  obtain ⟨port1, port2⟩ := ports
  simpa only [State.queueInv, port1, port2] using h

theorem queueInv_portClosed (p : PortId) : PortClosed p State.queueInv where
  cp _ h := by simpa [State.queueInv_iff _ p] using h
  nm _ h := by simpa [State.queueInv_iff _ p] using h
  lr {s} f keeps h := by
    rw [State.queueInv_iff _ p] at h ⊢
    simpa using ⟨keeps h.1, h.2⟩
  raise _ h := h

theorem queueInv_closed : HostClosed False State.queueInv where
  toNodeClosed := .of_free queueInv_portClosed fun ports _ h => State.queueInv_of_ports ports h
  host _ _ h := h

theorem queueInv_partClosed : PartClosed False State.queueInv where
  toHostClosed := queueInv_closed
  request kind tag payload _ keeps h := State.request_keeps queueInv_closed (fun _ h => h) kind tag payload keeps h
  kick {s} h := State.queueInv_of_ports ⟨s.hostKick_port1, s.hostKick_port2⟩ h
  sent h := h
  down _ := ⟨Relay.reset_inv, Relay.reset_inv⟩
  pin _ := ⟨Relay.reset_inv, Relay.reset_inv⟩
  soft _ _ := ⟨Relay.reset_inv, Relay.reset_inv⟩

/-! ### The books of the host link -/

theorem HostLink.books_of_raisedFrom {h h' : HostLink} (raised : h.raisedFrom h') : h'.books = h.books := by
  obtain ⟨n, rfl⟩ := raised
  rfl

theorem books_portClosed (b) (p : PortId) : PortClosed p fun s => s.hl.books = b where
  cp _ h := by simpa using h
  nm _ h := by simpa using h
  lr _ _ h := by simpa using h
  raise _ h := h

/-- The node's moves leave the books as they are. -/
theorem books_closed (b) : HostClosed False fun s => s.hl.books = b where
  toNodeClosed := .of_free (books_portClosed b) fun _ raised h => (HostLink.books_of_raisedFrom raised).trans h
  host _ same h := (same _).trans h

theorem State.hostInv_of_books {s t : State} (same : t.hl.books = s.hl.books) (h : s.hostInv) : t.hostInv := by
  simp only [HostLink.books, Prod.mk.injEq] at same
  obtain ⟨slots, replies, refusal, tx⟩ := same
  simpa only [State.hostInv, slots, replies, refusal, tx] using h

theorem hostInv_portClosed (p : PortId) : PortClosed p State.hostInv where
  cp {s} _ h := State.hostInv_of_books (s := s) (by simp) h
  nm {s} _ h := State.hostInv_of_books (s := s) (by simp) h
  lr {s} _ _ h := State.hostInv_of_books (s := s) (by simp) h
  raise _ h := h

/-- A request that takes a slot leaves its reply (09 R170, R171). -/
theorem State.hostInv_takeRequest {s : State} (h : s.hostInv) (free : s.hl.slots.length < 4) (kind tag : Nat)
    (payload : List Nat) {owner : State → Answer} (keeps : OwnerKeeps False owner) :
    (s.takeRequest kind tag payload owner).hostInv := by
  obtain ⟨len, -, reply, busy⟩ := h
  have books : ((s.modHl fun h => { h with slots := h.slots ++ [{ kind, tag, payload }] }).answer kind payload
      owner).state.hl.books = (s.hl.slots ++ [Request.mk kind tag payload], s.hl.replies, s.hl.refusal, s.hl.tx) := by
    unfold State.answer
    split
    · rfl
    · split
      · exact keeps _ (books_closed _) _ rfl
      · rfl
  unfold State.takeRequest
  dsimp only
  generalize State.answer _ kind payload owner = a at books
  simp only [HostLink.books, Prod.mk.injEq] at books
  obtain ⟨slots, replies, refusal, tx⟩ := books
  simp only [State.hostInv, State.modHl_hl, slots, replies, refusal, tx, List.length_append, len]
  exact ⟨rfl, free, fun _ => by simp, busy⟩

theorem State.hostInv_hostKick {s : State} (h : s.hostInv) : s.hostKick.hostInv := by
  obtain ⟨len, four, -, -⟩ := id h
  unfold State.hostKick
  split
  · split
    · next refused => exact ⟨len, four, nofun, fun _ => refused⟩
    split
    · next queued => exact ⟨len, four, fun _ => queued, nofun⟩
    split
    · exact h
    split
    · exact h
    · exact ⟨len, four, nofun, nofun⟩
  · exact h

theorem HostLink.messageEnds_hostInv {s : State} (h : s.hostInv) : (s.modHl HostLink.messageEnds).hostInv := by
  obtain ⟨len, four, reply, busy⟩ := id h
  unfold State.hostInv
  rw [State.modHl_hl]
  unfold HostLink.messageEnds
  split
  · exact h
  · exact ⟨len, four, nofun, nofun⟩
  · refine ⟨?_, ?_, nofun, nofun⟩ <;> simp <;> omega
  · exact ⟨len, four, nofun, nofun⟩

theorem hostInv_partClosed : PartClosed False State.hostInv where
  toNodeClosed := .of_free hostInv_portClosed fun _ raised h => State.hostInv_of_books (HostLink.books_of_raisedFrom raised) h
  host {s} _ same h := State.hostInv_of_books (s := s) (same _) h
  request {s} kind tag payload owner keeps h := by
    obtain ⟨len, four, reply, busy⟩ := id h
    unfold State.request
    split
    · dsimp only
      split
      · next free => exact State.hostInv_takeRequest (s := s.modHl HostLink.hunt) h free kind tag payload keeps
      split
      · exact ⟨len, four, reply, fun _ => rfl⟩
      · exact h
    · exact h
  kick h := State.hostInv_hostKick h
  sent h := HostLink.messageEnds_hostInv h
  down _ := ⟨rfl, Nat.zero_le 4, nofun, nofun⟩
  pin _ := ⟨rfl, Nat.zero_le 4, nofun, nofun⟩
  soft _ _ := ⟨rfl, Nat.zero_le 4, nofun, nofun⟩

/-- Settles O57: each invariant is kept by what a command can do, so by every step. -/
theorem stepsKeepTheNodeHostAndQueueInvariants : Obligations.StepsKeepTheNodeHostAndQueueInvariants :=
  fun _ _ steps => ⟨fun h => nodeInv_partClosed.step h steps, fun h => hostInv_partClosed.step h steps,
    fun h => queueInv_partClosed.step h steps⟩

end Sys2Proof.Machine
end

section
/-! The consist invariant (O58) and the heating invariant (O59) are kept by the moves of the node. -/

namespace Sys2Proof.Machine

/-! ### The Consist Controller's invariant through its moves -/

/-- The consist invariant but for the node's serial. -/
def Consist.inv (c : Consist) : Prop := c.coach.inRange ∧ c.recordsInv ∧ c.placeInv ∧ c.tableInv

theorem State.consistInv_iff (s : State) : s.consistInv ↔ s.sys.serial ≠ 0 ∧ s.cc.inv := Iff.rfl

theorem State.consistInv_of_core {s t : State} (core : t.nodeCore = s.nodeCore) (h : s.consistInv) : t.consistInv := by
  rwa [← State.consistInv_nodeCore, core, State.consistInv_nodeCore]

theorem State.consistInv_of_cc {s t : State} (cc : t.cc = s.cc) (serial : t.sys.serial = s.sys.serial) (h : s.consistInv) :
    t.consistInv := by
  rw [State.consistInv_iff] at h ⊢
  rwa [cc, serial]

theorem State.consistInv_modCc {s : State} {f : Consist → Consist} (h : s.consistInv) (keeps : s.cc.inv → (f s.cc).inv) :
    (s.modCc f).consistInv := ⟨h.1, keeps h.2⟩

theorem mem_insertRecord (e x : Entry) (l : List Entry) : x ∈ insertRecord e l ↔ x = e ∨ x ∈ l := by
  induction l with
  | nil => simp [insertRecord]
  | cons r rest ih =>
    unfold insertRecord
    split
    · simp
    · simp only [List.mem_cons, ih]
      tauto

theorem recordAt_isSome (l : List Entry) (p : Nat) : (recordAt l p).isSome = true ↔ ∃ e ∈ l, e.position = p := by
  simp [recordAt]

theorem nextGeneration_ne_zero (g : Nat) : nextGeneration g ≠ 0 := Nat.succ_ne_zero _

section
variable {c : Consist} (h : c.inv)
include h

theorem Consist.inv_left (n : NodeState) (e : ExitCause) (departs : n = .suspended ∨ n = .provisional) :
    Consist.inv { c with node := n, lastExit := e, silenceTimer := none,
                         table := if n = .suspended then c.table else Table.empty } := by
  obtain ⟨coach, records, ⟨gen, orient, pos, claim, -, -⟩, table⟩ := h
  refine ⟨coach, records, ⟨gen, orient, pos, claim, ?_, ?_⟩, ?_⟩
  · rcases departs with rfl | rfl <;> simp
  · rcases departs with rfl | rfl <;> simp
  · rcases departs with rfl | rfl
    · exact ⟨fun empty => ⟨(table.1 empty).1, by simp⟩, fun full => ⟨(table.2 full).1, (table.2 full).2.1, .inr rfl⟩⟩
    · exact ⟨fun _ => ⟨rfl, by simp⟩, fun full => absurd rfl full⟩

theorem Consist.inv_suspended : Consist.inv { c with node := .suspended } := by
  obtain ⟨coach, records, ⟨gen, orient, pos, claim, -, -⟩, table⟩ := h
  exact ⟨coach, records, ⟨gen, orient, pos, claim, by simp, by simp⟩,
    fun empty => ⟨(table.1 empty).1, by simp⟩, fun full => ⟨(table.2 full).1, (table.2 full).2.1, .inr rfl⟩⟩

theorem Consist.inv_settling : Consist.inv { c with walk := .settling, settleTimer := some 0 } := by
  obtain ⟨coach, ⟨range, -⟩, place, table⟩ := h
  exact ⟨coach, ⟨range, by simp [Consist.walking]⟩, place, table⟩

theorem Consist.inv_abandonWalk : c.abandonWalk.inv := by
  obtain ⟨coach, -, place, table⟩ := h
  exact ⟨coach, ⟨by simp [Consist.abandonWalk], by simp [Consist.abandonWalk, Consist.walking]⟩, place, table⟩

theorem Consist.inv_released : c.released.inv := by
  obtain ⟨coach, records, ⟨gen, orient, pos, -, node, -⟩, table⟩ := Consist.inv_abandonWalk h
  refine ⟨coach, records, ⟨gen, ?_, fun placed => ?_, nofun, node, fun _ => rfl⟩, table⟩
  · change (ite _ _ _ : Option Orientation).isSome = (ite _ _ _ : Option PortId).isSome
    split
    · exact orient
    · rfl
  · change (ite _ _ _ : Option PortId).isSome = true
    rw [if_pos (show c.position.isSome = true from placed)]
    exact pos placed

theorem Consist.inv_claimed (e : PortId) (node : c.node ≠ .isolated) : (c.claimed e).inv := by
  obtain ⟨coach, records, ⟨gen, -, -, -, det, -⟩, table⟩ := h
  exact ⟨coach, records, ⟨gen, rfl, fun _ => rfl, fun _ => rfl, det, fun iso => absurd iso node⟩, table⟩

theorem Consist.inv_placed (x : PortId) (gen pos : Nat) (free : c.claim = none) (real : gen ≠ 0) : (c.placed x gen pos).inv := by
  obtain ⟨coach, records, -, -⟩ := h
  exact ⟨coach, records, ⟨iff_of_true rfl real, rfl, fun _ => rfl, by simp [Consist.placed, free], by simp [Consist.placed],
    fun _ => free⟩, fun _ => ⟨rfl, by simp [Consist.placed]⟩, fun full => absurd rfl full⟩

theorem Consist.inv_attempting {serial : Serial} (real : serial ≠ 0) (which : WalkState) (claim : c.claim.isSome = true) :
    (c.attempting serial which).inv := by
  obtain ⟨coach, -, ⟨-, orient, -, front, -, -⟩, -⟩ := h
  have led : c.front.isSome = true := by rw [front claim]; exact claim
  obtain ⟨c1, c2, c3, c4, c5⟩ := id coach
  have nonzero : serial ≠ 0#32 := real
  refine ⟨coach, ⟨?_, fun _ => rfl⟩, ⟨iff_of_true rfl (nextGeneration_ne_zero _), orient, fun _ => led, front,
    by simp [Consist.attempting], by simp [Consist.attempting]⟩, fun _ => ⟨rfl, by simp [Consist.attempting]⟩,
    fun full => absurd rfl full⟩
  simp [Consist.attempting, Consist.leaderEntry, entryInRange, nonzero, c1, c2, c3, c4, c5]

theorem Consist.inv_recorded (e : Entry) (range : entryInRange e = true) (lead : e.lead = (e.position == 1)) :
    Consist.inv { c with records := insertRecord e c.records } := by
  obtain ⟨coach, ⟨ranges, first⟩, place, table⟩ := h
  refine ⟨coach, ⟨fun x hx => ?_, fun walking => ?_⟩, place, table⟩
  · rcases (mem_insertRecord e x c.records).mp hx with rfl | hx
    · exact ⟨range, lead⟩
    · exact ranges x hx
  · obtain ⟨x, hx, pos⟩ := (recordAt_isSome c.records 1).mp (first walking)
    exact (recordAt_isSome _ 1).mpr ⟨x, (mem_insertRecord e x _).mpr (.inr hx), pos⟩

/-- A table that is confirmed stands at an OPERATIONAL node (04 R70, R71). -/
theorem Consist.inv_confirmed {t : Table} (confirms : c.confirms t) :
    Consist.inv { c with table := t, node := .operational } := by
  obtain ⟨coach, records, ⟨gen, orient, pos, claim, -, -⟩, -⟩ := h
  obtain ⟨nonempty, wf, ofGen⟩ := confirms
  exact ⟨coach, records, ⟨gen, orient, pos, claim, by simp, by simp⟩, fun empty => absurd empty nonempty,
    fun _ => ⟨wf, ofGen, .inl rfl⟩⟩

theorem Consist.inv_walkEnds : Consist.inv { c with walk := .idle, records := [] } := by
  obtain ⟨coach, -, place, table⟩ := h
  exact ⟨coach, ⟨by simp, by simp [Consist.walking]⟩, place, table⟩

theorem Consist.inv_unplaced (free : c.claim = none) : c.unplaced.inv := by
  obtain ⟨coach, records, -, -⟩ := h
  exact ⟨coach, records, ⟨by simp [Consist.unplaced], rfl, nofun, by simp [Consist.unplaced, free], fun _ => rfl,
    fun _ => free⟩, fun _ => ⟨rfl, by simp [Consist.unplaced]⟩, fun full => absurd rfl full⟩

theorem Consist.inv_detached (iso : c.node = .isolated) : Consist.inv { c with node := .detached } := by
  obtain ⟨coach, records, ⟨gen, orient, pos, claim, place, -⟩, table⟩ := h
  refine ⟨coach, records, ⟨gen, orient, pos, claim, fun _ => place (.inr iso), by simp⟩,
    fun empty => ⟨(table.1 empty).1, by simp⟩, fun full => ?_⟩
  rcases (table.2 full).2.2 with e | e <;> simp [iso] at e

end

theorem State.tabled_serial (s : State) (number : Nat) (records : List Record) :
    (s.tabled number records).sys.serial = s.sys.serial := by
  unfold State.tabled State.allocated
  split <;> simp

/-- The node's invariant and the consist invariant. -/
def State.consistSafe (s : State) : Prop := s.nodeInv ∧ s.consistInv

theorem consistSafe_closed : NodeClosed True State.consistSafe where
  inv _ h := h.1
  port p := .of_core (fun core h => ⟨State.nodeInv_of_core core h.1, State.consistInv_of_core core h.2⟩) p
  core core _ _ h := ⟨State.nodeInv_of_core core h.1, State.consistInv_of_core core h.2⟩
  leave {s} n c departs op h := by
    refine ⟨nodeInv_closed.leave n c departs op h.1, ?_, ?_⟩
    · simpa using h.2.1
    · rw [State.leaveOperational_cc]
      exact Consist.inv_left h.2.2 n c departs
  suspended off h := ⟨nodeInv_closed.suspended off h.1, State.consistInv_modCc h.2 Consist.inv_suspended⟩
  trigger {s} h := by
    refine ⟨nodeInv_closed.trigger h.1, ?_⟩
    unfold State.walkTrigger
    split
    · exact State.consistInv_modCc h.2 Consist.inv_settling
    · exact h.2
  released off h := ⟨nodeInv_closed.released off h.1, State.consistInv_modCc h.2 Consist.inv_released⟩
  claimed e free off node h := ⟨nodeInv_closed.claimed e free off node h.1,
    State.consistInv_modCc h.2 fun i => Consist.inv_claimed i e (node trivial)⟩
  abandoned h := ⟨nodeInv_closed.abandoned h.1, State.consistInv_modCc h.2 Consist.inv_abandonWalk⟩
  placed x gen pos free off real h := ⟨nodeInv_closed.placed x gen pos free off real h.1,
    State.consistInv_modCc h.2 fun i => Consist.inv_placed i x gen pos free real⟩
  attempting which walks claim off h := ⟨nodeInv_closed.attempting which walks claim off h.1,
    State.consistInv_modCc h.2 fun i => Consist.inv_attempting i h.2.1 which (claim trivial)⟩
  walkStarts walking h := ⟨nodeInv_closed.walkStarts walking h.1, h.2⟩
  walkStops h := ⟨nodeInv_closed.walkStops h.1, h.2⟩
  recorded e range lead h := ⟨nodeInv_closed.recorded e range lead h.1,
    State.consistInv_modCc h.2 fun i => Consist.inv_recorded i e range lead⟩
  confirmed t claim confirms h := ⟨nodeInv_closed.confirmed t claim confirms h.1,
    h.2.1, Consist.inv_confirmed h.2.2 (confirms trivial h.2)⟩
  walkEnds settling stopped h := ⟨nodeInv_closed.walkEnds settling stopped h.1,
    State.consistInv_modCc h.2 Consist.inv_walkEnds⟩
  member t free prov confirms h := ⟨nodeInv_closed.member t free prov confirms h.1,
    State.consistInv_modCc h.2 fun i => Consist.inv_confirmed i confirms⟩
  coach k range h := ⟨nodeInv_closed.coach k range h.1, State.consistInv_modCc h.2 fun i => ⟨range, i.2⟩⟩
  unplaced off free h := ⟨nodeInv_closed.unplaced off free h.1,
    State.consistInv_modCc h.2 fun i => Consist.inv_unplaced i free⟩
  detached iso h := ⟨nodeInv_closed.detached iso h.1, State.consistInv_modCc h.2 fun i => Consist.inv_detached i iso⟩
  doors f lead h := ⟨nodeInv_closed.doors f lead h.1, h.2⟩
  releases a b op h := ⟨nodeInv_closed.releases a b op h.1, h.2⟩
  sweeps f lead demand h := ⟨nodeInv_closed.sweeps f lead demand h.1, h.2⟩
  takes v op _ h := ⟨⟨fun off => absurd (op trivial) off, h.1.2⟩, h.2⟩
  unheld h := ⟨nodeInv_closed.unheld h.1, h.2⟩
  zeroed h := ⟨nodeInv_closed.zeroed h.1, h.2⟩
  tabled {s} number records lead len h := ⟨nodeInv_closed.tabled number records lead len h.1,
    State.consistInv_of_cc (s.tabled_cc number records) (s.tabled_serial number records) h.2⟩
  supplied {s} cap ramp h := ⟨nodeInv_closed.supplied cap ramp h.1, by
    unfold State.shedded
    split <;> exact h.2⟩
  unlocked h := h
  heldOff _ _ _ h := h
  offEnds h := h
  levelled _ _ h := h

theorem State.consistInv_afresh {serial : Serial} (real : serial ≠ 0) {coach : Coach} (range : coach.inRange)
    (level capacity : Nat) : (State.afresh serial coach level capacity).consistInv := by
  refine ⟨real, range, ⟨nofun, nofun⟩, ⟨?_, rfl, nofun, nofun, fun _ => rfl, fun _ => rfl⟩, fun _ => ⟨rfl, nofun⟩,
    fun full => absurd rfl full⟩
  exact iff_of_false nofun fun gen => absurd rfl gen

theorem Coach.default_inRange : Coach.default.inRange := by
  unfold Coach.inRange
  decide

theorem consistSafe_afresh {serial : Serial} (real : serial ≠ 0) {coach : Coach} (range : coach.inRange)
    {level capacity : Nat} : (State.afresh serial coach level capacity).consistSafe :=
  ⟨State.nodeInv_afresh _ _ _ _, State.consistInv_afresh real range _ _⟩

theorem consistSafe_partClosed : PartClosed True State.consistSafe :=
  .of_core consistSafe_closed
    (fun core h => ⟨State.nodeInv_of_core core h.1, State.consistInv_of_core core h.2⟩)
    (fun h => consistSafe_afresh h.2.1 Coach.default_inRange) (fun h => consistSafe_afresh h.2.1 h.2.2.1)

/-- Settles O58: the node invariant and the consist invariant together are kept by every step. -/
theorem stepsKeepTheTableWellFormed : Obligations.StepsKeepTheTableWellFormed := by
  intro s t node consist steps
  obtain ⟨-, kept⟩ := consistSafe_partClosed.step ⟨node, consist⟩ steps
  exact kept

/-! ### Grants -/

/-- Outside an OPERATIONAL leader no grant stands (08 R151). -/
theorem State.nodeInv.grants_zero {s : State} (h : s.nodeInv) (off : s.operationalLeader ≠ true) :
    ∀ g ∈ s.ha.grants, g = 0 := by
  intro g mem
  by_contra nonzero
  refine off (h.2.1 ?_)
  have : s.ha.grants.any (· != 0) = true := List.any_eq_true.mpr ⟨g, mem, by simpa using nonzero⟩
  simp [State.holdsLeaderState, this]

theorem getD_of_zero {l : List Nat} (zero : ∀ g ∈ l, g = 0) (i : Nat) : l.getD i 0 = 0 := by
  by_cases inside : i < l.length
  · rw [List.getD_eq_getElem _ _ inside]
    exact zero _ (List.getElem_mem _)
  · exact List.getD_eq_default _ _ (by omega)

/-- The ranges that the heating invariant asks for, whatever the grants are. -/
structure State.heatRanges (s : State) : Prop where
  table : s.ha.grants.length = 32
  demands : s.se.demand.length = 32
  level : s.ha.level ≤ 7
  held : s.ha.held ≤ 7
  demand : ∀ d ∈ s.se.demand, d ≤ 7
  start : 1 ≤ s.ha.rotation
  turned : s.operationalLeader = true → s.ha.rotation ≤ s.consistN

theorem State.heatInv.ranges {s : State} (h : s.heatInv) : s.heatRanges := by
  obtain ⟨table, demands, level, held, demand, -, -, -, start, turned⟩ := h
  exact ⟨table, demands, level, held, demand, start, turned⟩

/-- With no grant standing only the ranges matter. -/
theorem State.heatInv_of_zero {s : State} (r : s.heatRanges) (zero : ∀ g ∈ s.ha.grants, g = 0) : s.heatInv :=
  ⟨r.table, r.demands, r.level, r.held, r.demand, fun i _ => (getD_of_zero zero i).trans_le (Nat.zero_le _),
    (totalPower_of_zero (fun g hg => zero g (List.mem_of_mem_take hg)) _).trans_le (Nat.zero_le _), fun _ => zero, r.start,
    r.turned⟩

theorem State.heatInv_of_core {s t : State} (core : t.nodeCore = s.nodeCore) (h : s.heatInv) : t.heatInv := by
  rwa [← State.heatInv_nodeCore, core, State.heatInv_nodeCore]

/-- A change of the Consist Controller that keeps the table and makes no OPERATIONAL leader. -/
theorem State.heatInv_modCc_same {s : State} {f : Consist → Consist} (h : s.heatInv) (table : (f s.cc).table = s.cc.table)
    (lead : (f s.cc).claim.isSome = true → (f s.cc).node = .operational → s.operationalLeader = true) :
    (s.modCc f).heatInv := by
  obtain ⟨len, demands, level, held, demand, within, total, barred, start, turned⟩ := h
  have n : (s.modCc f).consistN = s.consistN := by simp only [State.consistN, State.modCc_cc, table]
  have powers : (s.modCc f).powers = s.powers := by simp only [State.powers, State.modCc_cc, table]
  refine ⟨len, demands, level, held, demand, within, ?_, barred, start, fun leads => ?_⟩
  · rw [n, powers]
    exact total
  · rw [n]
    obtain ⟨claim, op⟩ := (State.operationalLeader_iff_claim _).mp leads
    exact turned (lead claim op)

/-- A change of the table at a node that neither is nor becomes an OPERATIONAL leader. -/
theorem State.heatInv_modCc_off {s : State} {f : Consist → Consist} (node : s.nodeInv) (h : s.heatInv)
    (off : s.operationalLeader ≠ true) (stays : (s.modCc f).operationalLeader ≠ true) : (s.modCc f).heatInv := by
  obtain ⟨table, demands, level, held, demand, start, -⟩ := h.ranges
  exact State.heatInv_of_zero ⟨table, demands, level, held, demand, start, fun leads => absurd leads stays⟩
    (node.grants_zero off)

/-! ### Runs -/

theorem grantTable_getD (l : List Nat) (i : Nat) : (grantTable l).getD i 0 ≤ l.getD i 0 := by
  unfold grantTable
  by_cases inside : i < 32
  · rw [List.getD_eq_getElem?_getD, List.getElem?_take_of_lt inside, ← List.getD_eq_getElem?_getD]
    by_cases inL : i < l.length
    · rw [List.getD_append _ _ _ _ inL]
    · rw [List.getD_append_right _ _ _ _ (by omega)]
      exact (getD_of_zero (fun g hg => (List.mem_replicate.mp hg).2) _).trans_le (Nat.zero_le _)
  · rw [List.getD_eq_default _ _ (by simp; omega)]
    exact Nat.zero_le _

theorem grantTable_take {l : List Nat} (small : l.length ≤ 32) : (grantTable l).take l.length = l := by
  rw [grantTable, List.take_take, Nat.min_eq_left small, List.take_left]

/-- Grants that a run gives, outside hold-off and lockout. -/
theorem State.heatInv_run {s : State} (r : s.heatRanges) {l : List Nat} {start : Nat} (len : l.length = s.consistN)
    (small : s.consistN ≤ 32) (within : ∀ i < s.consistN, l.getD i 0 ≤ (s.se.demand.take s.consistN).getD i 0)
    (total : totalPower l s.powers ≤ s.ha.capacity) (free : s.ha.barred ≠ true) (pos : 1 ≤ start)
    (turned : s.operationalLeader = true → start ≤ s.consistN) :
    (s.modHa fun h => { h with grants := grantTable l, rotation := start }).heatInv := by
  refine ⟨grantTable_length l, r.demands, r.level, r.held, r.demand, fun i _ => ?_, ?_, fun bars => absurd bars free, pos,
    turned⟩
  · refine (grantTable_getD l i).trans ?_
    by_cases inside : i < s.consistN
    · have := within i inside
      rwa [List.getD_eq_getElem?_getD (l := List.take _ _), List.getElem?_take_of_lt inside,
        ← List.getD_eq_getElem?_getD] at this
    · rw [List.getD_eq_default l 0 (by omega)]
      exact Nat.zero_le _
  · change totalPower ((grantTable l).take s.consistN) s.powers ≤ s.ha.capacity
    rw [← len, grantTable_take (by omega)]
    exact total

theorem State.powers_length (s : State) : s.powers.length = s.consistN := by simp [State.powers, State.consistN]

theorem length_take_of_le {l : List Nat} {n : Nat} (len : l.length = 32) (small : n ≤ 32) : (l.take n).length = n := by
  simp [len, small]

/-- The grants after a completed sweep's run. -/
theorem State.heatInv_allocated {s : State} (r : s.heatRanges) (small : s.consistN ≤ 32) :
    s.allocated.heatInv := by
  have grants := length_take_of_le r.table small
  have demands := length_take_of_le r.demands small
  unfold State.allocated
  split
  · exact State.heatInv_of_zero ⟨by simp [State.zeroGrants], r.demands, r.level, r.held, r.demand, r.start, r.turned⟩
      fun g hg => (List.mem_replicate.mp hg).2
  · next free =>
    have hd := demands.trans grants.symm
    obtain ⟨run, levels, raised⟩ := fullRun_raised (start := s.ha.rotation) (cap := s.ha.capacity) (ramp := s.ha.ramp) hd
      (s.powers_length.trans grants.symm)
    have len := (raised.len.trans (shedRun_length hd)).trans grants
    have headroom := raised.headroom
    have within := raised.within
    rw [levels] at len headroom within
    refine State.heatInv_run r len small (fun i hi => within i ?_) (by omega) free ?_ fun leads => ?_
    · rw [shedRun_length hd, grants]
      exact hi
    · unfold nextRotation
      split <;> omega
    · have pos := r.start
      have le := r.turned leads
      unfold nextRotation
      split <;> omega

/-- The grants after a shed-only run. -/
theorem State.heatInv_shedded {s : State} (node : s.nodeInv) (r : s.heatRanges)
    (zero : s.ha.barred = true → ∀ g ∈ s.ha.grants, g = 0) (small : s.consistN ≤ 32) : s.shedded.heatInv := by
  have grants := length_take_of_le r.table small
  have demands := length_take_of_le r.demands small
  unfold State.shedded
  split
  · next runs =>
    simp only [Bool.and_eq_true, Bool.not_eq_true'] at runs
    have hd := demands.trans grants.symm
    exact State.heatInv_run (l := shedRun _ _ _ _ _) r ((shedRun_length hd).trans grants) small
      (fun i _ => (shedRun_getD_le hd i).trans (Nat.min_le_right _ _)) (shedRun_totalPower_le hd) (by simp [runs.2]) r.start
      r.turned
  · next rests =>
    by_cases lead : s.operationalLeader = true
    · exact State.heatInv_of_zero r (zero (by simpa [lead] using rests))
    · exact State.heatInv_of_zero r (node.grants_zero lead)

/-! ### The heating invariant through the moves -/

/-- The three invariants of the node. -/
def State.heatSafe (s : State) : Prop := s.consistSafe ∧ s.heatInv

theorem State.heatSafe_of_core {s t : State} (core : t.nodeCore = s.nodeCore) (h : s.heatSafe) : t.heatSafe :=
  ⟨⟨State.nodeInv_of_core core h.1.1, State.consistInv_of_core core h.1.2⟩, State.heatInv_of_core core h.2⟩

theorem State.heatInv_leaveOperational {s : State} (node : s.nodeInv) (r : s.heatRanges) {n : NodeState}
    (off : n ≠ .operational) (c : ExitCause) : (s.leaveOperational n c).heatInv := by
  have ha := s.leaveOperational_ha n c
  have demand : (s.leaveOperational n c).se.demand = s.se.demand := by
    rw [State.leaveOperational_se]
    split <;> rfl
  have leads : (s.leaveOperational n c).operationalLeader ≠ true := by
    simp [State.operationalLeader, State.leaveOperational_cc, off]
  refine State.heatInv_of_zero ⟨?_, demand ▸ r.demands, ?_, ?_, demand ▸ r.demand, ?_, fun lead => absurd lead leads⟩ ?_
  · rw [ha]
    split
    · exact List.length_replicate
    · exact r.table
  · rw [ha]
    split <;> exact r.level
  · rw [ha]
    split <;> exact Nat.zero_le _
  · rw [ha]
    split <;> exact r.start
  · rw [ha]
    split
    · exact fun g hg => (List.mem_replicate.mp hg).2
    · next free => exact node.grants_zero fun lead => free (State.claim_of_operationalLeader lead)

theorem takenDemand_le (count : Nat) (r : Record) : takenDemand count r ≤ 7 := by
  unfold takenDemand
  split
  · split
    · assumption
    · exact Nat.lt_succ_iff.mp (Fin.is_lt _)
  · exact Nat.zero_le _

theorem State.heatInv_tabled {s : State} (r : s.heatRanges) (number : Nat) {records : List Record}
    (len : records.length ≤ 32) (small : s.consistN ≤ 32) : (s.tabled number records).heatInv := by
  unfold State.tabled
  refine State.heatInv_allocated ⟨?_, ?_, ?_, ?_, ?_, ?_, ?_⟩ ?_ <;>
    simp only [State.decideTrainClosed_ha, State.decideTrainClosed_se, State.consistN, State.operationalLeader,
      State.decideTrainClosed_cc, SweepState.completed]
  · exact r.table
  · have := r.demands
    simp
    omega
  · exact r.level
  · exact r.held
  · intro d hd
    rcases List.mem_append.mp hd with hd | hd
    · obtain ⟨x, -, rfl⟩ := List.mem_map.mp hd
      exact takenDemand_le _ _
    · exact r.demand d (List.mem_of_mem_drop hd)
  · exact r.start
  · exact r.turned
  · exact small

theorem State.not_lead_of_node {s : State} (off : s.cc.node ≠ .operational) : s.operationalLeader ≠ true :=
  fun lead => off (State.node_of_operationalLeader lead)

theorem State.not_lead_of_claim {s : State} (free : s.cc.claim = none) : s.operationalLeader ≠ true := fun lead => by
  simpa [free] using State.claim_of_operationalLeader lead

theorem heatSafe_closed : NodeClosed True State.heatSafe where
  inv _ h := h.1.1
  port p := .of_core State.heatSafe_of_core p
  core core _ _ h := State.heatSafe_of_core core h
  leave n c departs op h := ⟨consistSafe_closed.leave n c departs op h.1, State.heatInv_leaveOperational h.1.1 h.2.ranges
    (by rcases departs with rfl | rfl <;> decide) c⟩
  suspended off h := ⟨consistSafe_closed.suspended off h.1, State.heatInv_modCc_same h.2 rfl nofun⟩
  trigger {s} h := by
    refine ⟨consistSafe_closed.trigger h.1, ?_⟩
    unfold State.walkTrigger
    split
    · exact State.heatInv_modCc_same h.2 rfl fun claim op => s.operationalLeader_iff_claim.mpr ⟨claim, op⟩
    · exact h.2
  released off h := ⟨consistSafe_closed.released off h.1, State.heatInv_modCc_same h.2 rfl nofun⟩
  claimed e free off node h := ⟨consistSafe_closed.claimed e free off node h.1,
    State.heatInv_modCc_same h.2 rfl fun _ op => absurd op (off trivial)⟩
  abandoned h := ⟨consistSafe_closed.abandoned h.1, h.2⟩
  placed x gen pos free off real h := ⟨consistSafe_closed.placed x gen pos free off real h.1,
    State.heatInv_modCc_off h.1.1 h.2 (State.not_lead_of_claim free) (State.not_lead_of_node nofun)⟩
  attempting which walks claim off h := ⟨consistSafe_closed.attempting which walks claim off h.1,
    State.heatInv_modCc_off h.1.1 h.2 (State.not_lead_of_node (off trivial)) (State.not_lead_of_node nofun)⟩
  walkStarts walking h := ⟨consistSafe_closed.walkStarts walking h.1, h.2⟩
  walkStops h := ⟨consistSafe_closed.walkStops h.1, h.2⟩
  recorded e range lead h := ⟨consistSafe_closed.recorded e range lead h.1, h.2⟩
  confirmed t claim confirms h := by
    refine ⟨consistSafe_closed.confirmed t claim confirms h.1, State.heatInv_of_zero ?_
      fun g hg => (List.mem_replicate.mp hg).2⟩
    have pos : 1 ≤ t.entries.length := List.length_pos_of_ne_nil (confirms trivial h.1.2).1
    exact ⟨List.length_replicate, List.length_replicate, h.2.ranges.level, h.2.ranges.held,
      fun d hd => (List.mem_replicate.mp hd).2.trans_le (Nat.zero_le _), Nat.le_refl 1, fun _ => pos⟩
  walkEnds settling stopped h := ⟨consistSafe_closed.walkEnds settling stopped h.1, h.2⟩
  member t free prov confirms h := ⟨consistSafe_closed.member t free prov confirms h.1,
    State.heatInv_modCc_off h.1.1 h.2 (State.not_lead_of_claim free) (State.not_lead_of_claim free)⟩
  coach k range h := ⟨consistSafe_closed.coach k range h.1, h.2⟩
  unplaced off free h := ⟨consistSafe_closed.unplaced off free h.1,
    State.heatInv_modCc_off h.1.1 h.2 (State.not_lead_of_claim free) (State.not_lead_of_claim free)⟩
  detached iso h := ⟨consistSafe_closed.detached iso h.1, State.heatInv_modCc_same h.2 rfl nofun⟩
  doors f lead h := ⟨consistSafe_closed.doors f lead h.1, h.2⟩
  releases a b op h := ⟨consistSafe_closed.releases a b op h.1, h.2⟩
  sweeps f lead demand h := by
    refine ⟨consistSafe_closed.sweeps f lead demand h.1, ?_⟩
    unfold State.heatInv
    rw [State.modSe_se, demand]
    exact h.2
  takes v op level h := by
    obtain ⟨table, demands, lvl, -, rest⟩ := id h.2
    exact ⟨consistSafe_closed.takes v op (fun _ => level h.2) h.1, table, demands, lvl, level h.2, rest⟩
  unheld h := by
    obtain ⟨table, demands, lvl, -, rest⟩ := id h.2
    exact ⟨consistSafe_closed.unheld h.1, table, demands, lvl, Nat.zero_le 7, rest⟩
  zeroed h := by
    obtain ⟨-, demands, level, held, demand, start, turned⟩ := h.2.ranges
    exact ⟨consistSafe_closed.zeroed h.1, State.heatInv_of_zero
      ⟨List.length_replicate, demands, level, held, demand, start, turned⟩ fun g hg => (List.mem_replicate.mp hg).2⟩
  tabled number records lead len h := ⟨consistSafe_closed.tabled number records lead len h.1,
    State.heatInv_tabled h.2.ranges number (len trivial h.1.2) (State.consistN_le h.1.2)⟩
  supplied {s} cap ramp h := by
    obtain ⟨table, demands, level, held, demand, start, turned⟩ := h.2.ranges
    obtain ⟨-, -, -, -, -, -, -, zero, -⟩ := h.2
    exact ⟨consistSafe_closed.supplied cap ramp h.1, State.heatInv_shedded (s := s.modHa _) h.1.1
      ⟨table, demands, level, held, demand, start, turned⟩ zero (State.consistN_le h.1.2)⟩
  unlocked h := by
    obtain ⟨table, demands, level, held, demand, within, total, barred, rest⟩ := id h.2
    exact ⟨h.1, table, demands, level, held, demand, within, total,
      fun bars => barred (by simp [Heating.barred] at bars ⊢; exact .inl bars), rest⟩
  heldOff t b zero h := by
    obtain ⟨table, demands, level, held, demand, within, total, -, rest⟩ := id h.2
    exact ⟨h.1, table, demands, level, held, demand, within, total,
      fun _ g hg => (List.mem_replicate.mp (zero ▸ hg)).2, rest⟩
  offEnds h := by
    obtain ⟨table, demands, level, held, demand, within, total, barred, rest⟩ := id h.2
    exact ⟨h.1, table, demands, level, held, demand, within, total,
      fun bars => barred (by simpa [Heating.barred] using .inr bars), rest⟩
  levelled v le h := by
    obtain ⟨table, demands, -, rest⟩ := id h.2
    exact ⟨h.1, table, demands, le, rest⟩

theorem State.heatInv_afresh (serial : Serial) (coach : Coach) {level : Nat} (range : level ≤ 7) (capacity : Nat) :
    (State.afresh serial coach level capacity).heatInv := by
  refine State.heatInv_of_zero ⟨List.length_replicate, List.length_replicate, range, Nat.zero_le 7,
    fun d hd => (List.mem_replicate.mp hd).2.trans_le (Nat.zero_le _), Nat.le_refl 1, nofun⟩
    fun g hg => (List.mem_replicate.mp hg).2

theorem heatSafe_partClosed : PartClosed True State.heatSafe :=
  .of_core heatSafe_closed State.heatSafe_of_core
    (fun h => ⟨consistSafe_afresh h.1.2.1 Coach.default_inRange, State.heatInv_afresh _ _ (Nat.zero_le 7) _⟩)
    (fun h => ⟨consistSafe_afresh h.1.2.1 h.1.2.2.1, State.heatInv_afresh _ _ h.2.ranges.level _⟩)

/-- Settles O59: the heating invariant is kept by every step of a node that keeps the other two. -/
theorem stepsKeepGrantsWithinDemandAndCapacity : Obligations.StepsKeepGrantsWithinDemandAndCapacity := by
  intro s t node consist heat steps
  obtain ⟨-, kept⟩ := heatSafe_partClosed.step ⟨⟨node, consist⟩, heat⟩ steps
  exact kept

/-- Settles O56. -/
theorem invariantsHoldAtReset : Obligations.InvariantsHoldAtReset := by
  have fresh : State.reset = State.afresh Sys.reset.serial Coach.default 0 0 := rfl
  have serial : Sys.reset.serial ≠ 0 := by decide
  refine ⟨fresh ▸ State.nodeInv_afresh _ _ _ _, fresh ▸ State.consistInv_afresh serial Coach.default_inRange _ _,
    fresh ▸ State.heatInv_afresh _ _ (Nat.zero_le 7) _, ⟨rfl, Nat.zero_le 4, nofun, nofun⟩, Relay.reset_inv, Relay.reset_inv⟩

end Sys2Proof.Machine
end

section
/-! The host link: the transmitter's choice and the ends of messages (09 R170, R172, R178), and what arrives (09 R167 to R174). -/

namespace Sys2Proof.Machine

/-- Settles O1: the front command is what `step` matches on. -/
theorem stepRunsFrontCommand : Obligations.StepRunsFrontCommand := fun c s => step_cons c s s.pending

/-! ### The end of an event -/

theorem completes_done {s : State} {P : State → Prop} (h : P s.hostKick) : completes s.done P := ⟨_, rfl, h⟩

theorem State.hostKick_still (s : State) : s.hostKick.hl.still = s.hl.still := by
  unfold State.hostKick State.startNotice
  repeat' split
  all_goals rfl

theorem HostLink.still_of_raisedFrom {h h' : HostLink} (raised : h.raisedFrom h') : h'.still = h.still := by
  obtain ⟨n, rfl⟩ := raised
  rfl

/-- The transmitter's choice keeps what the host link keeps but for the message in transmission. -/
theorem sameHost_hostKick {s t : State} (same : sameHost s t) : sameHost s t.hostKick :=
  (State.hostKick_still t).trans same

theorem sameHost_of_raisedFrom {s t : State} (raised : s.hl.raisedFrom t.hl) : sameHost s t :=
  HostLink.still_of_raisedFrom raised

/-- A notice that is told stays told when others are raised. -/
theorem told_of_raisedFrom {s t : State} {k : Notice} (raised : s.hl.raisedFrom t.hl) (h : told s k) : told t k := by
  obtain ⟨n, e⟩ := raised
  refine h.imp (fun flag => ?_) fun ⟨l, tx⟩ => ⟨l, by rw [e]; exact tx⟩
  simp only [HostLink.flagged] at flag
  simp [HostLink.flagged, e, flag]

/-! ### The transmitter -/

theorem HostLink.nextNotice_eq_some_iff (h : HostLink) (k : Notice) :
    h.nextNotice = some k ↔ h.flagged k = true ∧ ∀ k', noticeBit k' < noticeBit k → h.flagged k' = false := by
  have at_ (i : Nat) (inside : i < noticeOrder.length) (j : Notice) (same : noticeOrder[i] = j) : i = noticeBit j := by
    subst same
    have := noticeOrder_getElem?_noticeBit noticeOrder[i]
    obtain ⟨bound, e⟩ := List.getElem?_eq_some_iff.mp this
    exact (List.getElem_inj (h₀ := inside) (h₁ := bound) (by decide)).mp e.symm
  have of_ (j : Notice) : ∃ bound : noticeBit j < noticeOrder.length, noticeOrder[noticeBit j] = j :=
    List.getElem?_eq_some_iff.mp (noticeOrder_getElem?_noticeBit j)
  rw [HostLink.nextNotice, List.find?_eq_some_iff_getElem]
  constructor
  · rintro ⟨flag, i, inside, same, lower⟩
    obtain rfl := at_ i inside k same
    refine ⟨flag, fun k' below => ?_⟩
    obtain ⟨bound, e⟩ := of_ k'
    simpa [e] using lower (noticeBit k') below
  · rintro ⟨flag, lower⟩
    obtain ⟨bound, e⟩ := of_ k
    refine ⟨flag, noticeBit k, bound, e, fun j below => ?_⟩
    have := at_ j (by omega) _ rfl
    simpa using lower noticeOrder[j] (by omega)

section
variable {s : State}

theorem exec_hostMessageSent (running : s.running = true) (clocked : s.clocked = true) (tx : s.hl.tx.isSome = true)
    (noReset : s.hl.endsInReset = false) :
    exec .hostMessageSent s = .next (s.modHl HostLink.messageEnds).hostKick := by
  change (if s.hostSending then s.messageSent else s).done = _
  rw [if_pos (by simp [State.hostSending, running, clocked, tx]), State.messageSent, noReset]
  rfl

theorem State.hostKick_notice {k : Notice} (idle : s.hostTxIdle = true) (refusal : s.hl.refusal = none)
    (replies : s.hl.replies = []) (free : s.hl.resetPending = false) (next : s.hl.nextNotice = some k) :
    s.hostKick = s.startNotice k := by
  simp [State.hostKick, idle, refusal, replies, free, next]

theorem State.hostKick_rests (idle : s.hostTxIdle = true) (refusal : s.hl.refusal = none) (replies : s.hl.replies = [])
    (rests : s.hl.resetPending = true ∨ s.hl.nextNotice = none) : s.hostKick = s := by
  rw [State.hostKick, if_pos idle, if_neg (by simp [refusal]), if_neg (by simp [replies])]
  split
  · rfl
  · next free => simp [rests.resolve_left (by simpa using free)]

end

/-- Settles O7: the end of each kind of message, and the choice of an idle transmitter case by case. -/
theorem hostTransmitterServesInOrder : Obligations.HostTransmitterServesInOrder := by
  intro s k l
  refine ⟨fun running clocked noReset => ⟨fun tx => ?_, fun tx => ?_, fun tx => ?_⟩, s.hl.nextNotice_eq_some_iff k,
    State.hostKick_of_busy, fun idle => ⟨fun refused => ?_, fun refusal queued => ?_, State.hostKick_rests idle,
      fun refusal replies free next => ?_⟩⟩
  · rw [exec_hostMessageSent running clocked (by simp [tx]) noReset, State.modHl, HostLink.messageEnds, tx]
  · rw [exec_hostMessageSent running clocked (by simp [tx]) noReset, State.modHl, HostLink.messageEnds, tx]
  · rw [exec_hostMessageSent running clocked (by simp [tx]) noReset, State.modHl, HostLink.messageEnds, tx]
  · rw [State.hostKick, if_pos idle, if_pos refused]
    rfl
  · rw [State.hostKick, if_pos idle, if_neg (by simp [refusal]), if_pos queued]
    rfl
  · rw [State.hostKick_notice idle refusal replies free next]
    refine ⟨rfl, by simp [State.flagged_startNotice], fun k' other => ?_, rfl, rfl⟩
    simp [State.flagged_startNotice, other.symm]

end Sys2Proof.Machine
end

section
/-! What arrives at the host receiver (09 R167 to R174), and the requests that read state or set one plain value. -/

namespace Sys2Proof.Machine

/-! ### The arrival of a request -/

theorem requestBytes_eq_some_iff (k n : Nat) :
    requestBytes k = some n ↔ (k, n) ∈ [(0x01, 0), (0x02, 4), (0x03, 1), (0x04, 0), (0x05, 0), (0x06, 1), (0x07, 0),
      (0x08, 5), (0x09, 3), (0x0A, 0), (0x0B, 1), (0x0C, 1), (0x0D, 5), (0x0E, 0), (0x0F, 0), (0x10, 2), (0x11, 4), (0x12, 1),
      (0x13, 1), (0x14, 0), (0x15, 0), (0x16, 2), (0x17, 0)] := by
  constructor
  · intro h
    unfold requestBytes at h
    split at h <;> simp_all
  · intro h
    simp only [List.mem_cons, Prod.mk.injEq, List.not_mem_nil, or_false] at h
    rcases h with ⟨rfl, rfl⟩ | h
    · rfl
    repeat (rcases h with ⟨rfl, rfl⟩ | h; · rfl)
    obtain ⟨rfl, rfl⟩ := h
    rfl

/-- A command that is a request is carried out as the arrival of that request. -/
theorem exec_of_requestOf {c : Instr} {r : Request} (h : requestOf c = some r) (s : State) :
    ∃ owner, exec c s = (s.request r.kind r.tag r.payload owner).done := by
  unfold requestOf at h
  split at h <;> cases h <;> exact ⟨_, rfl⟩

section
variable {s : State} (listens : s.hostListening = true) (framed : s.hl.inFrame = true) (kind tag : Nat) (payload : List Nat)
  (owner : State → Answer)
include listens framed

theorem State.request_unknown (free : s.hl.slots.length < 4) (noKind : requestBytes kind = none) :
    s.request kind tag payload owner = s.replied kind tag payload .unknown [] := by
  rw [State.request_free (s.hostFraming_iff.mpr ⟨listens, framed⟩) free, State.takeRequest, State.answer, noKind]
  rfl

theorem State.request_length (free : s.hl.slots.length < 4) {n : Nat} (bytes : requestBytes kind = some n)
    (wrong : payload.length ≠ n) : s.request kind tag payload owner = s.replied kind tag payload .length [] := by
  rw [State.request_free (s.hostFraming_iff.mpr ⟨listens, framed⟩) free, State.takeRequest, State.answer, bytes]
  simp only [wrong, if_false]
  rfl

theorem State.request_busy (full : 4 ≤ s.hl.slots.length) (refusal : s.hl.refusal = none) :
    s.request kind tag payload owner = s.modHl fun h =>
      { h.hunt with refusal := some { kind, tag, status := .busy, fields := [] } } := by
  rw [State.request, if_pos (s.hostFraming_iff.mpr ⟨listens, framed⟩)]
  simp [HostLink.hunt, refusal, Nat.not_lt.mpr full, State.modHl]

theorem State.request_dropped (full : 4 ≤ s.hl.slots.length) (refusal : s.hl.refusal.isSome = true) :
    s.request kind tag payload owner = s.modHl fun h => { h.hunt with droppedReqs := inc16 h.droppedReqs } := by
  obtain ⟨r, held⟩ := Option.isSome_iff_exists.mp refusal
  rw [State.request, if_pos (s.hostFraming_iff.mpr ⟨listens, framed⟩)]
  simp [HostLink.hunt, held, Nat.not_lt.mpr full, State.modHl]

end

/-- Settles O55: the arrival of a request, and each event of the assembler. -/
theorem hostReceiverChecksAndCounts : Obligations.HostReceiverChecksAndCounts := by
  intro s c r tag dropped
  refine ⟨requestBytes_eq_some_iff, fun request deaf => ?_, fun request listens framed => ⟨fun free => ⟨fun noKind => ?_,
    fun n bytes wrong => ?_⟩, fun full => ⟨fun refusal => ?_, fun refusal => ?_⟩⟩, fun ⟨listens, framed, free⟩ kind payload noKind => ?_,
    fun slot => State.request_done slot rfl tag _, fun listens => ⟨fun hunts => ?_, fun taken inFrame => ?_, ?_, fun framed => ⟨?_, ?_⟩,
    fun hunts => ⟨?_, ?_⟩⟩, fun ticks due => ?_⟩
  · obtain ⟨owner, e⟩ := exec_of_requestOf request s
    have notFramed : s.hostFraming = false := by
      rw [Bool.eq_false_iff, ne_eq, State.hostFraming_iff]
      rcases deaf with h | h <;> simp [h]
    rw [e, State.request_deaf notFramed]
    rfl
  · obtain ⟨owner, e⟩ := exec_of_requestOf request s
    rw [e, State.request_unknown listens framed _ _ _ _ free noKind]
    rfl
  · obtain ⟨owner, e⟩ := exec_of_requestOf request s
    rw [e, State.request_length listens framed _ _ _ _ free bytes wrong]
    rfl
  · obtain ⟨owner, e⟩ := exec_of_requestOf request s
    rw [e, State.request_busy listens framed _ _ _ _ full refusal]
    rfl
  · obtain ⟨owner, e⟩ := exec_of_requestOf request s
    rw [e, State.request_dropped listens framed _ _ _ _ full refusal]
    rfl
  · change (s.request kind tag payload _).done = _
    rw [State.request_unknown listens framed _ _ _ _ free noKind]
    rfl
  · change (if s.hostListening then s.modHl HostLink.takeSync else s).done = _
    have hunting : s.hl.assembler = none := by simpa [HostLink.inFrame] using hunts
    rw [if_pos listens, State.modHl, HostLink.takeSync, hunting]
    rfl
  · change (if s.hostListening then s.modHl HostLink.takeSync else s).done = _
    rw [if_pos listens, State.modHl, HostLink.takeSync, inFrame]
    rfl
  · change (if s.hostListening then _ else s).done = _
    rw [if_pos listens]
    rfl
  · change (if s.hostFraming then _ else s).done = _
    rw [if_pos (s.hostFraming_iff.mpr ⟨listens, framed⟩)]
    rfl
  · change (if s.hostFraming then _ else s).done = _
    rw [if_pos (s.hostFraming_iff.mpr ⟨listens, framed⟩)]
    rfl
  · change (if s.hostFraming then _ else s).done = _
    rw [if_neg (by simp [State.hostFraming_iff, hunts])]
    rfl
  · change (if s.hostFraming then _ else s).done = _
    rw [if_neg (by simp [State.hostFraming_iff, hunts])]
    rfl
  · change (if s.expires s.hl.frameTimer 20 then _ else s).done = _
    rw [if_pos ((s.expires_iff _ _).mpr ⟨ticks, due⟩)]
    rfl

/-! ### Requests that read state -/

section
variable {s : State} (slot : takesSlot s) (tag a : Nat)
include slot

theorem exec_getConsist :
    exec (.getConsist tag [a]) s = .next (((s.holding 0x06 tag [a]).reqGetConsist a).queued 0x06 tag).hostKick :=
  State.request_done slot rfl tag _

theorem exec_getPort :
    exec (.getPort tag [a]) s = .next (((s.holding 0x12 tag [a]).reqGetPort a).queued 0x12 tag).hostKick :=
  State.request_done slot rfl tag _

theorem exec_getPort_of_port {p : PortId} (port : portOfNumber a = some p) :
    exec (.getPort tag [a]) s = .next (s.replied 0x12 tag [a] .ok (s.port p).fields).hostKick := by
  rw [exec_getPort slot, State.reqGetPort, port]
  cases p <;> rfl

end

/-- Settles O45: each read request's owner answers with its fields, and the request leaves only its slot and its reply. -/
theorem getRequestsReplyWithTheirFields : Obligations.GetRequestsReplyWithTheirFields := by
  intro s tag a slot
  refine ⟨State.request_done slot rfl tag _, State.request_done slot rfl tag _, State.request_done slot rfl tag _,
    State.request_done slot rfl tag _, fun pos le => ?_, fun outside => ?_, fun one => ?_, fun two => ?_, fun outside => ?_⟩
  · rw [exec_getConsist slot, State.reqGetConsist, if_neg (by omega)]
    rfl
  · rw [exec_getConsist slot, State.reqGetConsist, if_pos outside, State.refuse_queued]
  · exact exec_getPort_of_port slot tag a (p := .p1) (by rw [one]; rfl)
  · exact exec_getPort_of_port slot tag a (p := .p2) (by rw [two]; rfl)
  · rw [exec_getPort slot, State.reqGetPort, (portOfNumber_eq_none_iff a).mpr outside, State.refuse_queued]

/-! ### Plain settings -/

theorem anchorOfCode_of_le {a : Nat} (le : a ≤ 1) : anchorOfCode a = some (if a = 0 then .front else .rear) := by
  interval_cases a <;> rfl

theorem flagOfCode_of_le {a : Nat} (le : a ≤ 1) : flagOfCode a = some (a == 1) := by
  interval_cases a <;> rfl

theorem anchorOfCode_eq_none {a : Nat} (h : 1 < a) : anchorOfCode a = none := by
  obtain ⟨k, rfl⟩ : ∃ k, a = k + 2 := ⟨a - 2, by omega⟩
  rfl

theorem flagOfCode_eq_none {a : Nat} (h : 1 < a) : flagOfCode a = none := by
  obtain ⟨k, rfl⟩ : ∃ k, a = k + 2 := ⟨a - 2, by omega⟩
  rfl

theorem standstillOfCode_eq_none {a : Nat} (h : 1 < a) : standstillOfCode a = none := by
  obtain ⟨k, rfl⟩ : ∃ k, a = k + 2 := ⟨a - 2, by omega⟩
  rfl

/-- The open timer after it is examined: it runs while a leaf counts as open (07 R123). -/
theorem State.examineOpen_dcu (s : State) :
    s.examineOpen.dcu = { s.dcu with
      boost := s.anyLeafOpen && s.dcu.boost,
      openTimer := if s.anyLeafOpen then (if s.dcu.openTimer.isSome then s.dcu.openTimer else some 0) else none } := by
  unfold State.examineOpen
  cases s.anyLeafOpen
  · simp
  · cases h : s.dcu.openTimer <;> simp
    rw [← h]

theorem State.anyLeafOpen_of_settings {s t : State} (leaves : t.dcu.leaves = s.dcu.leaves)
    (isolated : t.dcu.isolated = s.dcu.isolated) (coach : t.cc.coach = s.cc.coach) : t.anyLeafOpen = s.anyLeafOpen := by
  have each : t.leafOpen = s.leafOpen := by
    funext i
    simp only [State.leafOpen, leaves, isolated, coach]
  rw [State.anyLeafOpen, each, State.anyLeafOpen]

theorem HostLink.raisedFrom_examineOpen (s : State) : s.hl.raisedFrom s.examineOpen.hl := by
  unfold State.examineOpen
  split
  · split <;> exact HostLink.raisedFrom_refl _
  · exact HostLink.raisedFrom_raiseIf _ _ _

theorem State.examineOpen_ports (s : State) : samePorts s s.examineOpen := ⟨s.examineOpen_port .p1, s.examineOpen_port .p2⟩

theorem told_queued {a : Answer} {kind tag : Nat} {k : Notice} : told (a.queued kind tag) k ↔ told a.state k := Iff.rfl

/-- Only the host link is changed by the transmitter's choice. -/
theorem State.hostKick_rest (s : State) (h : HostLink) : { s.hostKick with hl := h } = { s with hl := h } := by
  unfold State.hostKick State.startNotice
  repeat' split
  all_goals rfl

/-- The transmitter's choice sets no flag. -/
theorem State.flagged_hostKick_of_clear {s : State} {k : Notice} (clear : s.hl.flagged k = false) :
    s.hostKick.hl.flagged k = false := by
  unfold State.hostKick
  repeat' split
  all_goals first | exact clear | simp [State.flagged_startNotice, clear]

theorem State.hostKick_tx_of_some {s : State} (busy : s.hl.tx.isSome = true) : s.hostKick = s :=
  State.hostKick_of_busy (by simp [State.hostTxIdle, busy])

section
variable (s : State) (i anchor offset count enabled : Nat)

theorem State.reqSetWindow_range
    (outside : i = 0 ∨ 4 < i ∨ 1 < anchor ∨ 31 < offset ∨ count = 0 ∨ 32 < count ∨ 1 < enabled) :
    s.reqSetWindow i anchor offset count enabled = s.refuse .range := by
  by_cases anchors : anchor ≤ 1
  · by_cases enables : enabled ≤ 1
    · rw [State.reqSetWindow, anchorOfCode_of_le anchors, flagOfCode_of_le enables]
      exact if_pos (by omega)
    · rw [State.reqSetWindow, flagOfCode_eq_none (Nat.lt_of_not_le enables)]
      cases anchorOfCode anchor <;> rfl
  · simp only [State.reqSetWindow, anchorOfCode_eq_none (Nat.lt_of_not_le anchors)]

theorem State.reqSetWindow_accepted (hi : 1 ≤ i) (hi' : i ≤ 4) (anchors : anchor ≤ 1) (offsets : offset ≤ 31) (pos : 1 ≤ count)
    (counts : count ≤ 32) (enables : enabled ≤ 1) :
    s.reqSetWindow i anchor offset count enabled = (s.modDcu fun d => { d with
      windows := d.windows.set (i - 1) (Window.mk (if anchor = 0 then .front else .rear) offset count (enabled == 1)) }).accept
        noFields := by
  rw [State.reqSetWindow, anchorOfCode_of_le anchors, flagOfCode_of_le enables]
  exact if_neg (by omega)

end

section
variable {s : State} (slot : takesSlot s) (tag v : Nat)
include slot

theorem exec_setWindow (i anchor offset count enabled : Nat) :
    exec (.setWindow tag [i, anchor, offset, count, enabled]) s =
      .next (((s.holding 0x08 tag [i, anchor, offset, count, enabled]).reqSetWindow i anchor offset count enabled).queued
        0x08 tag).hostKick :=
  State.request_done slot rfl tag _

theorem exec_setNotices (m1 m0 : Nat) :
    exec (.setNotices tag [m1, m0]) s =
      .next (((s.holding 0x16 tag [m1, m0]).reqSetNotices (m1 * 256 + m0)).queued 0x16 tag).hostKick :=
  State.request_done slot rfl tag _

theorem exec_isolateLeaves :
    exec (.isolateLeaves tag [v]) s = .next (((s.holding 0x13 tag [v]).reqIsolateLeaves v).queued 0x13 tag).hostKick :=
  State.request_done slot rfl tag _

theorem exec_setStandstill :
    exec (.setStandstill tag [v]) s = .next (((s.holding 0x0B tag [v]).reqSetStandstill v).queued 0x0B tag).hostKick :=
  State.request_done slot rfl tag _

/-- A kind that leaves the mask leaves the pending set (09 R177). -/
theorem exec_setNotices_accepted (m1 m0 : Nat) (small : m1 * 256 + m0 < 4096) :
    completes (exec (.setNotices tag [m1, m0]) s) fun t =>
      t.hl.mask = BitVec.ofNat 12 (m1 * 256 + m0) ∧ { t with hl := s.hl } = s ∧
      t.hl.replies = s.hl.replies ++ [{ kind := 0x16, tag, status := .ok, fields := [] }] ∧
      ∀ k, s.hl.masked k = true → t.hl.masked k = false → t.hl.flagged k = false ∧
        (s.hl.tx.isSome = true → t.hl.tx = s.hl.tx) := by
  refine ⟨_, exec_setNotices slot tag m1 m0, ?_⟩
  rw [State.reqSetNotices, if_neg (Nat.not_le.mpr small)]
  refine ⟨State.hostKick_hl_mask _, State.hostKick_rest _ _, State.hostKick_hl_replies _, fun k _ out => ⟨?_, fun busy => ?_⟩⟩
  · refine State.flagged_hostKick_of_clear ?_
    rw [HostLink.masked, State.hostKick_hl_mask] at out
    change (s.hl.notices &&& BitVec.ofNat 12 (m1 * 256 + m0)).getLsbD (noticeBit k) = false
    rw [BitVec.getLsbD_and]
    exact Bool.and_eq_false_imp.mpr fun _ => out
  · rw [State.hostKick_tx_of_some (by exact busy)]
    rfl

/-- A changed isolation set raises LEAF and re-examines the open timer (07 R122, R123). -/
theorem exec_isolateLeaves_changed (changed : s.dcu.isolated ≠ BitVec.ofNat 8 v) :
    completes (exec (.isolateLeaves tag [v]) s) fun t =>
      t.dcu = { s.dcu with
        isolated := BitVec.ofNat 8 v, boost := t.anyLeafOpen && s.dcu.boost,
        openTimer := if t.anyLeafOpen then (if s.dcu.openTimer.isSome then s.dcu.openTimer else some 0) else none } ∧
      (s.hl.masked .leaf = true → told t .leaf) ∧ t.cc = s.cc ∧ t.se = s.se ∧ t.ha = s.ha ∧ samePorts s t ∧
      t.hl.replies = s.hl.replies ++ [{ kind := 0x13, tag, status := .ok, fields := [] }] ∧ sameSystem s t := by
  refine ⟨_, exec_isolateLeaves slot tag v, ?_⟩
  have owner : (s.holding 0x13 tag [v]).reqIsolateLeaves v =
      (((s.holding 0x13 tag [v]).modDcu fun d => { d with isolated := BitVec.ofNat 8 v }).raise .leaf).examineOpen.accept
        noFields := if_neg changed
  rw [owner]
  generalize eu : ((s.holding 0x13 tag [v]).modDcu fun d => { d with isolated := BitVec.ofNat 8 v }).raise .leaf = u
  have raised := HostLink.raisedFrom_examineOpen u
  have leaves : ((u.examineOpen.accept noFields).queued 0x13 tag).hostKick.anyLeafOpen = u.anyLeafOpen :=
    State.anyLeafOpen_of_settings (by simp [Answer.queued, State.accept, State.examineOpen_dcu])
      (by simp [Answer.queued, State.accept, State.examineOpen_dcu]) (by simp [Answer.queued, State.accept])
  have hu : u.dcu = { s.dcu with isolated := BitVec.ofNat 8 v } ∧ samePorts s u ∧ u.cc = s.cc ∧ u.se = s.se ∧ u.ha = s.ha ∧
      u.sys = s.sys ∧ u.pending = s.pending ∧ u.hl.replies = s.hl.replies ∧ (s.hl.masked .leaf = true → told u .leaf) := by
    rw [← eu]
    exact ⟨rfl, ⟨rfl, rfl⟩, rfl, rfl, rfl, rfl, rfl, rfl, fun masked => told_raise_self masked⟩
  obtain ⟨dcu, ports, cc, se, ha, sys, pending, replies, told_⟩ := hu
  obtain ⟨p1, p2⟩ := u.examineOpen_ports
  refine ⟨?_, fun masked => told_hostKick (told_queued.mpr (told_of_raisedFrom raised (told_ masked))), ?_, ?_, ?_, ⟨?_, ?_⟩, ?_, ?_, ?_⟩
  · rw [leaves]
    simp [Answer.queued, State.accept, State.examineOpen_dcu, dcu]
  · simp [Answer.queued, State.accept, cc]
  · simp [Answer.queued, State.accept, se]
  · simp [Answer.queued, State.accept, ha]
  · simp [Answer.queued, State.accept, p1, ports.1]
  · simp [Answer.queued, State.accept, p2, ports.2]
  · have same : u.examineOpen.hl.replies = u.hl.replies := HostLink.replies_of_still (HostLink.still_of_raisedFrom raised)
    simp [Answer.queued, State.accept, same, replies, noFields]
  · simp [Answer.queued, State.accept, sys]
  · simp [Answer.queued, State.accept, pending]

end

/-- Settles O46: each setting's owner in range and out of range. -/
theorem settingsAreAppliedOrRefused : Obligations.SettingsAreAppliedOrRefused := by
  intro s tag i anchor offset count enabled level m1 m0 v slot
  refine ⟨fun outside => ?_, fun hi hi' anchors offsets pos counts enables => ?_, ?_, fun large => ?_,
    exec_setNotices_accepted slot tag m1 m0, fun same => ?_, exec_isolateLeaves_changed slot tag v, fun outside => ?_, ?_,
    fun quiet => ?_⟩
  · rw [exec_setWindow slot, State.reqSetWindow_range _ _ _ _ _ _ outside, State.refuse_queued]
  · rw [exec_setWindow slot, State.reqSetWindow_accepted _ _ _ _ _ _ hi hi' anchors offsets pos counts enables]
    rfl
  · have small : min 7 level < 256 := by omega
    refine (State.request_done slot rfl tag _).trans ?_
    change Host.Outcome.next (State.hostKick (State.replied { s with ha := { s.ha with level := min 7 level } } 0x0C tag [level]
      .ok [min 7 level % 256])) = _
    rw [Nat.mod_eq_of_lt small]
  · rw [exec_setNotices slot, State.reqSetNotices, if_pos large, State.refuse_queued]
  · have owner : (s.holding 0x13 tag [v]).reqIsolateLeaves v = (s.holding 0x13 tag [v]).accept noFields := if_pos same
    rw [exec_isolateLeaves slot, owner]
    rfl
  · rw [exec_setStandstill slot, State.reqSetStandstill, standstillOfCode_eq_none outside, State.refuse_queued]
  · rw [exec_setStandstill slot]
    rfl
  · have known : (s.dcu.standstill && s.operationalLeader && s.releaseKnown) = false := by
      rcases quiet with h | h | h <;> simp [h]
    have owner : (s.holding 0x0B tag [1]).reqSetStandstill 1 =
        ((s.holding 0x0B tag [1]).modDcu fun d => { d with standstill := false }).accept noFields := by
      exact congrArg (State.accept · noFields) (if_neg (Bool.eq_false_iff.mp known))
    rw [exec_setStandstill slot, owner]
    rfl

end Sys2Proof.Machine
end

section
/-! The Timebase (10 R180) and the power-on and hard resets with their release (10 R181, R182). -/

namespace Sys2Proof.Machine

/-! ### The Timebase -/

/-- An event that is not due, or that comes with the Timebase at rest, has no effect (10 R180). -/
def State.Dormant (s : State) (e : Bool × Instr) : Prop := e.1 = false ∨ s.ticking = false → exec e.2 s = .next s.hostKick

theorem State.dormant_of_guard {s t : State} {due : Bool} {c : Instr}
    (h : exec c s = (if s.ticking && due then t else s).done) : s.Dormant (due, c) := by
  intro rests
  rw [h, if_neg (by rcases rests with late | still <;> simp_all)]
  rfl

theorem State.portDue_dormant (s : State) (p : PortId) : ∀ e ∈ s.portDue p, s.Dormant e := by
  simp only [State.portDue, List.forall_mem_cons, List.not_mem_nil, false_implies, implies_true, and_true]
  refine ⟨?_, ?_, ?_, ?_, ?_, ?_, ?_, ?_, ?_⟩ <;> exact State.dormant_of_guard rfl

theorem State.agingsDue_dormant (s : State) (p : PortId) : ∀ e ∈ s.agingsDue p, s.Dormant e := by
  simp only [State.agingsDue, List.forall_mem_map]
  exact fun c _ => State.dormant_of_guard rfl

theorem State.leafDue_dormant (s : State) : ∀ e ∈ s.leafDue, s.Dormant e := by
  simp only [State.leafDue, List.forall_mem_map]
  exact fun i _ => State.dormant_of_guard rfl

theorem State.allDue_dormant (s : State) : ∀ e ∈ s.allDue, s.Dormant e := by
  simp only [State.allDue, List.forall_mem_append]
  refine ⟨⟨⟨⟨⟨⟨s.agingsDue_dormant .p1, s.agingsDue_dormant .p2⟩, ?_⟩, s.portDue_dormant .p1⟩, s.portDue_dormant .p2⟩,
    s.leafDue_dormant⟩, ?_⟩
  · simp only [List.forall_mem_cons, List.not_mem_nil, false_implies, implies_true, and_true]
    exact State.dormant_of_guard rfl
  · simp only [List.forall_mem_cons, List.not_mem_nil, false_implies, implies_true, and_true]
    refine ⟨?_, ?_, ?_, ?_, ?_, ?_, ?_, ?_, ?_, ?_, ?_, ?_⟩ <;> exact State.dormant_of_guard rfl

theorem State.ticking_of_running {s : State} (running : s.running = true) (clocked : s.clocked = true) : s.ticking = true := by
  simp only [State.running, Bool.and_eq_true] at running
  simp [State.ticking, running.1, clocked]

theorem State.hostKick_of_not_ticking {s : State} (rests : s.ticking = false) : s.hostKick = s := by
  refine State.hostKick_of_busy (Bool.eq_false_iff.mpr fun idle => ?_)
  simp only [State.hostTxIdle, Bool.and_eq_true] at idle
  simp [State.ticking_of_running idle.1.1.1 idle.1.1.2] at rests

theorem tickGuard_eq_bind (t : Timer) : tickGuard t = t.bind fun k => if k < 9 then some (k + 1) else none := by
  cases t with
  | none => rfl
  | some e =>
    simp only [tickGuard, Option.bind_some]
    split <;> split <;> first | rfl | omega

theorem Relay.tick_rest (r : Relay) :
    { r.tick with control := .empty, door := .empty, grant := .empty, sweep := .empty, beat := .empty } =
      { r with control := .empty, door := .empty, grant := .empty, sweep := .empty, beat := .empty } := rfl

theorem ClassQueue.tick_eq (q : ClassQueue) :
    q.tick = { q with waited := if q.frames = [] then q.waited else q.waited + 1 } := by
  unfold ClassQueue.tick
  split <;> rfl

/-- What one tick does at a port. -/
theorem Coupler.tick_eq (c : Coupler) :
    c.tick = { c with
      heldTimer := c.heldTimer.map (· + 1), attemptTimer := c.attemptTimer.map (· + 1),
      retryTimer := c.retryTimer.map (· + 1), patternTimer := c.patternTimer.map (· + 1),
      answerGuard := c.answerGuard.bind fun k => if k < 9 then some (k + 1) else none,
      pairA := { c.pairA with silence := c.pairA.silence.map (· + 1) },
      pairB := { c.pairB with silence := c.pairB.silence.map (· + 1) } } := by
  rw [← tickGuard_eq_bind]
  rfl

theorem State.tick_port {s : State} (ticks : s.ticking = true) (p : PortId) : s.tick.port p = (s.port p).tick := by
  rw [State.tick, if_pos ticks]
  cases p <;> rfl

@[simp] theorem State.hostKick_port (s : State) (p : PortId) : s.hostKick.port p = s.port p := by
  cases p
  · exact s.hostKick_port1
  · exact s.hostKick_port2

@[simp] theorem State.hostKick_cp (s : State) (p : PortId) : s.hostKick.cp p = s.cp p := congrArg Port.cp (s.hostKick_port p)

@[simp] theorem State.hostKick_lr (s : State) (p : PortId) : s.hostKick.lr p = s.lr p := congrArg Port.lr (s.hostKick_port p)

@[simp] theorem State.hostKick_nm (s : State) (p : PortId) : s.hostKick.nm p = s.nm p := congrArg Port.nm (s.hostKick_port p)

theorem State.step_of_quiet {s : State} (empty : s.pending = []) (quiet : s.dueEvent = none) : step s = s.tick.done := by
  rw [step, empty]
  change s.idle = _
  rw [State.idle, quiet]

/-- Settles O2: each expiry and aging is guarded by its timer and the Timebase; on an empty queue the first due one is taken, or
one tick passes. -/
theorem timebaseTicksWhileRefclkRuns : Obligations.TimebaseTicksWhileRefclkRuns := by
  intro s b
  refine ⟨rfl, fun running => ?_, fun due c mem => s.allDue_dormant _ mem, fun empty => ⟨fun rests => ?_, fun c due => ?_,
    fun ticks quiet => ?_⟩⟩
  · change (if s.running then _ else s).done = _
    rw [if_pos running]
    rfl
  · rw [State.step_of_quiet empty (by simp [State.dueEvent, rests]), State.tick, if_neg (by simp [rests])]
    exact congrArg _ (State.hostKick_of_not_ticking rests)
  · rw [step, empty]
    change s.idle = _
    rw [State.idle, due]
  · rw [State.step_of_quiet empty quiet]
    have whole := State.tick_port ticks
    refine completes_done ?_
    refine ⟨?_, ?_, ?_, ?_, ?_, ?_, fun p => ?_⟩
    · simp only [State.hostKick_sys, State.tick, ticks, if_true, tickTimer]
    · simp only [State.hostKick_cc, State.tick, ticks, if_true, tickTimer]
    · simp only [State.hostKick_se, State.tick, ticks, if_true, tickTimer]
    · simp only [State.hostKick_ha, State.tick, ticks, if_true, tickTimer]
    · simp only [State.hostKick_dcu, State.tick, ticks, if_true, tickTimer]
    · simp only [State.hostKick_hl_frameTimer, State.tick, ticks, if_true, tickTimer]
    · have port : s.tick.hostKick.port p = (s.port p).tick := by rw [← whole p, State.hostKick_port]
      refine ⟨?_, ?_, fun apart => ?_, fun linked => ⟨fun c => ?_, ?_⟩⟩
      · exact congrArg Port.nm port
      · exact (congrArg Port.cp port).trans (Coupler.tick_eq _)
      · exact (congrArg Port.lr port).trans (if_neg apart)
      · refine (congrArg (Relay.queue · c) ((congrArg Port.lr port).trans (if_pos linked))).trans ?_
        cases c <;> exact ClassQueue.tick_eq _
      · rw [show s.tick.hostKick.lr p = (s.lr p).tick from (congrArg Port.lr port).trans (if_pos linked), Relay.tick_rest]

/-! ### Resets and their release -/

theorem State.hostKick_anyLeafOpen (s : State) : s.hostKick.anyLeafOpen = s.anyLeafOpen :=
  State.anyLeafOpen_of_settings (by simp) (by simp) (by simp)

theorem State.examineOpen_anyLeafOpen (s : State) : s.examineOpen.anyLeafOpen = s.anyLeafOpen :=
  State.anyLeafOpen_of_settings (by simp [State.examineOpen_dcu]) (by simp [State.examineOpen_dcu]) (by simp)

theorem State.examineOpen_openTimer_isSome (s : State) : s.examineOpen.dcu.openTimer.isSome = s.examineOpen.anyLeafOpen := by
  rw [State.examineOpen_anyLeafOpen, State.examineOpen_dcu]
  cases s.anyLeafOpen
  · rfl
  · cases s.dcu.openTimer <;> rfl

theorem HostLink.rateHigh_of_raisedFrom {h h' : HostLink} (raised : h.raisedFrom h') : h'.rateHigh = h.rateHigh := by
  obtain ⟨n, rfl⟩ := raised
  rfl

theorem State.hostKick_of_inReset {s : State} (reset : s.inReset = true) : s.hostKick = s :=
  State.hostKick_of_not_ticking (by simp [State.ticking, reset])

/-- In a reset the transmitter chooses nothing. -/
theorem completes_done_of_inReset {s : State} {P : State → Prop} (reset : s.inReset = true) (h : P s) : completes s.done P :=
  completes_done ((State.hostKick_of_inReset reset).symm ▸ h)

theorem State.hardReset_blocks (s : State) : blocksReset s s.hardReset :=
  ⟨fun p => by cases p <;> exact ⟨rfl, rfl, rfl⟩, rfl, rfl, rfl, rfl, rfl⟩

theorem Sys.releases_power_iff (y : Sys) : y.releases .power = true ↔ y.porAsserted = true ∧ y.refclkStopped = false := by
  simp [Sys.releases]

theorem State.releaseLine_last {s : State} {line : ResetLine} {r : Bool} (can : s.sys.releases line = true)
    (por : (s.sys.release line).porAsserted = false) (pin : (s.sys.release line).pinAsserted = false) :
    s.releaseLine line r = State.releaseReset { s with sys := s.sys.release line } r := by
  rw [State.releaseLine, if_pos can]
  exact if_neg (by simp [State.inReset, por, pin])

theorem State.releaseLine_early {s : State} {line : ResetLine} {r : Bool} (can : s.sys.releases line = true)
    (por : s.sys.porAsserted = true) (pin : s.sys.pinAsserted = true) :
    s.releaseLine line r = { s with sys := s.sys.release line } := by
  rw [State.releaseLine, if_pos can]
  exact if_pos (by cases line <;> simp [State.inReset, Sys.release, por, pin])

/-- Settles O4: both resets give every block its reset values; the release by its three cases. -/
theorem resetsRestoreEveryBlockAndReleaseStartsUp : Obligations.ResetsRestoreEveryBlockAndReleaseStartsUp := by
  intro s line r
  refine ⟨completes_done_of_inReset (s := s.powerDown) rfl ⟨s.hardReset_blocks, rfl, rfl⟩,
    completes_done_of_inReset (s := s.assertPin) (Bool.or_true _) ⟨s.hardReset_blocks, rfl, rfl⟩, ?_, Iff.rfl, fun cannot => ?_,
    fun can por pin => ?_, fun can por pin => ?_⟩
  · rw [Sys.releases_power_iff, State.clocked, Bool.not_eq_true']
  · change (s.releaseLine line r).done = _
    rw [State.releaseLine, if_neg (by simp [cannot])]
    rfl
  · change (s.releaseLine line r).done = _
    rw [State.releaseLine_early can por pin]
    exact congrArg _ (State.hostKick_of_inReset (by cases line <;> simp [State.inReset, Sys.release, por, pin]))
  · change completes (s.releaseLine line r).done _
    rw [State.releaseLine_last can por pin, State.releaseReset]
    refine completes_done ?_
    simp only [State.hostKick_anyLeafOpen, State.hostKick_dcu, State.examineOpen_openTimer_isSome]
    simp only [State.hostKick_sys, State.hostKick_cc, State.hostKick_se, State.hostKick_ha, State.hostKick_hl_rateHigh,
      State.hostKick_pending, State.hostKick_cp, State.hostKick_lr, State.hostKick_nm, State.examineOpen_cp,
      State.examineOpen_lr, State.examineOpen_nm, State.examineOpen_dcu, State.examineOpen_sys, State.examineOpen_cc,
      State.examineOpen_se, State.examineOpen_ha, State.examineOpen_pending, true_and]
    refine ⟨HostLink.rateHigh_of_raisedFrom (HostLink.raisedFrom_examineOpen _), ?_, fun p => ?_⟩
    · exact List.map_congr_left fun _ _ => rfl
    · cases p <;> exact ⟨rfl, rfl, rfl⟩

end Sys2Proof.Machine
end

section
/-! The leaf inputs (07 R121, R123), and what the receivers of a port's pairs count (01 R1, R2, R18, R19, R23). -/

namespace Sys2Proof.Machine

/-! ### Leaf inputs -/

theorem exec_leafInputChange {s : State} {i : Nat} {l : Leaf} (at_ : s.dcu.leaves[i]? = some l) (c : Bool) :
    exec (.leafInputChange (i + 1) c) s =
      (s.modDcu fun d => { d with leaves := d.leaves.set i (l.rawChange c s.inReset) }).done := by
  change (s.modDcu fun d => { d with leaves := d.leaves.modify i fun l => l.rawChange c s.inReset }).done = _
  rw [State.modDcu, List.modify_eq_set_getElem?, at_]
  rfl

theorem exec_leafDebounce {s : State} {i : Nat} {l : Leaf} (at_ : s.dcu.leaves[i]? = some l) (ticks : s.ticking = true)
    (due : timerDue l.stab 20 = true) : exec (.leafDebounce (i + 1)) s = (s.adoptLeaf i).done := by
  have entry : s.dcu.leaves.getD i Leaf.reset = l := by simp [List.getD_eq_getElem?_getD, at_]
  change (if s.expires (s.dcu.leaves.getD i Leaf.reset).stab 20 then s.adoptLeaf i else s).done = _
  rw [if_pos (by rw [entry, State.expires, ticks, due]; rfl)]

/-- The debounced level of a leaf input takes the raw level. -/
def State.leafTaken (s : State) (i : Nat) (l : Leaf) : State :=
  s.modDcu fun d => { d with leaves := d.leaves.set i { l with closed := l.raw, stab := none } }

theorem State.adoptLeaf_same {s : State} {i : Nat} {l : Leaf} (at_ : s.dcu.leaves[i]? = some l) (same : l.raw = l.closed) :
    s.adoptLeaf i = s.leafTaken i l := by
  have entry : s.dcu.leaves.getD i Leaf.reset = l := by simp [List.getD_eq_getElem?_getD, at_]
  simp only [State.adoptLeaf, entry]
  exact if_pos same

theorem State.adoptLeaf_changed {s : State} {i : Nat} {l : Leaf} (at_ : s.dcu.leaves[i]? = some l) (changed : l.raw ≠ l.closed) :
    s.adoptLeaf i = ((s.leafTaken i l).raise .leaf).examineOpen := by
  have entry : s.dcu.leaves.getD i Leaf.reset = l := by simp [List.getD_eq_getElem?_getD, at_]
  simp only [State.adoptLeaf, entry]
  exact if_neg changed

/-- Settles O9: a raw change and the debounce of a leaf by whether the level changes, and the boost. -/
theorem leafInputsDebounceAndTimeOpenDoors : Obligations.LeafInputsDebounceAndTimeOpenDoors := by
  intro s i c _
  refine ⟨fun l at_ => ⟨?_, fun ticks due => ?_⟩, fun ticks due unboosted => ?_⟩
  · rw [exec_leafInputChange at_]
    refine completes_done ⟨?_, ?_, ?_, ?_, ?_, ?_, sameHost_hostKick rfl⟩
    all_goals simp [Leaf.rawChange, sameSystem, samePorts]
  · rw [exec_leafDebounce at_ ticks due]
    by_cases same : l.raw = l.closed
    · rw [State.adoptLeaf_same at_ same]
      refine completes_done ?_
      simp [same, State.leafTaken, sameSystem, samePorts, sameHost, State.hostKick_still]
    · rw [State.adoptLeaf_changed at_ same]
      have raised := HostLink.raisedFrom_examineOpen ((s.leafTaken i l).raise .leaf)
      refine completes_done ⟨?_, fun _ masked => ?_, fun _ => ?_, fun _ => ?_, fun h => absurd h same, ?_⟩
      · simp [State.examineOpen_dcu, State.leafTaken]
      · exact told_hostKick (told_of_raisedFrom raised (told_raise_self (s := s.leafTaken i l) masked))
      · rw [State.hostKick_anyLeafOpen, State.examineOpen_anyLeafOpen, State.hostKick_dcu, State.examineOpen_dcu]
        rfl
      · rw [State.hostKick_anyLeafOpen, State.examineOpen_anyLeafOpen, State.hostKick_dcu, State.examineOpen_dcu]
        rfl
      · have host : sameHost s ((s.leafTaken i l).raise .leaf).examineOpen :=
          HostLink.still_of_raisedFrom (HostLink.raisedFrom_trans (HostLink.raisedFrom_raise s.hl .leaf) raised)
        have ports := State.examineOpen_ports ((s.leafTaken i l).raise .leaf)
        refine ⟨?_, ?_, ?_, ⟨?_, ?_⟩, ?_, ?_, ?_, ?_, sameHost_hostKick host⟩
        · simp [State.examineOpen_dcu, State.leafTaken]
        · simp [State.examineOpen_dcu, State.leafTaken]
        · simp [State.examineOpen_dcu, State.leafTaken]
        · simp [State.leafTaken]
        · simp [State.leafTaken]
        · exact ⟨(State.hostKick_port1 _).trans ports.1, (State.hostKick_port2 _).trans ports.2⟩
        · simp [State.leafTaken]
        · simp [State.leafTaken]
        · simp [State.leafTaken]
  · change (if s.ticking && s.boostDue then _ else s).done = _
    rw [if_pos (by simp [State.boostDue, ticks, due, unboosted])]
    rfl

/-! ### What a port's own change leaves alone -/

/-- Of the state only port p's coupler block and the notices to the host have changed. -/
structure OnlyCoupler (s t : State) (p : PortId) : Prop where
  lr : t.lr p = s.lr p
  nm : t.nm p = s.nm p
  other : t.port (other p) = s.port (other p)
  node : sameNode s t
  system : sameSystem s t
  host : sameHost s t

namespace OnlyCoupler

theorem modCp (s : State) (p : PortId) (f : Coupler → Coupler) : OnlyCoupler s (s.modCp p f) p where
  lr := by simp
  nm := by simp
  other := by simp
  node := by simp [sameNode]
  system := by simp [sameSystem]
  host := by simp [sameHost]

theorem raiseIf (s : State) (p : PortId) (b : Bool) (k : Notice) : OnlyCoupler s (s.raiseIf b k) p where
  lr := by cases b <;> rfl
  nm := by cases b <;> rfl
  other := by cases b <;> rfl
  node := by simp [sameNode]
  system := by simp [sameSystem]
  host := State.raiseIf_still s b k

theorem raise (s : State) (p : PortId) (k : Notice) : OnlyCoupler s (s.raise k) p := raiseIf s p true k

theorem hostKick (s : State) (p : PortId) : OnlyCoupler s s.hostKick p where
  lr := by simp
  nm := by simp
  other := by simp
  node := by simp [sameNode]
  system := by simp [sameSystem]
  host := State.hostKick_still s

variable {s t u : State} {p : PortId}

theorem trans (h : OnlyCoupler s t p) (k : OnlyCoupler t u p) : OnlyCoupler s u p where
  lr := k.lr.trans h.lr
  nm := k.nm.trans h.nm
  other := k.other.trans h.other
  node := ⟨k.node.1.trans h.node.1, k.node.2.1.trans h.node.2.1, k.node.2.2.1.trans h.node.2.2.1, k.node.2.2.2.trans h.node.2.2.2⟩
  system := ⟨k.system.1.trans h.system.1, k.system.2.trans h.system.2⟩
  host := k.host.trans h.host

theorem kicked (h : OnlyCoupler s t p) : OnlyCoupler s t.hostKick p := h.trans (hostKick t p)

end OnlyCoupler

/-! ### Receiver events -/

theorem Coupler.modPair_rest (c : Coupler) (q : PairId) (f : Pair → Pair) (a b : Pair) :
    { c.modPair q f with pairA := a, pairB := b } = { c with pairA := a, pairB := b } := by cases q <;> rfl

theorem Coupler.modPair_preferred {c : Coupler} {q : PairId} {f : Pair → Pair}
    (health : (f (c.pair q)).degraded = (c.pair q).degraded) : (c.modPair q f).preferred = c.preferred := by
  cases q <;> simp_all [Coupler.preferred_eq_ite, Coupler.modPair, Coupler.pair]

/-- The held-copy timer of a port after a pair took a character (01 R22). -/
def Coupler.heldTimerTaken (c : Coupler) (q : PairId) : Timer :=
  if q = c.preferred ∧ c.held.isSome = true then some 0 else c.heldTimer

theorem Coupler.characterTaken_eq (c : Coupler) (q : PairId) :
    c.characterTaken q = { c with heldTimer := c.heldTimerTaken q } := by
  unfold Coupler.characterTaken Coupler.heldTimerTaken
  split <;> rfl

theorem Coupler.heldTimerTaken_modPair {c : Coupler} {q : PairId} {f : Pair → Pair}
    (health : (f (c.pair q)).degraded = (c.pair q).degraded) : (c.modPair q f).heldTimerTaken q = c.heldTimerTaken q := by
  simp [Coupler.heldTimerTaken, Coupler.modPair_preferred health]

/-- Settles O10: each event of a framing pair's receiver. -/
theorem receiverEventsCountOnTheirPair : Obligations.ReceiverEventsCountOnTheirPair := by
  intro s p q char frames
  refine ⟨?_, fun closed => ⟨?_, ?_⟩, ?_⟩
  · change (if s.framing p q then _ else s).done = _
    rw [if_pos frames]
    rfl
  · change (if ((s.cp p).pair q).inFrame then _ else if s.framing p q then _ else s).done = _
    rw [if_neg (by simp [closed]), if_pos frames]
    rfl
  · change (if ((s.cp p).pair q).inFrame then _ else s).done = _
    rw [if_neg (by simp [closed])]
    rfl
  · change completes (if s.framing p q then _ else s).done _
    rw [if_pos frames, State.modCp_congr (g := fun c =>
      { c.modPair q (Pair.takeCharacter · char) with heldTimer := c.heldTimerTaken q })
      (by rw [Coupler.characterTaken_eq, Coupler.heldTimerTaken_modPair rfl])]
    obtain ⟨lr, nm, port, node, system, host⟩ := (OnlyCoupler.modCp s p _).kicked
    refine completes_done ⟨?_, ?_, ?_, ?_, lr, nm, port, system, node, host⟩
    · rw [State.hostKick_cp, State.modCp_cp]
      cases q <;> rfl
    · rw [State.hostKick_cp, State.modCp_cp]
      cases q <;> rfl
    · rw [State.hostKick_cp, State.modCp_cp]
      cases q <;> rfl
    · rw [State.hostKick_cp, State.modCp_cp]
      rfl

end Sys2Proof.Machine
end

section
/-! Pair health: bad frames, BREAK and silence (01 R2, R18, R19, R23). -/

namespace Sys2Proof.Machine

/-! ### Changes of a port's blocks in a row -/

theorem State.modCp_modCp (s : State) (p : PortId) (f g : Coupler → Coupler) :
    (s.modCp p f).modCp p g = s.modCp p fun c => g (f c) := by cases p <;> rfl

theorem Coupler.modPair_modPair (c : Coupler) (q : PairId) (f g : Pair → Pair) :
    (c.modPair q f).modPair q g = c.modPair q fun x => g (f x) := by cases q <;> rfl

/-! ### A pair's change with no held copy -/

theorem State.deliverHeld_of_none {s : State} {p : PortId} (none : (s.cp p).held = none) : s.deliverHeld p = s := by
  rw [State.deliverHeld, none]

/-- Two changes of one pair, the second of them a change of health, where no held copy waits. -/
theorem State.modCp_changePair {s : State} {p : PortId} {q : PairId} {f g : Pair → Pair} (none : (s.cp p).held = none)
    (health : (f ((s.cp p).pair q)).degraded = ((s.cp p).pair q).degraded) :
    (s.modCp p fun c => c.modPair q f).changePair p q g =
      (s.modCp p fun c => c.modPair q fun x => g (f x)).raiseIf
        (((s.cp p).pair q).degraded != (g (f ((s.cp p).pair q))).degraded) .port := by
  rw [State.changePair_of_none (by simpa using none), State.modCp_modCp]
  simp [Coupler.modPair_modPair, health]

/-- What such a change leaves of the state: one pair has changed, and PORT is raised with its health. -/
theorem completes_modPair {s : State} {p : PortId} {q : PairId} {f : Pair → Pair} {b : Bool} {P : State → Prop}
    (h : ∀ t, t.cp p = (s.cp p).modPair q f → OnlyCoupler s t p → (b = true → s.hl.masked .port = true → told t .port) → P t) :
    completes ((s.modCp p fun c => c.modPair q f).raiseIf b .port).done P := by
  refine completes_done (h _ ?_ ?_ fun change masked => ?_)
  · simp
  · exact ((OnlyCoupler.modCp s p _).trans (OnlyCoupler.raiseIf _ p b .port)).kicked
  · subst change
    exact told_hostKick (told_raise_self (s := s.modCp p _) (by simpa using masked))

/-! ### Bad frames -/

theorem State.framing_of_linked {s : State} {p : PortId} (clocked : s.clocked = true) (linked : (s.cp p).st = .linked)
    (q : PairId) : s.framing p q = true := by simp [State.framing, Coupler.framing, clocked, linked]

theorem Pair.countBad_degraded (x : Pair) (cause : BadCause) : (x.countBad cause).degraded = x.degraded := by cases cause <;> rfl

theorem State.badFrame_of_linked {s : State} {p : PortId} {q : PairId} (cause : BadCause) (clocked : s.clocked = true)
    (linked : (s.cp p).st = .linked) (none : (s.cp p).held = none) :
    s.badFrame p q cause = (s.modCp p fun c => c.modPair q fun x => (x.closeFrame.countBad cause).badFrame).raiseIf
      (((s.cp p).pair q).degraded != ((((s.cp p).pair q).closeFrame.countBad cause).badFrame).degraded) .port := by
  rw [State.badFrame, if_pos (State.framing_of_linked clocked linked q), linked]
  have held : ((s.modCp p fun c => c.modPair q fun x => x.closeFrame.countBad cause).cp p).held = .none := by simpa using none
  simp only [State.deliverHeld_of_none held, ite_self]
  exact State.modCp_changePair none (by rw [Pair.countBad_degraded]; rfl)

/-- What a bad frame makes of its pair (01 R2, R18, R19). -/
theorem Pair.badFrame_eq (x : Pair) (cause : BadCause) :
    (x.closeFrame.countBad cause).badFrame = { x with
      inFrame := false,
      crcErrors := if cause = .crc then min 65535 (x.crcErrors + 1) else x.crcErrors,
      framingErrors := if cause = .crc then x.framingErrors else min 65535 (x.framingErrors + 1),
      score := min 15 (x.score + 4), degraded := decide (12 ≤ min 15 (x.score + 4)) || x.degraded,
      badSince := min 255 (x.badSince + 1), silence := some 0, deliveredSince := false } := by
  have positive : min 15 (x.score + 4) ≠ 0 := by omega
  cases cause <;> cases degraded : x.degraded <;>
    simp [Pair.badFrame, Pair.charge, Pair.withScore, Pair.restartSilence, Pair.closeFrame, Pair.countBad, degraded, positive,
      inc16, inc8]

/-- Settles O11: a bad frame on a LINKED pair changes that pair alone. -/
theorem badFrameChargesItsPair : Obligations.BadFrameChargesItsPair := by
  intro s p q cause clocked linked none
  refine ⟨?_, fun inFrame => ⟨?_, ?_⟩⟩
  · change completes (s.badFrame p q cause).done _
    rw [State.badFrame_of_linked cause clocked linked none]
    refine completes_modPair fun t cp ⟨lr, nm, port, node, system, host⟩ tells =>
      ⟨?_, ?_, ?_, fun reached good masked => tells ?_ masked, lr, nm, port, system, node, host⟩
    · rw [cp, Coupler.modPair_pair, Pair.badFrame_eq]
    · rw [cp, Coupler.modPair_pair_other]
    · rw [cp, Coupler.modPair_rest]
    · rw [Pair.badFrame_eq, good]
      simp
      omega
  · change (if ((s.cp p).pair q).inFrame then _ else _ : State).done = _
    rw [if_pos inFrame]
    rfl
  · change (if ((s.cp p).pair q).inFrame then _ else _ : State).done = _
    rw [if_pos inFrame]
    rfl

end Sys2Proof.Machine
end

section
/-! The pass window of a scanned pair (01 R10). -/

namespace Sys2Proof.Machine

/-- A run reaches as far as the positions from its start on pass, counted circularly, and at most all of them. -/
theorem le_runLength_iff (passes : List Bool) (k m : Nat) :
    m ≤ runLength passes k ↔ m ≤ 16 ∧ ∀ i < m, passes.getD ((k + i) % 16) false = true := by
  rw [runLength, List.takeWhile_eq_take_findIdx_not, List.length_take, List.length_range, le_min_iff, and_comm]
  refine and_congr_right fun within => ⟨fun le i lt => ?_, fun all => ?_⟩
  · simpa using List.not_of_lt_findIdx (Nat.lt_of_lt_of_le lt le)
  · by_contra short
    have reached : (List.range 16).findIdx (fun i => !passes.getD ((k + i) % 16) false) < (List.range 16).length := by
      rw [List.length_range]
      omega
    have fails := List.findIdx_getElem (w := reached)
    rw [List.getElem_range, all _ (by omega)] at fails
    exact Bool.noConfusion fails

/-- The best run among the first starts: none is longer, and none of its length starts lower. -/
structure BestRun (passes : List Bool) (n : Nat) (best : Nat × Nat) : Prop where
  run : best.2 ≤ runLength passes best.1
  longest : ∀ k < n, runLength passes k ≤ best.2
  lowest : ∀ k < n, runLength passes k = best.2 → 0 < best.2 → best.1 ≤ k
  start : 0 < best.2 → best.1 < n

theorem BestRun.foldl (passes : List Bool) (n : Nat) :
    BestRun passes n ((List.range n).foldl
      (fun best k => if best.2 < runLength passes k then (k, runLength passes k) else best) (0, 0)) := by
  induction n with
  | zero => exact ⟨Nat.zero_le _, by simp, by simp, by simp⟩
  | succ n ih =>
    rw [List.range_succ, List.foldl_append, List.foldl_cons, List.foldl_nil]
    split
    · next longer =>
      refine ⟨le_rfl, fun k lt => ?_, fun k lt same pos => ?_, fun _ => Nat.lt_succ_self n⟩
      · rcases Nat.lt_succ_iff_lt_or_eq.mp lt with lt | rfl
        · exact (ih.longest k lt).trans longer.le
        · exact le_rfl
      · rcases Nat.lt_succ_iff_lt_or_eq.mp lt with lt | rfl
        · have := ih.longest k lt
          simp only at same
          omega
        · exact le_rfl
    · next notLonger =>
      refine ⟨ih.run, fun k lt => ?_, fun k lt same pos => ?_, fun pos => (ih.start pos).trans (Nat.lt_succ_self n)⟩
      · rcases Nat.lt_succ_iff_lt_or_eq.mp lt with lt | rfl
        · exact ih.longest k lt
        · exact Nat.not_lt.mp notLonger
      · rcases Nat.lt_succ_iff_lt_or_eq.mp lt with lt | rfl
        · exact ih.lowest k lt same pos
        · exact (ih.start pos).le

theorem allPass_iff {passes : List Bool} (sixteen : passes.length = 16) :
    ((List.range 16).all fun i => passes.getD i false) = true ↔ ∀ x ∈ passes, x = true := by
  simp only [List.all_eq_true, List.mem_range, List.forall_mem_iff_getElem, sixteen]
  refine forall₂_congr fun i lt => ?_
  rw [List.getD_eq_getElem _ _ (by omega)]

/-- Settles O12: the fold keeps the best run among the starts it has seen. -/
theorem passWindowIsTheWidestLowestRun : Obligations.PassWindowIsTheWidestLowestRun := by
  intro passes sixteen
  have best : BestRun passes 16 (passWindow passes) := BestRun.foldl passes 16
  refine ⟨((le_runLength_iff _ _ _).mp best.run).2, fun k lt m short all => ?_, ?_⟩
  · have reach : m ≤ runLength passes k := (le_runLength_iff _ _ _).mpr ⟨by omega, all⟩
    have longest := best.longest k lt
    exact ⟨reach.trans longest, fun ⟨same, pos⟩ => best.lowest k lt (by omega) (by omega)⟩
  · exact if_congr (allPass_iff sixteen) rfl rfl

end Sys2Proof.Machine
end

section
/-! What an event at one port leaves alone elsewhere, and the loss of a port's neighbour (03 R54, 04 R66 to R68). -/

namespace Sys2Proof.Machine

/-! ### Frames offered at a port depend on that port alone -/

section
variable {s t : State} {p : PortId} (same : s.port p = t.port p)
include same

theorem State.startPattern_port_congr : (s.startPattern p).port p = (t.startPattern p).port p := by
  have port (u : State) : (u.startPattern p).port p = { u.port p with
      lr := { (u.port p).lr with tx := some (.pattern (u.port p).cp.patternReady (u.port p).cp.rate) },
      cp := { (u.port p).cp.hearOwn with patternDue := false, answerGuard := some 0 } } := by
    cases p <;> rfl
  rw [port, port, same]

theorem State.startFrame_port_congr (c : Cls) : (s.startFrame p c).port p = (t.startFrame p c).port p := by
  have cp : s.cp p = t.cp p := congrArg Port.cp same
  have lr : s.lr p = t.lr p := congrArg Port.lr same
  unfold State.startFrame
  rw [lr]
  split
  · exact same
  · rw [cp]
    cases p <;> simp only [State.modCp, State.modLr, State.setPort, State.port] at same ⊢ <;> rw [same]

theorem State.kickLine_port_congr : (s.kickLine p).port p = (t.kickLine p).port p := by
  have cp : s.cp p = t.cp p := congrArg Port.cp same
  have lr : s.lr p = t.lr p := congrArg Port.lr same
  unfold State.kickLine
  rw [cp, lr]
  split
  · exact same
  · split
    · exact State.startPattern_port_congr same
    · split
      · split
        · exact same
        · exact State.startFrame_port_congr same _
      · exact same

theorem State.modLr_port_congr (f : Relay → Relay) : (s.modLr p f).port p = (t.modLr p f).port p := by
  have port (u : State) : (u.modLr p f).port p = { u.port p with lr := f (u.port p).lr } := by cases p <;> rfl
  rw [port, port, same]

/-- What a port makes of an offered frame depends on that port alone. -/
theorem State.offer_port_congr (f : Frame) : (s.offer p f).port p = (t.offer p f).port p := by
  have cp : s.cp p = t.cp p := congrArg Port.cp same
  unfold State.offer
  rw [cp]
  split
  · exact same
  · split
    · exact State.kickLine_port_congr (State.modLr_port_congr same _)
    · exact State.modLr_port_congr same _

end

/-! ### Events at one port -/

/-- Of the state only port p and the notices to the host have changed. -/
structure OnlyPort (s t : State) (p : PortId) : Prop where
  other : t.port (other p) = s.port (other p)
  node : sameNode s t
  system : sameSystem s t
  raised : s.hl.raisedFrom t.hl

theorem sameNode.trans {s t u : State} (h : sameNode s t) (k : sameNode t u) : sameNode s u :=
  ⟨k.1.trans h.1, k.2.1.trans h.2.1, k.2.2.1.trans h.2.2.1, k.2.2.2.trans h.2.2.2⟩

theorem sameSystem.trans {s t u : State} (h : sameSystem s t) (k : sameSystem t u) : sameSystem s u :=
  ⟨k.1.trans h.1, k.2.trans h.2⟩

theorem HostLink.masked_of_raisedFrom {h h' : HostLink} (raised : h.raisedFrom h') (k : Notice) : h'.masked k = h.masked k :=
  HostLink.masked_of_still (HostLink.still_of_raisedFrom raised) k

namespace OnlyPort

theorem refl (s : State) (p : PortId) : OnlyPort s s p := ⟨rfl, ⟨rfl, rfl, rfl, rfl⟩, ⟨rfl, rfl⟩, HostLink.raisedFrom_refl _⟩

theorem modCp (s : State) (p : PortId) (f : Coupler → Coupler) : OnlyPort s (s.modCp p f) p :=
  ⟨by simp, by simp [sameNode], by simp [sameSystem], by simpa using HostLink.raisedFrom_refl _⟩

theorem modLr (s : State) (p : PortId) (f : Relay → Relay) : OnlyPort s (s.modLr p f) p :=
  ⟨by simp, by simp [sameNode], by simp [sameSystem], by simpa using HostLink.raisedFrom_refl _⟩

theorem modNm (s : State) (p : PortId) (f : Nbr → Nbr) : OnlyPort s (s.modNm p f) p :=
  ⟨by simp, by simp [sameNode], by simp [sameSystem], by simpa using HostLink.raisedFrom_refl _⟩

theorem raiseIf (s : State) (p : PortId) (b : Bool) (k : Notice) : OnlyPort s (s.raiseIf b k) p :=
  ⟨by cases b <;> rfl, by simp [sameNode], by simp [sameSystem], HostLink.raisedFrom_raiseIf s b k⟩

theorem raise (s : State) (p : PortId) (k : Notice) : OnlyPort s (s.raise k) p := raiseIf s p true k

theorem offer (s : State) (p : PortId) (f : Frame) : OnlyPort s (s.offer p f) p :=
  ⟨by simp, by simp [sameNode], by simp [sameSystem], by simpa using HostLink.raisedFrom_refl _⟩

theorem kickLine (s : State) (p : PortId) : OnlyPort s (s.kickLine p) p :=
  ⟨by simp, by simp [sameNode], by simp [sameSystem], by simpa using HostLink.raisedFrom_refl _⟩

variable {s t u : State} {p : PortId}

theorem trans (h : OnlyPort s t p) (k : OnlyPort t u p) : OnlyPort s u p :=
  ⟨k.other.trans h.other, h.node.trans k.node, h.system.trans k.system, HostLink.raisedFrom_trans h.raised k.raised⟩

theorem host (h : OnlyPort s t p) : sameHost s t := HostLink.still_of_raisedFrom h.raised

theorem masked (h : OnlyPort s t p) (k : Notice) : t.hl.masked k = s.hl.masked k := HostLink.masked_of_raisedFrom h.raised k

end OnlyPort

/-! ### CALL and the loss of a neighbour -/

@[simp] theorem State.suspend_cp (s : State) (c : ExitCause) (x : PortId) : (s.suspend c).cp x = s.cp x :=
  congrArg Port.cp (s.suspend_port c x)

@[simp] theorem State.suspend_lr (s : State) (c : ExitCause) (x : PortId) : (s.suspend c).lr x = s.lr x :=
  congrArg Port.lr (s.suspend_port c x)

@[simp] theorem State.suspend_nm (s : State) (c : ExitCause) (x : PortId) : (s.suspend c).nm x = s.nm x :=
  congrArg Port.nm (s.suspend_port c x)

theorem Consist.triggered_of_claim {c : Consist} (claimed : c.claim.isSome = true) :
    c.triggered = { c with
      walk := if c.walk = .idle then .settling else c.walk,
      settleTimer := if c.walk = .idle then some 0 else c.settleTimer } := by
  by_cases idle : c.walk = .idle
  · rw [Consist.triggered_of_idle claimed idle]
    simp [idle]
  · rw [Consist.triggered_of_busy idle]
    simp [idle]

theorem State.called_emitCall (s : State) (f : PortId) (cause port : Nat) : called s (s.emitCall cause port) f cause port := by
  unfold called State.emitCall
  cases claim : s.cc.claim with
  | some e => simp
  | none =>
    cases front : s.cc.front with
    | none => simp
    | some x =>
      by_cases at_ : x = f
      · subst at_
        simp only [true_and]
        split <;> rfl
      · have away : f = other x := eq_other_of_ne fun e => at_ e.symm
        simp only [Option.some.injEq, at_, false_and, and_false, if_false]
        split
        · exact congrArg Port.lr (away ▸ s.offer_port_other x _)
        · rfl

/-- A CALL leaves a port that is not LINKED, and no other part of the state. -/
theorem State.emitCall_port_of_unlinked {s : State} {p : PortId} (unlinked : (s.cp p).st ≠ .linked) (cause port : Nat) :
    (s.emitCall cause port).port p = s.port p := by
  unfold State.emitCall
  split
  · next x _ _ =>
    split
    · next linked =>
      have away : p = other x := eq_other_of_ne fun e => unlinked (e ▸ linked)
      exact away ▸ s.offer_port_other x _
    · rfl
  · rfl

@[simp] theorem State.emitCall_nm (s : State) (cause port : Nat) (x : PortId) : (s.emitCall cause port).nm x = s.nm x := by
  unfold State.emitCall
  split
  · split <;> simp
  · rfl

@[simp] theorem State.emitCall_cp_st (s : State) (cause port : Nat) (x : PortId) :
    ((s.emitCall cause port).cp x).st = (s.cp x).st := by
  unfold State.emitCall
  split
  · next f _ _ =>
    split
    · by_cases at_ : x = f
      · rw [at_, State.offer_cp_st]
      · rw [eq_other_of_ne at_]
        exact congrArg (fun y : Port => y.cp.st) (s.offer_port_other f _)
    · rfl
  · rfl

/-- What a node calls with is read off the Consist Controller, the serial and the port. -/
theorem called_of_same {s u t : State} {f : PortId} {cause port : Nat} (claim : u.cc.claim = s.cc.claim)
    (front : u.cc.front = s.cc.front) (gen : u.cc.gen = s.cc.gen) (position : u.cc.position = s.cc.position)
    (serial : u.sys.serial = s.sys.serial) (same : u.port f = s.port f) (h : called u t f cause port) :
    called s t f cause port := by
  have cp : u.cp f = s.cp f := congrArg Port.cp same
  have lr : u.lr f = s.lr f := congrArg Port.lr same
  have offered (g : Frame) : (u.offer f g).lr f = (s.offer f g).lr f := congrArg Port.lr (State.offer_port_congr same g)
  unfold called at h ⊢
  rw [h, claim, front, gen, position, serial, cp, lr, offered]

/-- A suspended node calls on its front port (04 R68). -/
theorem called_suspend_emitCall (s : State) (f : PortId) (e : ExitCause) (cause port : Nat) :
    called s ((s.suspend e).emitCall cause port) f cause port := by
  have fields := s.suspend_cc_fields e
  exact called_of_same (by rw [fields]) (by rw [fields]) (by rw [fields]) (by rw [fields]) (by simp) (by simp)
    ((s.suspend e).called_emitCall f cause port)

theorem HostLink.raisedFrom_suspend (s : State) (c : ExitCause) : s.hl.raisedFrom (s.suspend c).hl := by
  unfold State.suspend
  split
  · exact HostLink.raisedFrom_leaveOperational _ _ _
  all_goals exact HostLink.raisedFrom_refl _

/-- The node takes the loss of the neighbour at a port: its own blocks, and the CALL on its other port. -/
structure LossTaken (s t : State) (p : PortId) : Prop where
  gone : neighbourGone s t p
  calls : s.cc.node = .operational ∨ s.cc.node = .provisional → called s t (other p) 0 (portNumber p)
  silent : s.cc.node ≠ .operational → s.cc.node ≠ .provisional → t.lr (other p) = s.lr (other p)

/-- What the loss or change of the neighbour at a port that is not LINKED does. -/
structure Gone (s t : State) (p : PortId) : Prop extends LossTaken s t p where
  port : t.port p = s.port p
  otherState : (t.cp (other p)).st = (s.cp (other p)).st
  otherNbr : t.nm (other p) = s.nm (other p)
  system : sameSystem s t
  raised : s.hl.raisedFrom t.hl

theorem called_of_claim {s t : State} {f : PortId} {cause port : Nat} (claim : s.cc.claim ≠ none) (lr : t.lr f = s.lr f) :
    called s t f cause port := by simp [called, claim, lr]

/-- A member without a claim is suspended and calls. -/
theorem gone_member {s : State} {p : PortId} (unlinked : (s.cp p).st ≠ .linked) (free : s.cc.claim = none)
    (inConsist : s.cc.node = .operational ∨ s.cc.node = .provisional) :
    Gone s ((s.suspend .neighbour).emitCall callNeighbour (portNumber p)) p where
  port := (State.emitCall_port_of_unlinked (by simpa using unlinked) _ _).trans (by simp)
  otherState := by simp
  otherNbr := by simp
  gone := by
    refine ⟨fun _ => ?_, fun claimed => by simp [free] at claimed, fun _ => ?_⟩
    · rw [State.emitCall_cc, State.suspend_cc_fields]
    · exact leftOperational_of_blocks (s.suspend_leftOperational .neighbour) (by simp) (by simp) (by simp)
        (fun h => by simpa [told] using h)
  calls _ := called_suspend_emitCall s _ _ _ _
  silent notOp notProv := (inConsist.elim notOp notProv).elim
  system := by simp [sameSystem]
  raised := by simpa using HostLink.raisedFrom_suspend s .neighbour

/-- At any other node without a claim nothing changes. -/
theorem gone_apart {s : State} {p : PortId} (free : s.cc.claim = none) (notOp : s.cc.node ≠ .operational)
    (notProv : s.cc.node ≠ .provisional) : Gone s s p where
  port := rfl
  otherState := rfl
  otherNbr := rfl
  gone := ⟨fun _ => by simp [notOp, notProv], fun claimed => by simp [free] at claimed,
    fun _ => ⟨fun op => absurd op notOp, fun _ => ⟨rfl, rfl, rfl, rfl, rfl, rfl, rfl, rfl, rfl, rfl⟩⟩⟩
  calls inConsist := (inConsist.elim notOp notProv).elim
  silent _ _ := rfl
  system := ⟨rfl, rfl⟩
  raised := HostLink.raisedFrom_refl _

/-- A claim with its cab end at the port has no neighbour there. -/
theorem gone_cabEnd {s : State} {p : PortId} (claim : s.cc.claim = some p) : Gone s s p where
  port := rfl
  otherState := rfl
  otherNbr := rfl
  gone := ⟨fun free => by simp [claim] at free, fun rear => by simp [claim] at rear, fun away => absurd claim away⟩
  calls _ := called_of_claim (by simp [claim]) rfl
  silent _ _ := rfl
  system := ⟨rfl, rfl⟩
  raised := HostLink.raisedFrom_refl _

theorem State.suspendIfOperational_leftOperational (s : State) :
    leftOperational s (if s.cc.node = .operational then s.suspend .neighbour else s) := by
  split
  · exact s.suspend_leftOperational .neighbour
  · next notOp => exact ⟨fun op => absurd op notOp, fun _ => ⟨rfl, rfl, rfl, rfl, rfl, rfl, rfl, rfl, rfl, rfl⟩⟩

/-- A walk trigger leaves both ports. -/
@[simp] theorem State.walkTrigger_port (s : State) (x : PortId) : s.walkTrigger.port x = s.port x := by
  rw [State.walkTrigger_eq_modCc, State.modCc_portAt]

theorem State.suspendIfOperational_port (s : State) (x : PortId) :
    (if s.cc.node = .operational then s.suspend .neighbour else s).port x = s.port x := by
  split
  · exact s.suspend_port _ x
  · rfl

theorem State.suspendIfOperational_cc (s : State) :
    (if s.cc.node = .operational then s.suspend .neighbour else s).cc = { s.cc with
      node := if s.cc.node = .operational then .suspended else s.cc.node,
      lastExit := if s.cc.node = .operational then .neighbour else s.cc.lastExit,
      silenceTimer := if s.cc.node = .operational then none else s.cc.silenceTimer } := by
  split
  · next op => simp [State.suspend_cc_fields, op]
  · rfl

/-- A leader whose rear port it is leaves OPERATIONAL, and its walk engine takes a walk trigger. -/
theorem gone_leader {s : State} {p : PortId} (claim : s.cc.claim = some (other p)) :
    Gone s ((if s.cc.node = .operational then s.suspend .neighbour else s).walkTrigger) p := by
  have port (x : PortId) : ((if s.cc.node = .operational then s.suspend .neighbour else s).walkTrigger).port x = s.port x :=
    (State.walkTrigger_port _ x).trans (s.suspendIfOperational_port x)
  refine ⟨⟨⟨fun free => by simp [claim] at free, fun _ => ?_, fun _ => ?_⟩, fun _ => called_of_claim (by simp [claim])
    (congrArg Port.lr (port _)), fun _ _ => congrArg Port.lr (port _)⟩, port p, congrArg (fun y : Port => y.cp.st) (port _),
    congrArg Port.nm (port _), ?_, ?_⟩
  · rw [State.walkTrigger_eq_modCc, State.modCc_cc, State.suspendIfOperational_cc, Consist.triggered_of_claim (by simp [claim])]
  · exact leftOperational_of_blocks s.suspendIfOperational_leftOperational (by simp) (by simp) (by simp)
      (fun h => by simpa [told] using h)
  · rw [sameSystem, State.walkTrigger_sys, State.walkTrigger_pending]
    split
    · exact ⟨s.suspend_sys _, s.suspend_pending _⟩
    · exact ⟨rfl, rfl⟩
  · rw [State.walkTrigger_hl]
    split
    · exact HostLink.raisedFrom_suspend s _
    · exact HostLink.raisedFrom_refl _

/-- The loss of the neighbour of a port that is not LINKED, by claim and node state (04 R67). -/
theorem State.ccGone_gone {s : State} {p : PortId} (unlinked : (s.cp p).st ≠ .linked) : Gone s (s.ccGone p) p := by
  unfold State.ccGone
  split
  · next e claim =>
    split
    · next at_ => exact gone_cabEnd (at_ ▸ claim)
    · next away => exact gone_leader (claim.trans (congrArg some (eq_other_of_ne fun h => away h.symm)))
  · next free =>
    split
    · next prov => exact gone_member unlinked free (.inr prov)
    · next op => exact gone_member unlinked free (.inl op)
    all_goals
      next node => exact gone_apart free (by simp [node]) (by simp [node])

/-! ### A port that has left its link (03 R54) -/

/-- Port p has left its link: its Neighbour Monitor is emptied, and where its neighbour was PRESENT the node takes the loss. -/
structure Departed (s t : State) (p : PortId) : Prop where
  cp : t.cp p = s.cp p
  lr : t.lr p = s.lr p
  nm : t.nm p = { (s.nm p).stopTimers with candidate := none, record := none, status := .absent }
  otherState : (t.cp (other p)).st = (s.cp (other p)).st
  otherNbr : t.nm (other p) = s.nm (other p)
  lost : neighbourLost s t p
  system : sameSystem s t
  raised : s.hl.raisedFrom t.hl

/-- What the node does about a loss says nothing of the port itself before, and of the state after only the node, the other
port's frames and the notices. -/
theorem LossTaken.of_same {s u t v : State} {p : PortId} (taken : LossTaken u t p) (before : OnlyPort s u p)
    (node : sameNode t v) (frames : v.lr (other p) = t.lr (other p)) (tells : ∀ k, told t k → told v k) :
    LossTaken s v p := by
  obtain ⟨cc, se, dcu, ha⟩ := before.node
  have lr : u.lr (other p) = s.lr (other p) := congrArg Port.lr before.other
  obtain ⟨⟨member, leader, left⟩, calls, silent⟩ := taken
  rw [cc] at member leader left calls silent
  refine ⟨⟨fun free => node.1.trans (member free), fun rear => node.1.trans (leader rear), fun away => ?_⟩,
    fun inConsist => ?_, fun notOp notProv => (frames.trans (silent notOp notProv)).trans lr⟩
  · have left := leftOperational_of_blocks (left away) node.2.1 node.2.2.1 node.2.2.2 (tells _)
    unfold leftOperational at left ⊢
    rw [cc, se, dcu, ha, before.masked] at left
    exact left
  · have calls := called_of_same (by rw [cc]) (by rw [cc]) (by rw [cc]) (by rw [cc]) (by rw [before.system.1]) before.other
      (calls inConsist)
    unfold called at calls ⊢
    rw [frames, calls]

theorem neighbourLost_of_same {s u t v : State} {p : PortId} (lost : neighbourLost u t p) (before : OnlyPort s u p)
    (status : (u.nm p).status = (s.nm p).status) (node : sameNode t v) (frames : v.lr (other p) = t.lr (other p))
    (tells : ∀ k, told t k → told v k) : neighbourLost s v p := by
  obtain ⟨present, absent⟩ := lost
  rw [status] at present absent
  refine ⟨fun st => ?_, fun st => ?_⟩
  · obtain ⟨gone, calls, silent, tell⟩ := present st
    obtain ⟨gone, calls, silent⟩ := LossTaken.of_same ⟨gone, calls, silent⟩ before node frames tells
    exact ⟨gone, calls, silent, fun masked => tells _ (tell (by rwa [before.masked]))⟩
  · obtain ⟨same, silent⟩ := absent st
    exact ⟨(before.node.trans same).trans node, (frames.trans silent).trans (congrArg Port.lr before.other)⟩

end Sys2Proof.Machine
end

section
/-! A port that enters OPEN, leaves it, or starts an alignment attempt (01 R6 to R8, R12, R24; 03 R54, R58). -/

namespace Sys2Proof.Machine

theorem told_of_hl {s t : State} {k : Notice} (hl : t.hl = s.hl) (h : told s k) : told t k := by simpa [told, hl] using h

/-- A port that is not LINKED departs from its neighbour. -/
theorem State.nmDepart_departed {s : State} {p : PortId} (unlinked : (s.cp p).st ≠ .linked) : Departed s (s.nmDepart p) p := by
  have before := OnlyPort.modNm s p fun n => { n.stopTimers with candidate := none, record := none, status := .absent }
  unfold State.nmDepart
  dsimp only
  split
  · next status =>
    refine ⟨by simp, by simp, by simp, congrArg (fun y : Port => y.cp.st) before.other, congrArg Port.nm before.other,
      ⟨fun present => by simp [status] at present, fun _ => ⟨before.node, congrArg Port.lr before.other⟩⟩, before.system,
      before.raised⟩
  · next status =>
    unfold State.neighbourGone
    generalize e : (s.modNm p fun n => { n.stopTimers with candidate := none, record := none, status := .absent }) = u at before ⊢
    have cp : u.cp p = s.cp p := by rw [← e, State.modNm_cp]
    have lr : u.lr p = s.lr p := by rw [← e, State.modNm_lr]
    have nm : u.nm p = { (s.nm p).stopTimers with candidate := none, record := none, status := .absent } := by
      rw [← e, State.modNm_nm]
    have gone : Gone u (u.ccGone p) p := State.ccGone_gone (by rwa [cp])
    have after := OnlyPort.raise (u.ccGone p) p .neighbour
    refine ⟨(congrArg Port.cp gone.port).trans cp, (congrArg Port.lr gone.port).trans lr, (congrArg Port.nm gone.port).trans nm,
      gone.otherState.trans (congrArg (fun y : Port => y.cp.st) before.other), gone.otherNbr.trans (congrArg Port.nm before.other),
      ⟨fun _ => ?_, fun absent => absurd status absent⟩, before.system.trans (gone.system.trans after.system),
      HostLink.raisedFrom_trans before.raised (HostLink.raisedFrom_trans gone.raised after.raised)⟩
    obtain ⟨taken, calls, silent⟩ := gone.toLossTaken.of_same before after.node (congrArg Port.lr after.other)
      (fun k => told_raise .neighbour)
    exact ⟨taken, calls, silent, fun masked => told_raise_self (s := u.ccGone p)
      (by rwa [HostLink.masked_of_raisedFrom gone.raised, before.masked])⟩
  · next status =>
    have after := before.trans (OnlyPort.raise _ p .neighbour)
    refine ⟨by simp, by simp, by simp, congrArg (fun y : Port => y.cp.st) after.other, congrArg Port.nm after.other,
      ⟨fun present => by simp [status] at present, fun _ => ⟨after.node, congrArg Port.lr after.other⟩⟩, after.system,
      after.raised⟩

/-! ### Attempts and leaving OPEN -/

/-- An attempt with a pair that is not in BREAK goes on (01 R8, R12). -/
theorem State.alignAttempt_of_unbroken {s : State} {p : PortId} (unbroken : (s.cp p).pairA.brk = false) (rate : Nat) :
    s.alignAttempt p rate = s.beginAttempt p rate := by
  refine State.failDead_of_live ?_ 4
  simp [State.beginAttempt, Coupler.toAligning, Coupler.bothPairs, Coupler.noneLive, Pair.scan, Pair.live, unbroken]

theorem State.beginAttempt_cp (s : State) (p : PortId) (rate : Nat) : (s.beginAttempt p rate).cp p = (s.cp p).toAligning rate := by
  simp [State.beginAttempt]

theorem State.beginAttempt_nm (s : State) (p : PortId) (rate : Nat) : (s.beginAttempt p rate).nm p = (s.nm p).stopTimers := by
  simp [State.beginAttempt]

theorem OnlyPort.beginAttempt (s : State) (p : PortId) (rate : Nat) : OnlyPort s (s.beginAttempt p rate) p :=
  ((OnlyPort.modCp s p _).trans (OnlyPort.modNm _ p _)).trans (OnlyPort.raiseIf _ p _ _)

/-- PORT is told of an attempt that starts outside ALIGNING (01 R8). -/
theorem State.told_beginAttempt {s : State} {p : PortId} (apart : (s.cp p).st ≠ .aligning) (rate : Nat)
    (masked : s.hl.masked .port = true) : told (s.beginAttempt p rate) .port := by
  rw [State.beginAttempt, bne_iff_ne.mpr apart]
  exact told_raise_self (s := ((s.modCp p fun c => c.toAligning rate).modNm p Nbr.stopTimers)) (by simpa using masked)

/-- A coupler port in OPEN that has gone on to a state (01 R6, R8, R24). -/
def Coupler.leftTo (c : Coupler) : PortState → Coupler
  | .aligning => c.toAligning 0
  | .loop => c.toLoop
  | .open => c
  | .linked => c
  | .faulted => c

/-- A port in OPEN has left it where its conditions held, and stays otherwise (01 R6). -/
structure LeftOpen (s t : State) (p : PortId) : Prop extends OnlyPort s t p where
  cp : t.cp p = (s.cp p).leftTo (s.fromOpen p)
  lr : t.lr p = s.lr p
  nm : t.nm p = if s.fromOpen p = .aligning then (s.nm p).stopTimers else s.nm p
  tells : s.fromOpen p ≠ .open → s.hl.masked .port = true → told t .port

theorem State.leaveOpen_leftOpen {s : State} {p : PortId} (opened : (s.cp p).st = .open)
    (unbroken : (s.cp p).pairA.brk = false) : LeftOpen s (s.leaveOpen p) p := by
  have stays (from_ : s.fromOpen p = .open) : LeftOpen s s p :=
    ⟨OnlyPort.refl s p, by rw [from_]; rfl, rfl, by rw [from_]; rfl, fun away => absurd from_ away⟩
  unfold State.leaveOpen
  by_cases high : s.thruHold = true
  · rw [if_pos ⟨high, opened⟩]
    split
    · next mode =>
      have from_ : s.fromOpen p = .loop := by simp [State.fromOpen, high, mode]
      refine ⟨(OnlyPort.modCp s p _).trans (OnlyPort.raise _ p _), ?_, ?_, ?_, fun _ masked =>
        told_raise_self (s := s.modCp p Coupler.toLoop) (by simpa using masked)⟩ <;> simp [State.enterLoop, from_, Coupler.leftTo]
    · next mode =>
      split
      · next sense =>
        have from_ : s.fromOpen p = .aligning := by simp [State.fromOpen, high, mode, sense]
        rw [State.alignAttempt_of_unbroken unbroken]
        exact ⟨OnlyPort.beginAttempt s p 0, by rw [from_]; exact s.beginAttempt_cp p 0, s.beginAttempt_lr p 0,
          by rw [from_]; exact s.beginAttempt_nm p 0, fun _ => State.told_beginAttempt (by simp [opened]) 0⟩
      · next sense => exact stays (by simp [State.fromOpen, mode, sense])
  · rw [if_neg (fun h => high h.1)]
    exact stays (by simp [State.fromOpen, high])

/-! ### Entering OPEN -/

theorem State.thruHold_of_same {s t : State} (system : t.sys = s.sys) (node : t.cc.node = s.cc.node) :
    t.thruHold = s.thruHold := by simp [State.thruHold, State.running, State.inReset, system, node]

theorem State.fromOpen_of_same {s t : State} {p : PortId} (hold : t.thruHold = s.thruHold)
    (mode : (t.cp p).loopMode = (s.cp p).loopMode) (sense : (t.nm p).sense = (s.nm p).sense) :
    t.fromOpen p = s.fromOpen p := by simp [State.fromOpen, hold, mode, sense]

/-- A port goes from OPEN to LOOP, to ALIGNING or nowhere, and to LOOP only with a loop mode (01 R6). -/
theorem State.fromOpen_cases (s : State) (p : PortId) :
    s.fromOpen p = .open ∨ s.fromOpen p = .aligning ∨ (s.fromOpen p = .loop ∧ (s.cp p).loopMode ≠ .normal) := by
  unfold State.fromOpen
  split
  · exact .inl rfl
  · split
    · next mode => exact .inr (.inr ⟨rfl, mode⟩)
    · split
      · exact .inr (.inl rfl)
      · exact .inl rfl

theorem Coupler.leftTo_loopMode (c : Coupler) (st : PortState) : (c.leftTo st).loopMode = c.loopMode := by
  cases st <;> try rfl
  unfold Coupler.leftTo Coupler.toLoop
  dsimp only
  split <;> rfl

/-- Port p has entered OPEN, and has left it at once where its conditions held. -/
structure Opened (s t : State) (p : PortId) (cause : OpenCause) : Prop where
  cp : t.cp p = ((s.cp p).toOpen cause).leftTo (t.fromOpen p)
  lr : t.lr p = (s.lr p).flush
  nm : t.nm p = { (s.nm p).stopTimers with candidate := none, record := none, status := .absent }
  otherState : (t.cp (other p)).st = (s.cp (other p)).st
  otherNbr : t.nm (other p) = s.nm (other p)
  lost : neighbourLost s t p
  tells : s.hl.masked .port = true → told t .port
  system : sameSystem s t
  raised : s.hl.raisedFrom t.hl

theorem State.portToOpen_opened {s : State} {p : PortId} (away : (s.cp p).st ≠ .open) (cause : OpenCause) :
    Opened s (s.portToOpen p cause) p cause := by
  rw [State.portToOpen, if_neg away]
  have entered := ((OnlyPort.modCp s p fun c => c.toOpen cause).trans (OnlyPort.modLr _ p Relay.flush)).trans
    (OnlyPort.raise _ p .port)
  have raises : s.hl.masked .port = true → told (((s.modCp p fun c => c.toOpen cause).modLr p Relay.flush).raise .port) .port :=
    fun masked => told_raise_self (by simpa using masked)
  have cp : (((s.modCp p fun c => c.toOpen cause).modLr p Relay.flush).raise .port).cp p = (s.cp p).toOpen cause := by simp
  have lr : (((s.modCp p fun c => c.toOpen cause).modLr p Relay.flush).raise .port).lr p = (s.lr p).flush := by simp
  have nm : (((s.modCp p fun c => c.toOpen cause).modLr p Relay.flush).raise .port).nm p = s.nm p := by simp
  generalize ((s.modCp p fun c => c.toOpen cause).modLr p Relay.flush).raise .port = u at entered raises cp lr nm ⊢
  have departed := State.nmDepart_departed (s := u) (p := p) (by simp [cp, Coupler.toOpen])
  have left := State.leaveOpen_leftOpen (s := u.nmDepart p) (p := p) (by simp [departed.cp, cp, Coupler.toOpen])
    (by simp [departed.cp, cp, Coupler.toOpen, Coupler.bothPairs, Pair.idled])
  generalize u.nmDepart p = v at departed left ⊢
  generalize v.leaveOpen p = t at left ⊢
  have nbr : t.nm p = { (s.nm p).stopTimers with candidate := none, record := none, status := .absent } := by
    rw [left.nm, departed.nm, nm]
    split <;> rfl
  have whole : t.cp p = ((s.cp p).toOpen cause).leftTo (v.fromOpen p) := by rw [left.cp, departed.cp, cp]
  have from_ : t.fromOpen p = v.fromOpen p :=
    State.fromOpen_of_same (State.thruHold_of_same left.system.1 (by rw [left.node.1]))
      (by rw [left.cp, Coupler.leftTo_loopMode]) (by rw [nbr, departed.nm, nm])
  exact ⟨by rw [whole, from_], by rw [left.lr, departed.lr, lr], nbr,
    (congrArg (fun y : Port => y.cp.st) left.other).trans (departed.otherState.trans
      (congrArg (fun y : Port => y.cp.st) entered.other)),
    (congrArg Port.nm left.other).trans (departed.otherNbr.trans (congrArg Port.nm entered.other)),
    neighbourLost_of_same departed.lost entered (by rw [nm]) left.node (congrArg Port.lr left.other)
      (fun k => told_of_raisedFrom left.raised),
    fun masked => told_of_raisedFrom (HostLink.raisedFrom_trans departed.raised left.raised) (raises masked),
    entered.system.trans (departed.system.trans left.system),
    HostLink.raisedFrom_trans entered.raised (HostLink.raisedFrom_trans departed.raised left.raised)⟩

/-- What a port that has entered OPEN shares with one that it left at once (01 R6). -/
theorem Coupler.toOpen_leftTo (c : Coupler) (cause : OpenCause) {st : PortState}
    (legal : st = .open ∨ st = .aligning ∨ (st = .loop ∧ c.loopMode ≠ .normal)) :
    let d := (c.toOpen cause).leftTo st
    d.openCause = cause ∧ d.st = st ∧ d.activeMax = c.stagedMax ∧ d.stagedMax = c.stagedMax ∧ d.rateCapped = false ∧
      d.step = .none ∧ d.failCount = 0 ∧ d.ready = false ∧ d.rateSettled = false ∧ d.lastDelivered = none ∧ d.held = none ∧
      d.heldTimer = none ∧ d.retryTimer = none ∧ d.rate = (if d.localLoop then c.stagedMax else 0) ∧
      ∀ q, (d.pair q).brk = false ∧ (d.pair q).lastGood = none ∧ (d.pair q).silence = none ∧
        (d.pair q).crcErrors = (c.pair q).crcErrors := by
  rcases legal with rfl | rfl | ⟨rfl, mode⟩
  · refine ⟨rfl, rfl, rfl, rfl, rfl, rfl, rfl, rfl, rfl, rfl, rfl, rfl, rfl, rfl, fun q => ?_⟩
    cases q <;> exact ⟨rfl, rfl, rfl, rfl⟩
  · refine ⟨rfl, rfl, rfl, rfl, rfl, rfl, rfl, rfl, rfl, rfl, rfl, rfl, rfl, rfl, fun q => ?_⟩
    cases q <;> exact ⟨rfl, rfl, rfl, rfl⟩
  · have mode_ : (c.toOpen cause).loopMode = c.loopMode := rfl
    unfold Coupler.leftTo Coupler.toLoop
    rw [mode_]
    cases h : c.loopMode with
    | normal => exact absurd h mode
    | localLoop =>
      refine ⟨rfl, rfl, rfl, rfl, rfl, rfl, rfl, rfl, rfl, rfl, rfl, rfl, rfl, ?_, fun q => ?_⟩
      · simp [Coupler.localLoop, Coupler.toOpen, Coupler.bothPairs, h]
      · cases q <;> exact ⟨rfl, rfl, rfl, rfl⟩
    | remoteEcho =>
      refine ⟨rfl, rfl, rfl, rfl, rfl, rfl, rfl, rfl, rfl, rfl, rfl, rfl, rfl, ?_, fun q => ?_⟩
      · simp [Coupler.localLoop, Coupler.toOpen, Coupler.bothPairs, h]
      · cases q <;> exact ⟨rfl, rfl, rfl, rfl⟩

theorem Relay.flush_waitingFrames (r : Relay) : r.flush.waitingFrames = 0 := rfl

/-- A port that has entered OPEN stands as `openedWith` says, also of the state before a change of the port alone. -/
theorem Opened.openedWith_of {s u t : State} {p : PortId} {cause : OpenCause} (opened : Opened u t p cause)
    (before : OnlyPort s u p) (lr : u.lr p = s.lr p) (staged : (u.cp p).stagedMax = (s.cp p).stagedMax)
    (crc : ∀ q, ((u.cp p).pair q).crcErrors = ((s.cp p).pair q).crcErrors) (status : (u.nm p).status = (s.nm p).status) :
    openedWith s t p cause := by
  have mode : (t.cp p).loopMode = (u.cp p).loopMode := by rw [opened.cp, Coupler.leftTo_loopMode]; rfl
  have fields := Coupler.toOpen_leftTo (u.cp p) cause (mode ▸ t.fromOpen_cases p)
  rw [← opened.cp] at fields
  obtain ⟨cause_, st, active, stagedMax, capped, step, failCount, ready, settled, last, held, heldTimer, retry, rate, pairs⟩ :=
    fields
  refine ⟨cause_, st, active.trans staged, stagedMax.trans staged, capped, step, failCount, ready, settled, last, held, heldTimer,
    retry, by rw [rate, staged], fun q => ?_, by rw [opened.lr]; rfl, by rw [opened.lr]; rfl, by rw [opened.lr, lr]; rfl,
    by rw [opened.nm], by rw [opened.nm], by rw [opened.nm], by rw [opened.nm]; rfl, by rw [opened.nm]; rfl,
    fun masked => opened.tells (by rwa [before.masked]), before.system.trans opened.system,
    (HostLink.still_of_raisedFrom opened.raised).trans before.host,
    opened.otherState.trans (congrArg (fun y : Port => y.cp.st) before.other),
    opened.otherNbr.trans (congrArg Port.nm before.other),
    neighbourLost_of_same opened.lost before status ⟨rfl, rfl, rfl, rfl⟩ rfl fun _ => id⟩
  obtain ⟨brk, lastGood, silence, crcErrors⟩ := pairs q
  exact ⟨brk, lastGood, silence, crcErrors.trans (crc q)⟩

theorem sameNode_hostKick (t : State) : sameNode t t.hostKick := by simp [sameNode]

theorem sameSystem_hostKick (t : State) : sameSystem t t.hostKick := by simp [sameSystem]

/-- The transmitter's choice changes nothing of what an entry to OPEN says. -/
theorem openedWith_hostKick {s t : State} {p : PortId} {cause : OpenCause} (h : openedWith s t p cause) :
    openedWith s t.hostKick p cause := by
  obtain ⟨cause_, st, active, stagedMax, capped, step, failCount, ready, settled, last, held, heldTimer, retry, rate, pairs,
    waiting, tx, dropped, status, record, candidate, beat, timeout, tells, system, host, otherState, otherNbr, lost⟩ := h
  have from_ : t.hostKick.fromOpen p = t.fromOpen p :=
    State.fromOpen_of_same (State.thruHold_of_same (by simp) (by simp)) (by simp) (by simp)
  have lost := neighbourLost_of_same lost (OnlyPort.refl s p) rfl (sameNode_hostKick t) (by simp) (fun _ => told_hostKick)
  refine ⟨?_, ?_, ?_, ?_, ?_, ?_, ?_, ?_, ?_, ?_, ?_, ?_, ?_, ?_, ?_, ?_, ?_, ?_, ?_, ?_, ?_, ?_, ?_,
    fun masked => told_hostKick (tells masked), system.trans (sameSystem_hostKick t), sameHost_hostKick host, ?_, ?_, lost⟩
  all_goals simpa only [State.hostKick_cp, State.hostKick_lr, State.hostKick_nm, from_]

end Sys2Proof.Machine
end

section
/-! The coupler sense, a port's timers, failed attempts and BREAK (01 R4, R6, R7, R12, R16, R19, R23, R25; 03 R47, R55, R57). -/

namespace Sys2Proof.Machine

/-! ### The end of an event at one port -/

/-- Of the state after an event only port p has changed, and the notices and the message in transmission to the host. -/
structure OnlyPortKicked (s t : State) (p : PortId) : Prop where
  other : t.port (other p) = s.port (other p)
  node : sameNode s t
  system : sameSystem s t
  host : sameHost s t

theorem OnlyPort.kicked {s t : State} {p : PortId} (h : OnlyPort s t p) : OnlyPortKicked s t.hostKick p :=
  ⟨(t.hostKick_port _).trans h.other, h.node.trans (sameNode_hostKick t), h.system.trans (sameSystem_hostKick t),
    sameHost_hostKick h.host⟩

/-! ### Coupler sense -/

theorem State.modNm_congr {s : State} {p : PortId} {f g : Nbr → Nbr} (h : f (s.nm p) = g (s.nm p)) : s.modNm p f = s.modNm p g :=
  congrArg (fun n => s.setPort p { s.port p with nm := n }) h

theorem State.modNm_same {s : State} {p : PortId} {f : Nbr → Nbr} (h : f (s.nm p) = s.nm p) : s.modNm p f = s :=
  (congrArg (fun n => s.setPort p { s.port p with nm := n }) h).trans (s.setPort_port_self p)

/-- A port that an attempt has just started at scans both pairs that are not in BREAK (01 R8). -/
theorem Coupler.toAligning_pair {c : Coupler} {q : PairId} (unbroken : (c.pair q).brk = false) (rate : Nat) :
    ((c.toAligning rate).pair q).st = .scanning ∧ ((c.toAligning rate).pair q).passes = [] := by
  cases q <;> simp_all [Coupler.toAligning, Coupler.bothPairs, Coupler.pair, Pair.scan]

theorem exec_couplerSenseDebounce {s : State} {p : PortId} (ticks : s.ticking = true) (due : timerDue (s.nm p).stab 50 = true) :
    exec (.couplerSenseDebounce p) s = (s.adoptSense p).done := by
  change (if s.expires (s.nm p).stab 50 then _ else s).done = _
  rw [if_pos ((s.expires_iff _ _).mpr ⟨ticks, due⟩)]

/-- The debounced level of a coupler input takes the raw level. -/
def State.senseTaken (s : State) (p : PortId) : State := s.modNm p fun n => { n with stab := none, sense := n.raw }

theorem State.adoptSense_eq (s : State) (p : PortId) :
    s.adoptSense p = if (s.nm p).raw = (s.nm p).sense then s.senseTaken p
      else if (s.nm p).raw then (s.senseTaken p).leaveOpen p
      else (s.senseTaken p).portToOpen p .decoupled := rfl

/-- Settles O8: a raw change, and the debounce by whether and how the level changes. -/
theorem couplerSenseDebouncesAndActs : Obligations.CouplerSenseDebouncesAndActs := by
  intro s p c
  refine ⟨fun same => ?_, fun changed => ?_, fun ticks due => ?_⟩
  · change (s.modNm p fun n => n.rawChange c s.inReset).done = _
    rw [State.modNm_same (by rw [Nbr.rawChange, if_pos same])]
    rfl
  · change (s.modNm p fun n => n.rawChange c s.inReset).done = _
    rw [State.modNm_congr (g := fun n => { n with raw := c, stab := if s.inReset then none else some 0 })
      (by rw [Nbr.rawChange, if_neg changed])]
    rfl
  rw [exec_couplerSenseDebounce ticks due, State.adoptSense_eq]
  have before : OnlyPort s (s.senseTaken p) p := OnlyPort.modNm s p _
  have cp : (s.senseTaken p).cp p = s.cp p := by simp [State.senseTaken]
  have lr : (s.senseTaken p).lr p = s.lr p := by simp [State.senseTaken]
  have nm : (s.senseTaken p).nm p = { s.nm p with stab := none, sense := (s.nm p).raw } := by simp [State.senseTaken]
  refine ⟨fun same => ?_, fun uncoupled was away => ?_, fun coupled was opened mode high unbrokenA unbrokenB => ?_⟩
  · rw [if_pos same]
    exact congrArg State.done (State.modNm_congr (by rw [same]))
  · have opened := State.portToOpen_opened (s := s.senseTaken p) (p := p) (by rwa [cp]) .decoupled
    rw [if_neg (by simp [uncoupled, was]), if_neg (by simp [uncoupled])]
    refine completes_done ⟨openedWith_hostKick (opened.openedWith_of before lr (by rw [cp]) (fun q => by rw [cp]) (by rw [nm])), ?_, ?_⟩
    · rw [State.hostKick_nm, opened.nm, nm]
      exact uncoupled
    · rw [State.hostKick_nm, opened.nm, nm]
      rfl
  · have left := State.leaveOpen_leftOpen (s := s.senseTaken p) (p := p) (by rwa [cp]) (by rwa [cp])
    have hold : (s.senseTaken p).thruHold = true :=
      (State.thruHold_of_same before.system.1 (by rw [before.node.1])).trans high
    have from_ : (s.senseTaken p).fromOpen p = .aligning := by
      simp [State.fromOpen, hold, cp, mode, nm, coupled]
    have whole : ((s.senseTaken p).leaveOpen p).cp p = (s.cp p).toAligning 0 := by rw [left.cp, from_, cp]; rfl
    obtain ⟨other, node, system, host⟩ := (before.trans left.toOnlyPort).kicked
    rw [if_neg (by simp [coupled, was]), if_pos coupled]
    refine completes_done ?_
    simp only [State.hostKick_cp, State.hostKick_lr, State.hostKick_nm, whole, left.lr, left.nm, from_, lr, nm]
    exact ⟨rfl, rfl, rfl, rfl, (Coupler.toAligning_pair (q := .a) unbrokenA 0).1, (Coupler.toAligning_pair (q := .a) unbrokenA 0).2,
      (Coupler.toAligning_pair (q := .b) unbrokenB 0).1, (Coupler.toAligning_pair (q := .b) unbrokenB 0).2, coupled, rfl, trivial,
      fun masked => told_hostKick (left.tells (by simp [from_]) (by rwa [before.masked])), system, node, host, other⟩

/-! ### A port's timers -/

theorem State.kickLine_of_due {s : State} {p : PortId} (idle : (s.lr p).tx = none) (due : (s.cp p).patternDue = true)
    (may : (s.cp p).maySendPattern = true) : s.kickLine p = s.startPattern p := by
  simp [State.kickLine, idle, due, may]

theorem Coupler.hearOwn_inFrame {c : Coupler} (loop : c.localLoop = true) (q : PairId) : (c.hearOwn.pair q).inFrame = true := by
  cases q <;> simp [Coupler.hearOwn, loop, Coupler.bothPairs, Coupler.pair]

theorem State.startPattern_cp (s : State) (p : PortId) :
    (s.startPattern p).cp p = { (s.cp p).hearOwn with patternDue := false, answerGuard := some 0 } := by
  simp [State.startPattern]

theorem State.startPattern_lr (s : State) (p : PortId) :
    (s.startPattern p).lr p = { s.lr p with tx := some (.pattern (s.cp p).patternReady (s.cp p).rate) } := by
  simp [State.startPattern]

/-- The transmitter of a port takes a PATTERN frame that has come due: at once when it is idle, and later otherwise. -/
theorem State.kickLine_pattern {s : State} {p : PortId} (due : (s.cp p).patternDue = true)
    (may : (s.cp p).maySendPattern = true) :
    ((s.lr p).tx = none → (s.kickLine p).lr p = { s.lr p with tx := some (.pattern (s.cp p).patternReady (s.cp p).rate) } ∧
      (s.kickLine p).cp p = { (s.cp p).hearOwn with patternDue := false, answerGuard := some 0 }) ∧
    ((s.lr p).tx.isSome = true → (s.kickLine p).lr p = s.lr p ∧ (s.kickLine p).cp p = s.cp p) := by
  refine ⟨fun idle => ?_, fun busy => ?_⟩
  · rw [State.kickLine_of_due idle due may]
    exact ⟨s.startPattern_lr p, s.startPattern_cp p⟩
  · rw [State.kickLine_of_busy busy]
    exact ⟨rfl, rfl⟩

section
variable {s : State} {p : PortId} (ticks : s.ticking = true)
include ticks

theorem exec_patternTimer (due : timerDue (s.cp p).patternTimer 1 = true) :
    exec (.patternTimer p) s = (s.patternPeriod p).done := by
  change (if s.expires (s.cp p).patternTimer 1 then _ else s).done = _
  rw [if_pos ((s.expires_iff _ _).mpr ⟨ticks, due⟩)]

theorem exec_retryTimerExpiry (due : timerDue (s.cp p).retryTimer 1000 = true) :
    exec (.retryTimerExpiry p) s = (s.alignAttempt p 0).done := by
  change (if s.expires (s.cp p).retryTimer 1000 then _ else s).done = _
  rw [if_pos ((s.expires_iff _ _).mpr ⟨ticks, due⟩)]

theorem exec_beatTimerExpiry (due : timerDue (s.nm p).beatTimer 10 = true) :
    exec (.beatTimerExpiry p) s = (s.beatPeriod p).done := by
  change (if s.expires (s.nm p).beatTimer 10 then _ else s).done = _
  rw [if_pos ((s.expires_iff _ _).mpr ⟨ticks, due⟩)]

theorem exec_neighbourTimeout (due : timerDue (s.nm p).timeout 35 = true) :
    exec (.neighbourTimeout p) s = ((s.modNm p fun n => { n with timeout := none }).portToOpen p .timeout).done := by
  change (if s.expires (s.nm p).timeout 35 then _ else s).done = _
  rw [if_pos ((s.expires_iff _ _).mpr ⟨ticks, due⟩)]

theorem exec_attemptTimerExpiry (due : timerDue (s.cp p).attemptTimer 200 = true) :
    exec (.attemptTimerExpiry p) s = (s.alignFails p).done := by
  change (if s.expires (s.cp p).attemptTimer 200 then _ else s).done = _
  rw [if_pos ((s.expires_iff _ _).mpr ⟨ticks, due⟩)]

end

/-- Settles O16: each of a port's timers. -/
theorem portTimersSendRetryAndTimeOut : Obligations.PortTimersSendRetryAndTimeOut := by
  intro s p ticks
  refine ⟨fun due may => ?_, fun due faulted unbrokenA unbrokenB => ?_, fun due linked => ?_, fun due linked => ?_⟩
  · rw [exec_patternTimer ticks due, State.patternPeriod]
    have only := (OnlyPort.modCp s p fun c => { c with patternTimer := some 0, patternDue := true }).trans (OnlyPort.kickLine _ p)
    obtain ⟨other, node, system, host⟩ := only.kicked
    have cp : (s.modCp p fun c => { c with patternTimer := some 0, patternDue := true }).cp p =
        { s.cp p with patternTimer := some 0, patternDue := true } := by simp
    have lr : (s.modCp p fun c => { c with patternTimer := some 0, patternDue := true }).lr p = s.lr p := by simp
    have nm : (s.modCp p fun c => { c with patternTimer := some 0, patternDue := true }).nm p = s.nm p := by simp
    generalize (s.modCp p fun c => { c with patternTimer := some 0, patternDue := true }) = u at *
    obtain ⟨idle, busy⟩ := State.kickLine_pattern (s := u) (p := p) (by rw [cp]) (by rw [cp]; exact may)
    rw [lr] at idle busy
    refine completes_done ⟨by simp [cp], by simp [cp], fun none => ?_, fun sending => ?_, by simp [nm], other, node, system, host⟩
    · obtain ⟨lr', cp'⟩ := idle none
      rw [State.hostKick_lr, State.hostKick_cp, lr', cp', cp]
      have hears (q : PairId) (loop : (s.cp p).localLoop = true) := Coupler.hearOwn_inFrame
        (c := { s.cp p with patternTimer := some 0, patternDue := true }) loop q
      exact ⟨rfl, rfl, fun loop => ⟨hears .a loop, hears .b loop⟩⟩
    · obtain ⟨lr', cp'⟩ := busy sending
      rw [State.hostKick_lr, State.hostKick_cp, lr', cp', cp]
      exact ⟨rfl, rfl⟩
  · rw [exec_retryTimerExpiry ticks due, State.alignAttempt_of_unbroken unbrokenA]
    obtain ⟨other, node, system, host⟩ := (OnlyPort.beginAttempt s p 0).kicked
    refine completes_done ?_
    rw [State.hostKick_cp, State.hostKick_lr, State.beginAttempt_cp, State.beginAttempt_lr]
    exact ⟨rfl, rfl, rfl, rfl, rfl, rfl, rfl, (Coupler.toAligning_pair (q := .a) unbrokenA 0).1,
      (Coupler.toAligning_pair (q := .b) unbrokenB 0).1,
      fun masked => told_hostKick (State.told_beginAttempt (by simp [faulted]) 0 masked), rfl, other, node, system, host⟩
  · rw [exec_beatTimerExpiry ticks due]
    rfl
  · rw [exec_neighbourTimeout ticks due]
    refine completes_done (openedWith_hostKick ?_)
    exact (State.portToOpen_opened (by simp [linked]) .timeout).openedWith_of (OnlyPort.modNm s p _) (by simp) (by simp) (by simp)
      (by simp)

/-! ### Failed attempts -/

/-- Port p has entered FAULTED (01 R7). -/
structure Faulted (s t : State) (p : PortId) : Prop where
  cp : t.cp p = (s.cp p).toFaulted
  lr : t.lr p = (s.lr p).flush
  nm : t.nm p = { (s.nm p).stopTimers with candidate := none, record := none, status := .absent }
  otherState : (t.cp (other p)).st = (s.cp (other p)).st
  otherNbr : t.nm (other p) = s.nm (other p)
  lost : neighbourLost s t p
  tells : s.hl.masked .port = true → told t .port
  system : sameSystem s t
  raised : s.hl.raisedFrom t.hl

theorem State.enterFaulted_faulted (s : State) (p : PortId) : Faulted s (s.enterFaulted p) p := by
  unfold State.enterFaulted
  have entered := ((OnlyPort.modCp s p Coupler.toFaulted).trans (OnlyPort.modLr _ p Relay.flush)).trans (OnlyPort.raise _ p .port)
  have raises : s.hl.masked .port = true → told (((s.modCp p Coupler.toFaulted).modLr p Relay.flush).raise .port) .port :=
    fun masked => told_raise_self (by simpa using masked)
  have cp : (((s.modCp p Coupler.toFaulted).modLr p Relay.flush).raise .port).cp p = (s.cp p).toFaulted := by simp
  have lr : (((s.modCp p Coupler.toFaulted).modLr p Relay.flush).raise .port).lr p = (s.lr p).flush := by simp
  have nm : (((s.modCp p Coupler.toFaulted).modLr p Relay.flush).raise .port).nm p = s.nm p := by simp
  generalize ((s.modCp p Coupler.toFaulted).modLr p Relay.flush).raise .port = u at *
  have departed := State.nmDepart_departed (s := u) (p := p) (by simp [cp, Coupler.toFaulted])
  exact ⟨departed.cp.trans cp, departed.lr.trans lr, by rw [departed.nm, nm],
    departed.otherState.trans (congrArg (fun y : Port => y.cp.st) entered.other),
    departed.otherNbr.trans (congrArg Port.nm entered.other),
    neighbourLost_of_same departed.lost entered (by rw [nm]) ⟨rfl, rfl, rfl, rfl⟩ rfl fun _ => id,
    fun masked => told_of_raisedFrom departed.raised (raises masked), entered.system.trans departed.system,
    HostLink.raisedFrom_trans entered.raised departed.raised⟩

theorem State.failDead_of_apart {s : State} {p : PortId} (apart : (s.cp p).st ≠ .aligning) (n : Nat) : s.failDead n p = s := by
  cases n with
  | zero => rfl
  | succ n => simp [State.failDead, apart]

/-- The counts of a failed attempt after which another starts (01 R12, R16). -/
def Coupler.retried (c : Coupler) : Coupler :=
  if c.stepAttempt then { c with rateCapped := true, failCount := 0 } else { c with failCount := c.failCount + 1 }

theorem State.alignFails_retries {s : State} {p : PortId} (unbroken : (s.cp p).pairA.brk = false)
    (again : (s.cp p).stepAttempt = true ∨ (s.cp p).failCount < 2) :
    s.alignFails p = (s.modCp p Coupler.retried).beginAttempt p 0 := by
  have fails : s.failAttempt p = (s.modCp p Coupler.retried).beginAttempt p 0 := by
    obtain ⟨step, e⟩ | ⟨step, many, -⟩ | ⟨step, -, e⟩ := s.failAttempt_cases p
    · rw [e, State.modCp_congr (g := Coupler.retried) (by rw [Coupler.retried, if_pos step])]
    · simp [step] at again
      omega
    · rw [e, State.modCp_congr (g := Coupler.retried) (by rw [Coupler.retried, if_neg (by simp [step])])]
  have live := State.alignAttempt_of_unbroken (s := s.modCp p Coupler.retried) (p := p)
    (by rw [State.modCp_cp, Coupler.retried]; split <;> exact unbroken) 0
  rw [State.alignFails, fails]
  exact live

theorem State.alignFails_faults {s : State} {p : PortId} (noStep : (s.cp p).stepAttempt = false) (third : 2 ≤ (s.cp p).failCount) :
    s.alignFails p = s.enterFaulted p := by
  rw [State.alignFails, State.failAttempt, if_neg (by simp [noStep]), if_pos third]
  exact State.failDead_of_apart (by rw [(s.enterFaulted_faulted p).cp]; simp [Coupler.toFaulted]) 4

/-- What another attempt leaves of the port after a failed one. -/
theorem Coupler.retried_fields (c : Coupler) :
    c.retried.pairA = c.pairA ∧ c.retried.pairB = c.pairB ∧ c.retried.step = c.step ∧
      c.retried.failCount = (if c.stepAttempt then 0 else c.failCount + 1) ∧
      c.retried.rateCapped = (c.stepAttempt || c.rateCapped) := by
  unfold Coupler.retried
  split <;> simp_all

/-- Settles O17: another attempt starts, or the port enters FAULTED. -/
theorem failedAttemptsRetryThenFault : Obligations.FailedAttemptsRetryThenFault := by
  intro s p ticks due aligning unbrokenA unbrokenB
  rw [exec_attemptTimerExpiry ticks due]
  by_cases again : (s.cp p).stepAttempt = true ∨ (s.cp p).failCount < 2
  · rw [State.alignFails_retries unbrokenA again]
    obtain ⟨other, node, system, host⟩ := ((OnlyPort.modCp s p Coupler.retried).trans (OnlyPort.beginAttempt _ p 0)).kicked
    obtain ⟨pairA, pairB, step, failCount, capped⟩ := (s.cp p).retried_fields
    have scansA := Coupler.toAligning_pair (c := (s.cp p).retried) (q := .a) (by simp [Coupler.pair, pairA, unbrokenA]) 0
    have scansB := Coupler.toAligning_pair (c := (s.cp p).retried) (q := .b) (by simp [Coupler.pair, pairB, unbrokenB]) 0
    refine completes_done ⟨system, host, congrArg (fun y : Port => y.cp.st) other, congrArg Port.nm other, fun _ => ?_,
      fun noStep third => ?_⟩
    · simp only [State.hostKick_cp, State.hostKick_lr, State.hostKick_nm, State.beginAttempt_cp, State.beginAttempt_lr,
        State.beginAttempt_nm, State.modCp_cp, State.modCp_lr, State.modCp_nm]
      exact ⟨rfl, rfl, rfl, rfl, step, scansA.1, scansA.2, scansB.1, scansB.2, failCount, capped, trivial, rfl, rfl, other, node⟩
    · simp [noStep] at again
      omega
  · obtain ⟨noStep, third⟩ := not_or.mp again
    have noStep : (s.cp p).stepAttempt = false := by simpa using noStep
    rw [State.alignFails_faults noStep (by omega)]
    obtain ⟨cp, lr, nm, otherState, otherNbr, lost, tells, system, raised⟩ := s.enterFaulted_faulted p
    refine completes_done ⟨system.trans (sameSystem_hostKick _), sameHost_hostKick (HostLink.still_of_raisedFrom raised),
      by simpa using otherState, by simpa using otherNbr, fun h => absurd h again, fun _ _ => ?_⟩
    have lost := neighbourLost_of_same lost (OnlyPort.refl s p) rfl (sameNode_hostKick _) (by simp) (fun _ => told_hostKick)
    simp only [State.hostKick_cp, State.hostKick_lr, State.hostKick_nm, cp, lr, nm]
    exact ⟨rfl, rfl, rfl, rfl, rfl, rfl, rfl, rfl, rfl, rfl, rfl, rfl, trivial, trivial, trivial, lost,
      fun masked => told_hostKick (tells masked)⟩

end Sys2Proof.Machine
end

section
/-! BREAK and the silence timer (01 R19, R23). -/

namespace Sys2Proof.Machine

/-- The pair after a frame that was open has been abandoned as a bad one (01 R2, R23). -/
def Pair.abandoned (x : Pair) : Pair := if x.inFrame then (x.closeFrame.countBad .framing).badFrame else x

/-- What BREAK makes of a pair of a LINKED port, an open frame included (01 R23; log entry 32). -/
theorem Pair.abandoned_enterBreak (x : Pair) :
    x.abandoned.enterBreak.brk = true ∧ x.abandoned.enterBreak.score = 15 ∧ x.abandoned.enterBreak.degraded = true ∧
      x.abandoned.enterBreak.breaks = min 65535 (x.breaks + 1) ∧ x.abandoned.enterBreak.inFrame = false ∧
      x.abandoned.enterBreak.crcErrors = x.crcErrors ∧
      x.abandoned.enterBreak.framingErrors =
        (if x.inFrame then min 65535 (x.framingErrors + 1) else x.framingErrors) := by
  cases open_ : x.inFrame <;>
    simp [Pair.abandoned, Pair.enterBreak, Pair.badFrame_eq, Pair.withScore, open_, inc16]

/-- An open frame of a LINKED port's pair is abandoned. -/
def State.abandonFrame (s : State) (p : PortId) (q : PairId) : State :=
  if ((s.cp p).pair q).inFrame then s.badFrame p q .framing else s

theorem State.modCp_same {s : State} {p : PortId} {f : Coupler → Coupler} (h : f (s.cp p) = s.cp p) : s.modCp p f = s :=
  (congrArg (fun c => s.setPort p { s.port p with cp := c }) h).trans (s.setPort_port_self p)

theorem Coupler.modPair_same {c : Coupler} {q : PairId} {f : Pair → Pair} (h : f (c.pair q) = c.pair q) : c.modPair q f = c := by
  cases q <;> simp only [Coupler.modPair, Coupler.pair] at h ⊢ <;> rw [h]

section
variable {s : State} {p : PortId} {q : PairId} (clocked : s.clocked = true)
include clocked

theorem State.abandonFrame_of_linked (linked : (s.cp p).st = .linked) (none : (s.cp p).held = none) :
    s.abandonFrame p q = (s.modCp p fun c => c.modPair q Pair.abandoned).raiseIf
      (((s.cp p).pair q).degraded != ((s.cp p).pair q).abandoned.degraded) .port := by
  unfold State.abandonFrame
  split
  · next open_ =>
    rw [State.badFrame_of_linked .framing clocked linked none, Pair.abandoned, if_pos open_]
    refine congrArg (State.raiseIf · _ .port) (State.modCp_congr ?_)
    cases q <;> simp_all [Coupler.modPair, Coupler.pair, Pair.abandoned]
  · next shut =>
    have same : ((s.cp p).pair q).abandoned = (s.cp p).pair q := if_neg shut
    rw [State.modCp_same (Coupler.modPair_same same), same]
    simp [State.raiseIf]

theorem exec_pairBreak_linked (linked : (s.cp p).st = .linked) (unbroken : ((s.cp p).pair q).brk = false) :
    exec (.pairBreak p q) s = (s.breakLinked p q).done := by
  change State.done (if s.clocked = true ∧ ((s.cp p).pair q).brk = false then _ else s) = _
  rw [if_pos ⟨clocked, unbroken⟩, linked]

theorem exec_pairBreak_aligning (aligning : (s.cp p).st = .aligning) (unbroken : ((s.cp p).pair q).brk = false) :
    exec (.pairBreak p q) s = (s.breakAligning p q).done := by
  change State.done (if s.clocked = true ∧ ((s.cp p).pair q).brk = false then _ else s) = _
  rw [if_pos ⟨clocked, unbroken⟩, aligning]

end

theorem State.breakLinked_eq (s : State) (p : PortId) (q : PairId) :
    s.breakLinked p q =
      if (((s.abandonFrame p q).cp p).pair (otherPair q)).brk then
        (((s.abandonFrame p q).modCp p fun c => c.modPair q Pair.enterBreak).raiseIf
          (!(((s.abandonFrame p q).cp p).pair q).degraded) .port).portToOpen p .break
      else (s.abandonFrame p q).changePair p q Pair.enterBreak := rfl

/-- An entry to OPEN and what follows at once keep a pair's score and its count of breaks. -/
theorem Coupler.toOpen_leftTo_pair (c : Coupler) (cause : OpenCause) (st : PortState) (q : PairId) :
    (((c.toOpen cause).leftTo st).pair q).score = (c.pair q).score ∧
      (((c.toOpen cause).leftTo st).pair q).breaks = (c.pair q).breaks := by
  unfold Coupler.leftTo Coupler.toLoop
  cases st <;> cases q <;> try exact ⟨rfl, rfl⟩
  all_goals
    dsimp only
    split <;> exact ⟨rfl, rfl⟩

theorem OnlyCoupler.of_onlyPort {s t : State} {p : PortId} (h : OnlyPort s t p) (lr : t.lr p = s.lr p) (nm : t.nm p = s.nm p) :
    OnlyCoupler s t p := ⟨lr, nm, h.other, h.node, h.system, h.host⟩

/-- A pair FAILED by BREAK in ALIGNING (01 R23). -/
def Pair.breakFails (x : Pair) : Pair := { x.enterBreak with st := .failed, inFrame := false }

/-- The port's own part of BREAK in ALIGNING. -/
def Coupler.breakFails (c : Coupler) (q : PairId) : Coupler :=
  { c.modPair q Pair.breakFails with ready := c.ready && (c.pair (otherPair q)).st == .aligned }

theorem State.breakAligning_of_live {s : State} {p : PortId} {q : PairId} (none : (s.cp p).held = none)
    (live : ((s.cp p).pair (otherPair q)).live = true) :
    ∃ b, s.breakAligning p q = ((s.modCp p fun c => c.modPair q Pair.breakFails).raiseIf b .port).modCp p
      fun c => { c with ready := c.ready && c.anyAligned } := by
  have e := State.changePair_of_none (q := q) (f := Pair.breakFails) none
  unfold State.breakAligning
  change ∃ b, (let s2 := (s.changePair p q Pair.breakFails).modCp p fun c => { c with ready := c.ready && c.anyAligned }
    if (s2.cp p).noneLive then s2.alignFails p else s2) = _
  rw [e]
  refine ⟨_, if_neg ?_⟩
  cases q <;> simp_all [Coupler.noneLive, Coupler.modPair, Coupler.pair, otherPair]

/-- A LINKED port after the frame that was open on a pair has been abandoned. -/
structure Abandoned (s t : State) (p : PortId) (q : PairId) : Prop extends OnlyPort s t p where
  cp : t.cp p = (s.cp p).modPair q Pair.abandoned
  lr : t.lr p = s.lr p
  nm : t.nm p = s.nm p
  tells : ((s.cp p).pair q).degraded = false → ((s.cp p).pair q).abandoned.degraded = true → s.hl.masked .port = true → told t .port

theorem told_raiseIf {s : State} {k : Notice} (b : Bool) (j : Notice) (h : told s k) : told (s.raiseIf b j) k := by
  cases b
  · exact h
  · exact told_raise j h

theorem State.abandonFrame_abandoned {s : State} {p : PortId} {q : PairId} (clocked : s.clocked = true)
    (linked : (s.cp p).st = .linked) (none : (s.cp p).held = none) : Abandoned s (s.abandonFrame p q) p q := by
  rw [State.abandonFrame_of_linked clocked linked none]
  refine ⟨(OnlyPort.modCp s p _).trans (OnlyPort.raiseIf _ p _ _), by simp, by simp, by simp, fun good bad masked => ?_⟩
  rw [good, bad]
  exact told_raise_self (s := s.modCp p _) (by simpa using masked)

/-- Settles O18: BREAK in LINKED, alone and with the other pair in BREAK, BREAK in ALIGNING, its end, and the silence timer. -/
theorem breakAndSilenceChargeThePair : Obligations.BreakAndSilenceChargeThePair := by
  intro s p q clocked none
  refine ⟨?_, fun linked unbroken otherWhole => ?_, fun linked unbroken otherBroken => ?_, fun aligning unbroken live => ?_,
    fun released due => ?_⟩
  · change State.done (if s.clocked then _ else s) = _
    rw [if_pos clocked]
    rfl
  · rw [exec_pairBreak_linked clocked linked unbroken, State.breakLinked_eq]
    have shut := State.abandonFrame_abandoned (q := q) clocked linked none
    generalize s.abandonFrame p q = u at shut ⊢
    obtain ⟨brk, score, degraded, breaks, inFrame, -, framingErrors⟩ := ((s.cp p).pair q).abandoned_enterBreak
    rw [if_neg (by simp [shut.cp, otherWhole]), State.changePair_of_none (by simp [shut.cp, none])]
    have cp : (u.modCp p fun c => c.modPair q Pair.enterBreak).cp p = (s.cp p).modPair q fun x => x.abandoned.enterBreak := by
      rw [State.modCp_cp, shut.cp, Coupler.modPair_modPair]
    have only : OnlyCoupler s (u.modCp p fun c => c.modPair q Pair.enterBreak) p :=
      (OnlyCoupler.of_onlyPort shut.toOnlyPort shut.lr shut.nm).trans (OnlyCoupler.modCp u p _)
    obtain ⟨lr, nm, port, node, system, host⟩ := (only.trans (OnlyCoupler.raiseIf _ p _ _)).kicked
    refine completes_done ⟨?_, ?_, ?_, ?_, ?_, ?_, ?_, ?_, fun good masked => ?_, lr, nm, port, node, system, host⟩
    iterate 6 simpa [cp]
    · simp [cp]
    · simp [cp]
    · refine told_hostKick ?_
      rw [show (u.cp p).pair q = ((s.cp p).pair q).abandoned by simp [shut.cp], degraded]
      cases after : ((s.cp p).pair q).abandoned.degraded
      · exact told_raise_self (s := u.modCp p _) (by simpa [shut.masked] using masked)
      · exact told_raiseIf _ _ (told_of_hl (by simp) (shut.tells good after masked))
  · rw [exec_pairBreak_linked clocked linked unbroken, State.breakLinked_eq]
    have shut := State.abandonFrame_abandoned (q := q) clocked linked none
    generalize s.abandonFrame p q = u at shut ⊢
    obtain ⟨-, score, -, breaks, -, crc, -⟩ := ((s.cp p).pair q).abandoned_enterBreak
    rw [if_pos (by simp [shut.cp, otherBroken])]
    generalize (!((u.cp p).pair q).degraded) = b
    have before : OnlyPort s ((u.modCp p fun c => c.modPair q Pair.enterBreak).raiseIf b .port) p :=
      shut.toOnlyPort.trans ((OnlyPort.modCp u p _).trans (OnlyPort.raiseIf _ p b .port))
    have cp : ((u.modCp p fun c => c.modPair q Pair.enterBreak).raiseIf b .port).cp p =
        (s.cp p).modPair q fun x => x.abandoned.enterBreak := by simp [shut.cp, Coupler.modPair_modPair]
    have lr : ((u.modCp p fun c => c.modPair q Pair.enterBreak).raiseIf b .port).lr p = s.lr p := by simp [shut.lr]
    have nm : ((u.modCp p fun c => c.modPair q Pair.enterBreak).raiseIf b .port).nm p = s.nm p := by simp [shut.nm]
    generalize (u.modCp p fun c => c.modPair q Pair.enterBreak).raiseIf b .port = v at *
    have opened := State.portToOpen_opened (s := v) (p := p) (by simp [cp, linked]) .break
    have crcs (x : PairId) : ((v.cp p).pair x).crcErrors = ((s.cp p).pair x).crcErrors := by
      by_cases at_ : x = q
      · rw [at_, cp, Coupler.modPair_pair, crc]
      · have away : x = otherPair q := by cases x <;> cases q <;> simp_all [otherPair]
        rw [away, cp, Coupler.modPair_pair_other]
    obtain ⟨keepsScore, keepsBreaks⟩ := (v.cp p).toOpen_leftTo_pair .break ((v.portToOpen p .break).fromOpen p) q
    refine completes_done ⟨openedWith_hostKick (opened.openedWith_of before lr (by simp [cp]) crcs (by rw [nm])), ?_, ?_⟩
    · rw [State.hostKick_cp, opened.cp, keepsScore, cp, Coupler.modPair_pair, score]
    · rw [State.hostKick_cp, opened.cp, keepsBreaks, cp, Coupler.modPair_pair, breaks]
  · rw [exec_pairBreak_aligning clocked aligning unbroken]
    obtain ⟨b, e⟩ := State.breakAligning_of_live (q := q) none live
    rw [e]
    have only := ((OnlyCoupler.modCp s p fun c => c.modPair q Pair.breakFails).trans (OnlyCoupler.raiseIf _ p b .port)).trans
      (OnlyCoupler.modCp _ p fun c => { c with ready := c.ready && c.anyAligned })
    have cp : (((s.modCp p fun c => c.modPair q Pair.breakFails).raiseIf b .port).modCp p
        fun c => { c with ready := c.ready && c.anyAligned }).cp p = (s.cp p).breakFails q := by
      have apart : (PairState.failed == PairState.aligned) = false := rfl
      cases q <;> simp [Coupler.breakFails, Coupler.anyAligned, Coupler.modPair, Coupler.pair, otherPair, Pair.breakFails, apart]
    obtain ⟨lr, nm, port, node, system, host⟩ := only.kicked
    refine completes_done ?_
    rw [State.hostKick_cp, cp]
    refine ⟨?_, ?_, ?_, ?_, rfl, ?_, ?_, lr, nm, port, node, system, host⟩
    iterate 4 cases q <;> rfl
    · cases q <;> exact aligning
    · cases q <;> rfl
  · have ticks : s.ticking = true := by simp [State.ticking, released, clocked]
    change completes (State.done (if s.expires ((s.cp p).pair q).silence 20 then _ else s)) _
    rw [if_pos ((s.expires_iff _ _).mpr ⟨ticks, due⟩), State.changePair_of_none none]
    refine completes_modPair fun t cp ⟨lr, nm, port, node, system, host⟩ _ => ⟨?_, ?_, ?_, ?_, ?_, lr, nm, port, node, system, host⟩
    · rw [cp, Coupler.modPair_pair, Pair.silenceExpires]
      split <;> rfl
    · rw [cp, Coupler.modPair_pair]
      rfl
    · rw [cp, Coupler.modPair_pair]
      rfl
    · rw [cp, Coupler.modPair_pair_other]
    · rw [cp, Coupler.modPair_rest]

end Sys2Proof.Machine
end

section
/-! Alignment and PATTERN frames (01 R9 to R13, R18). -/

namespace Sys2Proof.Machine

/-! ### Scanning -/

/-- A scanned position is recorded, and below sixteen the pair scans on (01 R9). -/
theorem Pair.scanOne_scans {x : Pair} {pass : Bool} (below : (x.passes ++ [pass]).length < 16) :
    x.scanOne pass = { x with passes := x.passes ++ [pass] } := if_pos below

/-- At the sixteenth the pair takes its window (01 R10). -/
theorem Pair.scanOne_ends {x : Pair} {pass : Bool} (sixteen : (x.passes ++ [pass]).length = 16) :
    x.scanOne pass = ({ x with passes := x.passes ++ [pass] } : Pair).computeWindow := if_neg (Nat.not_lt.mpr sixteen.ge)

theorem Pair.computeWindow_aligned {x : Pair} {phase : Nat} (window : windowPhase x.passes = some phase) :
    x.computeWindow = { x with st := .aligned, phase } := by rw [Pair.computeWindow, window]

theorem Pair.computeWindow_failed {x : Pair} (noWindow : windowPhase x.passes = none) :
    x.computeWindow = { x with st := .failed } := by rw [Pair.computeWindow, noWindow]

theorem Coupler.noneLive_eq_false_iff (c : Coupler) (q : PairId) :
    c.noneLive = false ↔ (c.pair q).live = true ∨ (c.pair (otherPair q)).live = true := by
  cases q <;> simp only [Coupler.noneLive, Coupler.pair, otherPair] <;> cases c.pairA.live <;> cases c.pairB.live <;> simp

/-- The port after a repetition that leaves a pair SCANNING or ALIGNED: one pair has changed, and its own ready flag follows. -/
theorem completes_repetition {s : State} {p : PortId} {q : PairId} {bits : BitVec 32} {y : Pair} (clocked : s.clocked = true)
    (aligning : (s.cp p).st = .aligning) (scanning : ((s.cp p).pair q).st = .scanning)
    (scanned : ((s.cp p).pair q).scanOne (decide (bits = 0x55555555#32)) = y)
    (live : y.live = true ∨ ((s.cp p).pair (otherPair q)).live = true) {P : State → Prop}
    (h : ∀ t, (t.cp p).pair q = y → (t.cp p).pair (otherPair q) = (s.cp p).pair (otherPair q) → (t.cp p).st = .aligning →
      ((t.cp p).ready = true ∨ y.st ≠ .aligned) → OnlyCoupler s t p → P t) :
    completes (exec (.patternRepetition p q bits) s) P := by
  change completes (State.done (if s.clocked = true ∧ (s.cp p).st = .aligning ∧ ((s.cp p).pair q).st = .scanning then _ else s)) P
  rw [if_pos ⟨clocked, aligning, scanning⟩, State.repetition]
  have passes : patternPasses bits = decide (bits = 0x55555555#32) := rfl
  have cp : (s.modCp p fun c => (c.modPair q fun x => x.scanOne (patternPasses bits)).setReady).cp p =
      ((s.cp p).modPair q fun _ => y).setReady := by
    rw [State.modCp_cp, passes, ← scanned]
    cases q <;> rfl
  have goesOn : (((s.cp p).modPair q fun _ => y).setReady).noneLive = false := by
    refine (Coupler.noneLive_eq_false_iff _ q).mpr ?_
    cases q <;> exact live
  rw [if_neg (by rw [cp, goesOn]; simp)]
  refine completes_done (h _ ?_ ?_ ?_ ?_ (OnlyCoupler.modCp s p _).kicked)
  all_goals rw [State.hostKick_cp, cp]
  · cases q <;> rfl
  · cases q <;> rfl
  · cases q <;> exact aligning
  · by_cases aligned : y.st = .aligned
    · left
      cases q <;> simp [Coupler.setReady, Coupler.anyAligned, Coupler.modPair, aligned]
    · exact .inr aligned

/-- Settles O13: the outcome of a repetition below sixteen, at the sixteenth with a window, and at the sixteenth without. -/
theorem repetitionScansAndAligns : Obligations.RepetitionScansAndAligns := by
  intro s p q bits clocked aligning scanning
  refine ⟨fun below => ?_, fun sixteen phase window => ?_, fun sixteen noWindow live => ?_⟩
  · refine completes_repetition clocked aligning scanning (Pair.scanOne_scans below) (.inl (by simp [Pair.live, scanning])) ?_
    exact fun t pair others st _ only => ⟨pair, others, st, only.lr, only.nm, only.node, only.other⟩
  · refine completes_repetition clocked aligning scanning
      ((Pair.scanOne_ends sixteen).trans (Pair.computeWindow_aligned window)) (.inl rfl) ?_
    exact fun t pair others st ready only =>
      ⟨pair, ready.resolve_right (fun h => h rfl), others, st, only.lr, only.nm, only.node, only.other⟩
  · refine completes_repetition clocked aligning scanning
      ((Pair.scanOne_ends sixteen).trans (Pair.computeWindow_failed noWindow)) (.inr live) ?_
    exact fun t pair others st _ only => ⟨pair, others, st, only.lr, only.nm, only.node, only.other⟩

end Sys2Proof.Machine
end

section
/-! PATTERN frames and frames of no other effect in ALIGNING, and PATTERN frames in LINKED (01 R11, R13, R18). -/

namespace Sys2Proof.Machine

/-! ### Kinds of frames -/

theorem bodyOfPayload_kindCode {kind : Nat} {payload : List Nat} {b : Body} (h : bodyOfPayload kind payload = some b) :
    b.kindCode = kind := by
  unfold bodyOfPayload at h
  split at h
  case h_4 =>
    obtain ⟨e, -, rfl⟩ := Option.map_eq_some_iff.mp h
    rfl
  case h_7 =>
    split at h
    · cases h
    · obtain ⟨e, -, rfl⟩ := Option.map_eq_some_iff.mp h
      rfl
  case h_11 =>
    split at h <;> cases h
    rfl
  case h_12 =>
    split at h <;> cases h
    rfl
  case h_13 =>
    split at h <;> cases h
    rfl
  case h_14 => cases h
  all_goals
    cases h
    rfl

theorem parseBody_kindCode (kind direction : Nat) (payload : List Nat) : (parseBody kind direction payload).kindCode = kind := by
  unfold parseBody
  split
  · cases h : bodyOfPayload kind payload with
    | none => rfl
    | some b => exact bodyOfPayload_kindCode h
  · rfl

/-- A frame that is not of kind PATTERN is taken as a good frame other than PATTERN (01 R13; log entry 31). -/
theorem State.anyFrame_of_kind {f : Frame} (kind : f.body.kindCode ≠ 0x01) (s : State) (p : PortId) (q : PairId) (seq : Nat) :
    s.anyFrame p q seq f = s.goodFrame p q seq f := by
  unfold State.anyFrame
  split
  · next body =>
    rw [body] at kind
    exact absurd rfl kind
  · next body =>
    rw [body] at kind
    exact if_neg kind
  · rfl

theorem exec_malformedFrame {kind : Nat} (other : kind ≠ 0x01) (s : State) (p : PortId) (q : PairId) (seq gen direction : Nat)
    (payload : List Nat) : exec (.malformedFrame p q seq gen kind direction payload) s =
      (s.goodFrame p q seq { gen, body := parseBody kind direction payload }).done := by
  change (s.anyFrame p q seq { gen, body := parseBody kind direction payload }).done = _
  rw [State.anyFrame_of_kind (by rwa [parseBody_kindCode])]

theorem exec_command {f : Frame} (classed : f.body.cls.isSome = true) (s : State) (p : PortId) (q : PairId) (seq : Nat) :
    exec (f.command p q seq) s = (s.goodFrame p q seq f).done := by
  obtain ⟨gen, body⟩ := f
  cases body
  case pattern => cases classed
  case raw => cases classed
  all_goals rfl

/-! ### ALIGNING -/

theorem State.framing_of_aligned {s : State} {p : PortId} {q : PairId} (clocked : s.clocked = true)
    (aligning : (s.cp p).st = .aligning) (aligned : ((s.cp p).pair q).st = .aligned) : s.framing p q = true := by
  simp [State.framing, Coupler.framing, clocked, aligning, aligned]

theorem Coupler.frameTaken_eq (c : Coupler) (q : PairId) :
    c.frameTaken q = { c.modPair q Pair.closeFrame with heldTimer := c.heldTimerTaken q } := by
  rw [Coupler.frameTaken, Coupler.characterTaken_eq, Coupler.heldTimerTaken_modPair rfl]

/-- Where a port has linked: its pairs, its own part, and what its Line Relay and Neighbour Monitor hold. -/
theorem Pair.enterService_fields (x : Pair) :
    x.enterService.st = .inService ∧ x.enterService.silence = some 0 ∧ x.enterService.lastGood = none ∧
      (x.st = .aligned → x.enterService.phase = x.phase ∧ x.enterService.score = x.score) ∧
      (x.st ≠ .aligned → x.enterService.phase = 8 ∧ x.enterService.score = 15 ∧ x.enterService.degraded = true) := by
  refine ⟨rfl, rfl, rfl, fun aligned => ?_, fun apart => ?_⟩
  · simp [Pair.enterService, aligned]
  · simp [Pair.enterService, apart]

/-- The BEAT that a port offers as it enters LINKED joins its queue behind the PATTERN frame in transmission (02 R38). -/
theorem State.offerBeat_of_busy {s : State} {p : PortId} (takes : (s.cp p).takesFrames = true)
    (busy : (s.lr p).tx.isSome = true) :
    s.offerBeat p = s.modLr p fun r => r.enqueue .beat { gen := s.cc.gen, body := .beat (s.beatBody p) } :=
  State.offer_of_busy rfl takes busy

/-- A port that enters LINKED. -/
structure Linked (s t : State) (p : PortId) : Prop extends OnlyPort s t p where
  cp : { t.cp p with patternDue := true, answerGuard := (s.cp p).answerGuard } = (s.cp p).toLinked
  sends : (s.lr p).tx = none → (t.lr p).tx = some (.pattern true (s.cp p).rate) ∧ (t.cp p).patternDue = false
  waits : (s.lr p).tx.isSome = true → (t.lr p).tx = (s.lr p).tx ∧ (t.cp p).patternDue = true
  beat : (t.lr p).beat.frames = [{ gen := s.cc.gen, body := .beat (s.beatBody p) }]
  queues : { t.lr p with tx := (s.lr p).tx, beat := (s.lr p).beat } = s.lr p
  nm : t.nm p = { s.nm p with beatTimer := some 0, timeout := some 0 }
  tells : s.hl.masked .port = true → told t .port

theorem State.enterLinked_linked (s : State) (p : PortId) : Linked s (s.enterLinked p) p := by
  unfold State.enterLinked
  have entered := (OnlyPort.modCp s p Coupler.toLinked).trans (OnlyPort.raise _ p .port)
  have raises : s.hl.masked .port = true → told ((s.modCp p Coupler.toLinked).raise .port) .port :=
    fun masked => told_raise_self (by simpa using masked)
  have cp : ((s.modCp p Coupler.toLinked).raise .port).cp p = (s.cp p).toLinked := by simp
  have lr : ((s.modCp p Coupler.toLinked).raise .port).lr p = s.lr p := by simp
  have nm : ((s.modCp p Coupler.toLinked).raise .port).nm p = s.nm p := by simp
  generalize (s.modCp p Coupler.toLinked).raise .port = u at *
  have kicked := entered.trans (OnlyPort.kickLine u p)
  obtain ⟨idle, busy⟩ := State.kickLine_pattern (s := u) (p := p) (by rw [cp]; rfl) (by rw [cp]; rfl)
  have deaf : (u.cp p).hearOwn = u.cp p := Coupler.hearOwn_of_not_localLoop (by rw [cp]; rfl)
  rw [lr, deaf] at idle
  rw [lr] at busy
  have whole : { (u.kickLine p).cp p with patternDue := true, answerGuard := (s.cp p).answerGuard } = (s.cp p).toLinked ∧
      (u.kickLine p).lr p = { s.lr p with tx := ((u.kickLine p).lr p).tx } ∧ ((u.kickLine p).lr p).tx.isSome = true ∧
      ((s.lr p).tx = none → ((u.kickLine p).lr p).tx = some (.pattern true (s.cp p).rate) ∧
        ((u.kickLine p).cp p).patternDue = false) ∧
      ((s.lr p).tx.isSome = true → ((u.kickLine p).lr p).tx = (s.lr p).tx ∧ ((u.kickLine p).cp p).patternDue = true) := by
    cases tx : (s.lr p).tx with
    | none =>
      obtain ⟨lr', cp'⟩ := idle tx
      rw [lr', cp', cp]
      exact ⟨rfl, rfl, rfl, fun _ => ⟨rfl, rfl⟩, nofun⟩
    | some x =>
      obtain ⟨lr', cp'⟩ := busy (by rw [tx]; rfl)
      rw [lr', cp', cp]
      exact ⟨rfl, rfl, by rw [tx]; rfl, nofun, fun _ => ⟨tx, rfl⟩⟩
  have nbr : (u.kickLine p).nm p = s.nm p := by rw [State.kickLine_nm, nm]
  have told_ : s.hl.masked .port = true → told (u.kickLine p) .port := fun masked => told_of_hl (by simp) (raises masked)
  generalize u.kickLine p = v at *
  obtain ⟨vcp, vlr, sending, vidle, vbusy⟩ := whole
  have body : v.beatBody p = s.beatBody p := by
    have rate := congrArg Coupler.rate vcp
    have capped := congrArg Coupler.rateCapped vcp
    have active := congrArg Coupler.activeMax vcp
    have advertised : (v.cp p).advertised = (s.cp p).advertised := by
      unfold Coupler.advertised
      rw [show (v.cp p).rate = (s.cp p).rate from rate, show (v.cp p).rateCapped = (s.cp p).rateCapped from capped,
        show (v.cp p).activeMax = (s.cp p).activeMax from active]
    rw [State.beatBody, State.beatBody, advertised, show (v.cp p).rate = (s.cp p).rate from rate, kicked.system.1, kicked.node.1]
  have linked : (v.cp p).st = .linked := congrArg Coupler.st vcp
  rw [State.nmLinked, State.offerBeat_of_busy (by simp [Coupler.takesFrames, linked]) sending, body, kicked.node.1]
  have lr' : ((v.modLr p fun r => r.enqueue .beat { gen := s.cc.gen, body := .beat (s.beatBody p) }).modNm p
      fun n => { n with beatTimer := some 0, timeout := some 0 }).lr p =
      (v.lr p).enqueue .beat { gen := s.cc.gen, body := .beat (s.beatBody p) } := by simp
  refine ⟨kicked.trans ((OnlyPort.modLr v p _).trans (OnlyPort.modNm _ p _)), by simpa using vcp, fun none_ => ?_, fun some_ => ?_,
    ?_, ?_, by simp [nbr], fun masked => told_of_hl (by simp) (told_ masked)⟩
  · rw [lr', Relay.enqueue_tx, State.modNm_cp, State.modLr_cp]
    exact vidle none_
  · rw [lr', Relay.enqueue_tx, State.modNm_cp, State.modLr_cp]
    exact vbusy some_
  · rw [lr', Relay.enqueue_beat]
    dsimp only
    split <;> rfl
  · rw [lr', vlr]
    rfl

theorem completes_iff_done {s : State} {P : State → Prop} : completes s.done P ↔ P s.hostKick :=
  ⟨fun ⟨_, e, h⟩ => Host.Outcome.next.inj e ▸ h, completes_done⟩

/-- A good frame other than PATTERN, discarded in ALIGNING, as the port, the pairs and the rest show it. -/
theorem completes_discarded {s : State} {p : PortId} {q : PairId} (frames : s.framing p q = true)
    (aligning : (s.cp p).st = .aligning) (seq : Nat) (f : Frame) :
    completes (s.goodFrame p q seq f).done fun t =>
      (t.cp p).aligningDiscards = min 65535 ((s.cp p).aligningDiscards + 1) ∧
      (t.cp p).heldTimer = (if q = (s.cp p).preferred ∧ (s.cp p).held.isSome = true then some 0 else (s.cp p).heldTimer) ∧
      (t.cp p).pair q = { (s.cp p).pair q with inFrame := false } ∧
      (t.cp p).pair (otherPair q) = (s.cp p).pair (otherPair q) ∧
      { t.cp p with
        pairA := (s.cp p).pairA, pairB := (s.cp p).pairB, heldTimer := (s.cp p).heldTimer,
        aligningDiscards := (s.cp p).aligningDiscards } = s.cp p ∧
      t.lr p = s.lr p ∧ t.nm p = s.nm p ∧ t.port (other p) = s.port (other p) ∧ sameNode s t ∧ sameSystem s t ∧ sameHost s t := by
  rw [State.goodFrame_of_aligning frames aligning]
  obtain ⟨lr, nm, port, node, system, host⟩ := ((OnlyCoupler.modCp s p fun c => c.frameTaken q).trans
    (OnlyCoupler.modCp _ p fun c => { c with aligningDiscards := inc16 c.aligningDiscards })).kicked
  refine completes_done ⟨?_, ?_, ?_, ?_, ?_, lr, nm, port, node, system, host⟩
  all_goals rw [State.hostKick_cp, State.modCp_cp, State.modCp_cp, Coupler.frameTaken_eq]
  all_goals cases q <;> rfl

theorem Coupler.frameTaken_rest (c : Coupler) (q : PairId) :
    { c.frameTaken q with pairA := c.pairA, pairB := c.pairB, heldTimer := c.heldTimer } = c := by
  rw [Coupler.frameTaken_eq]
  cases q <;> rfl

theorem Coupler.frameTaken_pair (c : Coupler) (q x : PairId) :
    ((c.frameTaken q).pair x).st = (c.pair x).st ∧ ((c.frameTaken q).pair x).phase = (c.pair x).phase ∧
      ((c.frameTaken q).pair x).score = (c.pair x).score := by
  rw [Coupler.frameTaken_eq]
  cases q <;> cases x <;> exact ⟨rfl, rfl, rfl⟩

/-- Settles O14: any other frame is discarded, and a ready PATTERN at the attempt's rate links the port. -/
theorem readyPatternLinksThePort : Obligations.ReadyPatternLinksThePort := by
  intro s p q f seq gen kind direction payload clocked aligning aligned
  have frames := State.framing_of_aligned clocked aligning aligned
  refine ⟨fun classed => ?_, fun noPattern => ?_, ?_⟩
  · rw [exec_command classed]
    exact completes_discarded frames aligning seq f
  · rw [exec_malformedFrame noPattern]
    exact completes_discarded frames aligning seq _
  · change completes (s.goodPattern p q true (s.cp p).rate).done _
    have taken := OnlyPort.modCp s p fun c => c.frameTaken q
    have cp : (s.modCp p fun c => c.frameTaken q).cp p = (s.cp p).frameTaken q := by simp
    have lr : (s.modCp p fun c => c.frameTaken q).lr p = s.lr p := by simp
    have nm : (s.modCp p fun c => c.frameTaken q).nm p = s.nm p := by simp
    have links : s.goodPattern p q true (s.cp p).rate = (s.modCp p fun c => c.frameTaken q).enterLinked p := by
      rw [State.goodPattern, if_pos frames, State.patternScore, aligning]
      exact if_pos ⟨rfl, rfl⟩
    rw [links]
    generalize (s.modCp p fun c => c.frameTaken q) = u at *
    have linked := u.enterLinked_linked p
    generalize u.enterLinked p = t at *
    obtain ⟨other, node, system, host⟩ := (taken.trans linked.toOnlyPort).kicked
    have rest : { u.cp p with pairA := (s.cp p).pairA, pairB := (s.cp p).pairB, heldTimer := (s.cp p).heldTimer } = s.cp p := by
      rw [cp, Coupler.frameTaken_rest]
    have rate : (u.cp p).rate = (s.cp p).rate := (congrArg Coupler.rate rest :)
    have advertised : (u.cp p).advertised = (s.cp p).advertised := (congrArg Coupler.advertised rest :)
    have beat : u.beatBody p = s.beatBody p := by
      rw [State.beatBody, State.beatBody, advertised, rate, taken.system.1, taken.node.1]
    have queues := linked.queues
    rw [lr] at queues
    simp only [completes_iff_done, State.hostKick_cp, State.hostKick_lr, State.hostKick_nm]
    refine ⟨(congrArg Coupler.st linked.cp :), (congrArg Coupler.rate linked.cp :).trans rate, (congrArg Coupler.attemptTimer linked.cp :),
      (congrArg Coupler.failCount linked.cp :), (congrArg Coupler.txSeq linked.cp :), (congrArg Coupler.lastDelivered linked.cp :),
      (congrArg Coupler.step linked.cp :), (congrArg Coupler.patternTimer linked.cp :), fun x => ?_, fun idle => ?_, fun busy => ?_, ?_,
      (congrArg Relay.control queues :), (congrArg Relay.door queues :), (congrArg Relay.grant queues :), (congrArg Relay.sweep queues :),
      (congrArg Relay.slot queues :), (congrArg Relay.dropped queues :), by rw [linked.nm, nm],
      fun masked => told_hostKick (linked.tells (by rwa [taken.masked])), other, node, system, host⟩
    · have pair : (t.cp p).pair x = ((u.cp p).pair x).enterService := by
        have := congrArg (Coupler.pair · x) linked.cp
        cases x <;> exact this
      obtain ⟨st, phase, score⟩ := (s.cp p).frameTaken_pair q x
      have service := ((u.cp p).pair x).enterService_fields
      rw [cp, st, phase, score, ← cp, ← pair] at service
      exact service
    · rw [← rate]
      exact linked.sends (by rw [lr, idle])
    · rw [← lr]
      exact linked.waits (by rw [lr, busy])
    · rw [linked.beat, beat, taken.node.1]
      rfl

end Sys2Proof.Machine
end

section
/-! A PATTERN frame in LINKED (01 R13, R18). -/

namespace Sys2Proof.Machine

/-- A pair of a LINKED port after a good PATTERN frame (01 R18, R19). -/
def Pair.patternEnded (x : Pair) : Pair := x.closeFrame.goodScore.restartSilence

/-- A LINKED port with no held copy after the score of a good PATTERN frame. -/
structure PatternTaken (s t : State) (p : PortId) (q : PairId) : Prop extends OnlyPort s t p where
  cp : t.cp p = (s.cp p).modPair q Pair.patternEnded
  lr : t.lr p = s.lr p
  nm : t.nm p = s.nm p

theorem State.patternScore_taken {s : State} {p : PortId} {q : PairId} (linked : (s.cp p).st = .linked)
    (none : (s.cp p).held = none) : PatternTaken s (s.patternScore p q) p q := by
  rw [State.patternScore, linked, State.modCp_congr (g := fun c => c.modPair q Pair.closeFrame) (Coupler.frameTaken_of_none none q)]
  dsimp only
  rw [State.modCp_changePair none rfl]
  exact ⟨(OnlyPort.modCp s p _).trans (OnlyPort.raiseIf _ p _ _), by simp; rfl, by simp, by simp⟩

theorem OnlyPort.answerPattern (s : State) (p : PortId) : OnlyPort s (s.answerPattern p) p := by
  unfold State.answerPattern
  split
  · exact OnlyPort.refl s p
  · exact (OnlyPort.modCp s p _).trans (OnlyPort.kickLine _ p)

/-- A LINKED port answers a PATTERN frame with ready set by one of its own, at once when its transmitter is idle (01 R13). -/
theorem State.answerPattern_linked {s : State} {p : PortId} (linked : (s.cp p).st = .linked) (free : (s.cp p).answerGuard = none) :
    ((s.lr p).tx = none → (s.answerPattern p).lr p = { s.lr p with tx := some (.pattern true (s.cp p).rate) } ∧
      (s.answerPattern p).cp p = { s.cp p with patternDue := false, answerGuard := some 0 }) ∧
    ((s.lr p).tx.isSome = true → (s.answerPattern p).lr p = s.lr p ∧
      (s.answerPattern p).cp p = { s.cp p with patternDue := true }) ∧
    (s.answerPattern p).nm p = s.nm p := by
  rw [State.answerPattern, if_neg (by simp [free])]
  obtain ⟨idle, busy⟩ := State.kickLine_pattern (s := s.modCp p fun c => { c with patternDue := true }) (p := p) (by simp)
    (by simp [Coupler.maySendPattern, linked])
  have deaf : ((s.modCp p fun c => { c with patternDue := true }).cp p).hearOwn = { s.cp p with patternDue := true } := by
    rw [State.modCp_cp, Coupler.hearOwn_of_not_localLoop (by simp [Coupler.localLoop, linked])]
  rw [deaf] at idle
  refine ⟨fun none_ => ?_, fun some_ => ?_, by simp⟩
  · obtain ⟨lr, cp⟩ := idle (by simpa using none_)
    exact ⟨by simpa [Coupler.patternReady, linked] using lr, cp⟩
  · obtain ⟨lr, cp⟩ := busy (by simpa using some_)
    exact ⟨by simpa using lr, by simpa using cp⟩

/-- Settles O15: another rate, a ready PATTERN with and without an answer, and a PATTERN that is not ready. -/
theorem patternInLinkedAnswersOrRealigns : Obligations.PatternInLinkedAnswersOrRealigns := by
  intro s p q ready rate clocked linked none
  change completes (s.goodPattern p q ready rate).done _
  rw [State.goodPattern, if_pos (State.framing_of_linked clocked linked q), linked]
  have taken := State.patternScore_taken (q := q) linked none
  generalize s.patternScore p q = u at *
  have score : ((u.cp p).pair q).score = ((s.cp p).pair q).score - 1 := by rw [taken.cp, Coupler.modPair_pair]; rfl
  have scoreOther : ((u.cp p).pair (otherPair q)).score = ((s.cp p).pair (otherPair q)).score := by
    rw [taken.cp, Coupler.modPair_pair_other]
  have silence : ((u.cp p).pair q).silence = some 0 := by rw [taken.cp, Coupler.modPair_pair]; rfl
  have st : (u.cp p).st = .linked := by rw [taken.cp, Coupler.modPair_st, linked]
  have urate : (u.cp p).rate = (s.cp p).rate := by rw [taken.cp, Coupler.modPair_rate]
  have guard : (u.cp p).answerGuard = (s.cp p).answerGuard := by rw [taken.cp, Coupler.modPair_answerGuard]
  obtain ⟨other, node, system, host⟩ := taken.toOnlyPort.kicked
  dsimp only
  split
  · next differs =>
    refine completes_done ⟨by simpa using score, by simpa using scoreOther, fun _ => ?_, fun same => absurd same differs,
      fun same => absurd same differs⟩
    exact ⟨by simpa using st, by simpa using silence, by simp [taken.lr], by simp [taken.nm], other, node, system, host⟩
  · next same =>
    have same : rate = (s.cp p).rate := not_not.mp same
    split
    · next isReady =>
      cases free : (s.cp p).answerGuard with
      | some e =>
        rw [State.answerPattern, if_pos (by simp [guard, free])]
        refine completes_done ⟨by simpa using score, by simpa using scoreOther, fun _ => ?_, nofun, by simp [isReady]⟩
        exact ⟨by simpa using st, by simpa using silence, by simp [taken.lr], by simp [taken.nm], other, node, system, host⟩
      | none =>
        obtain ⟨idle, busy, nm⟩ := State.answerPattern_linked st (guard.trans free)
        obtain ⟨other, node, system, host⟩ := (taken.toOnlyPort.trans (OnlyPort.answerPattern u p)).kicked
        have pair (x : PairId) : ((u.answerPattern p).cp p).pair x = (u.cp p).pair x := by
          cases tx : (u.lr p).tx with
          | none => rw [(idle tx).2]; cases x <;> rfl
          | some y => rw [(busy (by rw [tx]; rfl)).2]; cases x <;> rfl
        have stays : ((u.answerPattern p).cp p).st = .linked := by
          cases tx : (u.lr p).tx with
          | none => rw [(idle tx).2]; exact st
          | some y => rw [(busy (by rw [tx]; rfl)).2]; exact st
        rw [taken.lr] at idle busy
        refine completes_done ?_
        rw [State.hostKick_cp, State.hostKick_lr, State.hostKick_nm, pair, pair, stays, nm, taken.nm]
        refine ⟨score, scoreOther, ?_, fun _ _ _ => ⟨rfl, fun none_ => ?_, fun some_ => ?_, rfl, other, node, system, host⟩,
          by simp [isReady]⟩
        · rintro (differs | ⟨-, guarded⟩)
          · exact absurd same differs
          · cases guarded
        · obtain ⟨lr', cp'⟩ := idle none_
          rw [lr', cp', same, urate]
          exact ⟨rfl, rfl, rfl⟩
        · obtain ⟨lr', cp'⟩ := busy some_
          rw [lr', cp']
          exact ⟨rfl, rfl⟩
    · next notReady =>
      have opened := State.portToOpen_opened (s := u) (p := p) (by simp [st]) .realign
      have crc (x : PairId) : ((u.cp p).pair x).crcErrors = ((s.cp p).pair x).crcErrors := by
        rw [taken.cp]
        cases q <;> cases x <;> rfl
      obtain ⟨keeps, -⟩ := (u.cp p).toOpen_leftTo_pair .realign ((u.portToOpen p .realign).fromOpen p) q
      obtain ⟨keepsOther, -⟩ := (u.cp p).toOpen_leftTo_pair .realign ((u.portToOpen p .realign).fromOpen p) (otherPair q)
      refine completes_done ⟨?_, ?_, ?_, fun _ isReady => absurd isReady notReady, fun _ _ => openedWith_hostKick
        (opened.openedWith_of taken.toOnlyPort taken.lr (by rw [taken.cp, Coupler.modPair_stagedMax]) crc (by rw [taken.nm]))⟩
      · rw [State.hostKick_cp, opened.cp, keeps, score]
      · rw [State.hostKick_cp, opened.cp, keepsOther, scoreOther]
      · rintro (differs | ⟨isReady, -⟩)
        · exact absurd same differs
        · exact absurd isReady notReady

end Sys2Proof.Machine
end

section
/-! The arbiter's choice and the transmitter (02 R36 to R42). -/

namespace Sys2Proof.Machine

/-! ### The arbiter -/

/-- The current level of a queue's head (02 R40). -/
def Relay.level (r : Relay) (c : Cls) : Nat := headLevel c (r.queue c).aged

/-- Queue c comes before queue d: it has the better level, or an equal one and the earlier class (02 R41). -/
def Relay.Before (r : Relay) (c d : Cls) : Prop :=
  r.level c < r.level d ∨ r.level c = r.level d ∧ initialLevel c ≤ initialLevel d

/-- The arbiter's best among some classes. -/
structure BestOf (r : Relay) (l : List Cls) (best : Option Cls) : Prop where
  empty : best = none → ∀ c ∈ l, (r.queue c).frames = []
  head : ∀ c, best = some c → c ∈ l ∧ (r.queue c).frames ≠ [] ∧ ∀ d ∈ l, (r.queue d).frames ≠ [] → r.Before c d

theorem BestOf.snoc {r : Relay} {l : List Cls} {best : Option Cls} (h : BestOf r l best) {c : Cls}
    (later : ∀ d ∈ l, initialLevel d ≤ initialLevel c) : BestOf r (l ++ [c]) (betterClass r best c) := by
  unfold betterClass
  split
  · next empty =>
    refine ⟨fun none_ d mem => ?_, fun d some_ => ?_⟩
    · rcases List.mem_append.mp mem with mem | mem
      · exact h.empty none_ d mem
      · rw [List.mem_singleton.mp mem, empty]
    · obtain ⟨mem, filled, before⟩ := h.head d some_
      refine ⟨List.mem_append_left _ mem, filled, fun e mem' filled' => ?_⟩
      rcases List.mem_append.mp mem' with mem' | mem'
      · exact before e mem' filled'
      · rw [List.mem_singleton.mp mem', empty] at filled'
        exact absurd rfl filled'
  · next filled =>
    refine ⟨nofun, fun d some_ => ?_⟩
    cases some_
    refine ⟨by simp, by simp [filled], fun e mem' filled' => ?_⟩
    rcases List.mem_append.mp mem' with mem' | mem'
    · exact absurd (h.empty rfl e mem') filled'
    · rw [List.mem_singleton.mp mem']
      exact .inr ⟨rfl, le_rfl⟩
  · next b filled =>
    obtain ⟨mem, filledB, before⟩ := h.head b rfl
    split
    · next better =>
      refine ⟨nofun, fun d some_ => ?_⟩
      cases some_
      refine ⟨by simp, by simp [filled], fun e mem' filled' => ?_⟩
      rcases List.mem_append.mp mem' with mem' | mem'
      · have lt : r.level c < r.level b := better
        rcases before e mem' filled' with h | ⟨h, -⟩
        · exact .inl (lt.trans h)
        · exact .inl (h ▸ lt)
      · rw [List.mem_singleton.mp mem']
        exact .inr ⟨rfl, le_rfl⟩
    · next notBetter =>
      refine ⟨nofun, fun d some_ => ?_⟩
      cases some_
      refine ⟨List.mem_append_left _ mem, filledB, fun e mem' filled' => ?_⟩
      rcases List.mem_append.mp mem' with mem' | mem'
      · exact before e mem' filled'
      · rw [List.mem_singleton.mp mem']
        have le : r.level b ≤ r.level c := Nat.not_lt.mp notBetter
        exact le.lt_or_eq.imp id fun e => ⟨e, later b mem⟩

theorem Relay.choice_best (r : Relay) : BestOf r classOrder r.choice := by
  have start : BestOf r [] none := ⟨by simp, nofun⟩
  have control := start.snoc (c := .control) (by simp)
  have door := control.snoc (c := .door) (by decide)
  have grant := door.snoc (c := .grant) (by decide)
  have sweep := grant.snoc (c := .sweep) (by decide)
  exact sweep.snoc (c := .beat) (by decide)

theorem mem_classOrder (c : Cls) : c ∈ classOrder := by cases c <;> decide

theorem initialLevel_inj {c d : Cls} (h : initialLevel c = initialLevel d) : c = d := by
  cases c <;> cases d <;> simp_all [initialLevel]

theorem Relay.choice_eq_some_iff (r : Relay) (c : Cls) :
    r.choice = some c ↔ (r.queue c).frames ≠ [] ∧ ∀ d, (r.queue d).frames ≠ [] → r.Before c d := by
  have best := r.choice_best
  refine ⟨fun chosen => ?_, fun ⟨filled, before⟩ => ?_⟩
  · obtain ⟨-, filled, before⟩ := best.head c chosen
    exact ⟨filled, fun d => before d (mem_classOrder d)⟩
  · cases chosen : r.choice with
    | none => exact absurd (best.empty chosen c (mem_classOrder c)) filled
    | some d =>
      obtain ⟨-, filledD, beforeD⟩ := best.head d chosen
      have there := before d filledD
      have back := beforeD c (mem_classOrder c) filled
      simp only [Relay.Before] at there back
      rw [initialLevel_inj (c := c) (d := d) (by omega)]

theorem Relay.choice_eq_none_iff (r : Relay) : r.choice = none ↔ ∀ c, (r.queue c).frames = [] := by
  refine ⟨fun none_ c => r.choice_best.empty none_ c (mem_classOrder c), fun empty => ?_⟩
  cases chosen : r.choice with
  | none => rfl
  | some d => exact absurd (empty d) (r.choice_best.head d chosen).2.1

/-- Settles O23: the fold over the class order keeps the best head seen. -/
theorem arbiterTakesTheBestLevel : Obligations.ArbiterTakesTheBestLevel := by
  intro r c
  refine ⟨r.choice_eq_some_iff c, r.choice_eq_none_iff, Nat.sub_zero _, fun inv filled notDue => ?_⟩
  obtain ⟨-, -, aged⟩ := r.inv_iff.mp inv
  have due : ¬ (r.queue c).aged < (r.queue c).agings c := by simpa [ClassQueue.agingDue, filled] using notDue
  have aged := aged c
  simp only [ClassQueue.agings] at aged due
  simp only [headLevel]
  omega

/-! ### Offered frames -/

theorem Relay.enqueue_of_room {r : Relay} {c : Cls} (f : Frame) (noBeat : c ≠ .beat) (room : (r.queue c).frames.length < 4) :
    r.enqueue c f = r.setQueue c ((r.queue c).hold ((r.queue c).frames ++ [f])) := by
  cases c
  case beat => exact absurd rfl noBeat
  all_goals exact if_pos room

theorem Relay.enqueue_of_full {r : Relay} {c : Cls} (f : Frame) (noBeat : c ≠ .beat) (full : 4 ≤ (r.queue c).frames.length) :
    r.enqueue c f = { r with slot := some (c, f), overrun := if r.slot.isSome then inc8 r.overrun else r.overrun } := by
  cases c
  case beat => exact absurd rfl noBeat
  all_goals exact if_neg (Nat.not_lt.mpr full)

/-- A frame that joins an empty queue is its head. -/
theorem Relay.enqueue_of_empty {r : Relay} {c : Cls} (f : Frame) (empty : (r.queue c).frames = []) :
    r.enqueue c f = r.setQueue c { frames := [f], waited := 0, aged := 0 } := by
  by_cases beat : c = .beat
  · subst beat
    have empty : r.beat.frames = [] := empty
    rw [Relay.enqueue_beat, if_pos empty]
    rfl
  · rw [Relay.enqueue_of_room f beat (by simp [empty]), ClassQueue.hold, if_pos empty, empty]
    rfl

/-- The relay after the head of a class's queue is handed over (02 R39, R41). -/
def Relay.handed (r : Relay) (c : Cls) (rest : List Frame) : Relay :=
  { r.setQueue c { frames := (joinFromSlot c rest r.slot).1, waited := 0, aged := 0 } with
    slot := (joinFromSlot c rest r.slot).2 }

theorem Relay.handed_queue (r : Relay) (c : Cls) (rest : List Frame) (x : Option LineTx) (d : Cls) :
    ({ r.handed c rest with tx := x } : Relay).queue d =
      if d = c then { frames := (joinFromSlot c rest r.slot).1, waited := 0, aged := 0 } else r.queue d := by
  have lines (u : Relay) (y : Option (Cls × Frame)) : ({ u with slot := y, tx := x } : Relay).queue d = u.queue d := by
    cases d <;> rfl
  refine (lines (r.setQueue c _) _).trans ?_
  split
  · next same => rw [same, Relay.setQueue_queue]
  · next other => exact Relay.setQueue_queue_ne _ _ other

/-- The port after its transmitter has started the head of a class's queue (01 R4, 02 R41). -/
def State.started (s : State) (p : PortId) (c : Cls) (f : Frame) (rest : List Frame) : State :=
  (s.modLr p fun r => { r.handed c rest with tx := some (.frame c (s.cp p).txSeq f (s.cp p).stepPending) }).modCp p
    fun k => { k with txSeq := (k.txSeq + 1) % 256 }

theorem State.modLr_congr {s : State} {p : PortId} {f g : Relay → Relay} (h : f (s.lr p) = g (s.lr p)) : s.modLr p f = s.modLr p g :=
  congrArg (fun n => s.setPort p { s.port p with lr := n }) h

theorem State.modLr_eq {s : State} {p : PortId} {f : Relay → Relay} {r : Relay} (h : f (s.lr p) = r) :
    s.modLr p f = s.modLr p fun _ => r := State.modLr_congr h

/-- An idle transmitter of a LINKED port with no PATTERN frame due takes the arbiter's choice (02 R41). -/
theorem State.kickLine_of_choice {s : State} {p : PortId} {c : Cls} {f : Frame} {rest : List Frame} (idle : (s.lr p).tx = none)
    (notDue : (s.cp p).patternDue = false) (linked : (s.cp p).st = .linked) (choice : (s.lr p).choice = some c)
    (frames : ((s.lr p).queue c).frames = f :: rest) : s.kickLine p = s.started p c f rest := by
  have kick : s.kickLine p = s.startFrame p c := by simp [State.kickLine, idle, notDue, linked, choice]
  have head : (s.lr p).takeHead c = some (f, (s.lr p).handed c rest) := by rw [Relay.takeHead, frames]; rfl
  rw [kick, State.startFrame, head, State.started]
  exact congrArg (State.modCp · p _) (State.modLr_congr rfl)

theorem OnlyPort.started (s : State) (p : PortId) (c : Cls) (f : Frame) (rest : List Frame) : OnlyPort s (s.started p c f rest) p :=
  (OnlyPort.modLr s p _).trans (OnlyPort.modCp _ p _)

theorem Relay.waitingFrames_of_empty {r : Relay} (empty : ∀ c, (r.queue c).frames = []) (slot : r.slot = none) :
    r.waitingFrames = 0 := by
  have control := empty .control
  have door := empty .door
  have grant := empty .grant
  have sweep := empty .sweep
  have beat := empty .beat
  simp only [Relay.queue] at control door grant sweep beat
  simp [Relay.waitingFrames, control, door, grant, sweep, beat, slot]

/-- Settles O21: the cases of an offered frame by port state, transmitter and queue. -/
theorem offeredFramesQueueWaitOrDrop : Obligations.OfferedFramesQueueWaitOrDrop := by
  intro s p f c classed
  refine ⟨fun deaf => ?_, fun takes busy noBeat => ?_, fun linked idle notDue choice slot => ?_⟩
  · rw [State.offer, classed]
    exact if_neg (by rcases deaf with h | h | h <;> simp [Coupler.takesFrames, h])
  · have takes : (s.cp p).takesFrames = true := by rcases takes with h | h <;> simp [Coupler.takesFrames, h]
    rw [State.offer_of_busy classed takes busy]
    refine ⟨fun room => ?_, fun full => ?_⟩
    · rw [State.modLr_eq (Relay.enqueue_of_room f noBeat room)]
      refine ⟨by simp, fun c' other => ?_, by simp, by simp, by simp, by simp⟩
      rw [State.modLr_lr, Relay.setQueue_queue_ne _ _ other]
    · rw [State.modLr_eq (Relay.enqueue_of_full f noBeat full)]
      exact State.modLr_congr rfl
  · have empty := ((s.lr p).choice_eq_none_iff).mp choice
    have takes : (s.cp p).takesFrames = true := by simp [Coupler.takesFrames, linked]
    rw [State.offer_of_takesFrames classed takes, State.modLr_eq (Relay.enqueue_of_empty f (empty c))]
    have others (d : Cls) (ne : d ≠ c) :
        (((s.lr p).setQueue c { frames := [f], waited := 0, aged := 0 }).queue d).frames = [] := by
      rw [Relay.setQueue_queue_ne _ _ ne, empty]
    have chosen : ((s.lr p).setQueue c { frames := [f], waited := 0, aged := 0 }).choice = some c := by
      refine (Relay.choice_eq_some_iff _ c).mpr ⟨by simp, fun d filled => ?_⟩
      by_cases same : d = c
      · exact .inr (same ▸ ⟨rfl, le_rfl⟩)
      · exact absurd (others d same) filled
    rw [State.kickLine_of_choice (c := c) (f := f) (rest := []) (by simpa using idle) (by simpa using notDue) (by simpa using linked)
      (by simpa using chosen) (by simp)]
    refine ⟨by simp [State.started], by simp [State.started], ?_, by simp [State.started]⟩
    refine Relay.waitingFrames_of_empty (fun d => ?_) (by simp [State.started, Relay.handed, joinFromSlot, slot])
    simp only [State.started, State.modCp_lr, State.modLr_lr, Relay.handed_queue, Relay.setQueue_slot, slot, joinFromSlot]
    split
    · rfl
    · next ne => exact others d ne

end Sys2Proof.Machine
end

section
/-! Aging and the end of a transmission (02 R39 to R41; 01 R4, R15, R25). -/

namespace Sys2Proof.Machine

/-- A port's transmitter has fallen idle. -/
def State.txEnded (s : State) (p : PortId) : State := s.modLr p fun r => { r with tx := none }

theorem exec_transmitEnd {s : State} {p : PortId} {x : LineTx} (clocked : s.clocked = true) (tx : (s.lr p).tx = some x)
    (noStep : x.startsStep = false) : exec (.transmitEnd p) s = (((s.txEnded p).hearOwn p x).kickLine p).done := by
  change State.done (if s.clocked then s.transmitEnd p else s) = _
  rw [if_pos clocked, State.transmitEnd, tx]
  dsimp only
  rw [if_neg (by simp [noStep])]
  rfl

theorem exec_transmitEnd_step {s : State} {p : PortId} {x : LineTx} {target : Nat} (clocked : s.clocked = true)
    (tx : (s.lr p).tx = some x) (starts : x.startsStep = true) (linked : (s.cp p).st = .linked)
    (step : (s.cp p).step = .pending target) (unbroken : (s.cp p).pairA.brk = false) :
    exec (.transmitEnd p) s =
      (((s.txEnded p).modCp p fun c => { c with step := .inProgress target }).beginAttempt p target).done := by
  change State.done (if s.clocked then s.transmitEnd p else s) = _
  rw [if_pos clocked, State.transmitEnd, tx]
  dsimp only
  rw [if_pos ⟨starts, linked, by simp [Coupler.stepPending, step]⟩]
  change ((s.txEnded p).beginStep p).done = _
  have pending : ((s.txEnded p).cp p).step = .pending target := by simpa [State.txEnded] using step
  rw [State.beginStep, pending]
  exact congrArg State.done (State.alignAttempt_of_unbroken (by simpa [State.txEnded] using unbroken) target)

/-- A port that is not in LOCAL LOOP does not hear the frame it has sent (01 R25). -/
theorem State.hearOwn_of_not_localLoop {s : State} {p : PortId} (apart : (s.cp p).localLoop = false) (x : LineTx) :
    s.hearOwn p x = s := by
  cases x <;> simp [State.hearOwn, State.loopBack, apart]

theorem Relay.choice_tx (r : Relay) (x : Option LineTx) : ({ r with tx := x } : Relay).choice = r.choice := rfl

/-! ### LOCAL LOOP -/

/-- A pair of a port in LOCAL LOOP after a good PATTERN frame (01 R25). -/
def Pair.looped (x : Pair) : Pair := x.closeFrame.goodScore

theorem Pair.withScore_degraded (x : Pair) (v : Nat) :
    (x.withScore v).degraded = (x.degraded && (v != 0) || !x.degraded && decide (12 ≤ v)) := by
  unfold Pair.withScore
  dsimp only
  split <;> simp_all

theorem Pair.looped_fields (x : Pair) :
    x.looped.inFrame = false ∧ x.looped.score = x.score - 1 ∧
      x.looped.degraded = (x.degraded && 1 < x.score || !x.degraded && 13 ≤ x.score) ∧ x.looped.crcErrors = x.crcErrors := by
  refine ⟨rfl, rfl, ?_, rfl⟩
  have above : (x.score - 1 != 0) = decide (1 < x.score) := by
    rw [Bool.eq_iff_iff, bne_iff_ne, decide_eq_true_iff]
    omega
  have reached : decide (12 ≤ x.score - 1) = decide (13 ≤ x.score) := decide_eq_decide.mpr (by omega)
  have taken := x.closeFrame.withScore_degraded (x.score - 1)
  rw [above, reached] at taken
  exact taken

/-- A PATTERN frame the port has sent ends good at a pair that frames it. -/
theorem State.loopBack_looped {s : State} {p : PortId} {q : PairId} (clocked : s.clocked = true)
    (loop : (s.cp p).localLoop = true) (none : (s.cp p).held = none) (inFrame : ((s.cp p).pair q).inFrame = true) (ready : Bool)
    (rate : Nat) : OnlyCoupler s (s.loopBack p q ready rate) p ∧
      (s.loopBack p q ready rate).cp p = (s.cp p).modPair q Pair.looped := by
  have st : (s.cp p).st = .loop := by
    simp only [Coupler.localLoop, Bool.and_eq_true, beq_iff_eq] at loop
    exact loop.1
  have mode : (s.cp p).loopMode = .localLoop := by
    simp only [Coupler.localLoop, Bool.and_eq_true, beq_iff_eq] at loop
    exact loop.2
  have frames : s.framing p q = true := by simp [State.framing, Coupler.framing, clocked, st, mode]
  have e : s.loopBack p q ready rate = (s.modCp p fun c => c.modPair q Pair.looped).raiseIf
      (((s.cp p).pair q).degraded != ((s.cp p).pair q).looped.degraded) .port := by
    rw [State.loopBack, if_pos (by simp [loop, inFrame]), State.goodPattern, if_pos frames, State.patternScore, st,
      State.modCp_congr (g := fun c => c.modPair q Pair.closeFrame) (Coupler.frameTaken_of_none none q)]
    exact State.modCp_changePair none rfl
  rw [e]
  exact ⟨(OnlyCoupler.modCp s p _).trans (OnlyCoupler.raiseIf _ p _ _), by simp⟩

theorem State.kickLine_of_rest {s : State} {p : PortId} (notDue : (s.cp p).patternDue = false)
    (rests : (s.cp p).st ≠ .linked ∨ (s.lr p).choice = none) : s.kickLine p = s := by
  unfold State.kickLine
  rcases rests with apart | choice
  · simp [notDue, apart]
  · simp [notDue, choice]

theorem exec_headFrameAging (s : State) (p : PortId) (c : Cls) : exec (.headFrameAging p c) s =
    (if s.ticking && s.headAges p c then s.modLr p fun r => r.setQueue c (r.queue c).age else s).done := rfl

/-- Settles O24: aging, the next frame of an idle transmitter, LOCAL LOOP, and the begin of a rate step. -/
theorem transmitEndSendsTheNextFrame : Obligations.TransmitEndSendsTheNextFrame := by
  intro s p x c f rest target ready rate clocked
  refine ⟨fun released linked filled waited level => ⟨?_, ?_⟩, fun notDue => ?_,
    fun linked tx noStep => ⟨fun due => ?_, fun notDue choice => ?_, fun notDue choice frames => ?_⟩,
    fun loop tx notDue none inA inB => ?_, fun linked tx starts step unbrokenA unbrokenB => ?_⟩
  · have ages : s.headAges p c = true := (s.headAges_iff p c).mpr ⟨linked, filled, waited, level⟩
    rw [exec_headFrameAging, if_pos (by simp [State.ticking, released, clocked, ages])]
    exact congrArg State.done (State.modLr_congr rfl)
  · simp only [headLevel] at level ⊢
    omega
  · have ages : s.headAges p c = false := by
      rw [Bool.eq_false_iff, ne_eq, State.headAges_iff]
      rintro ⟨linked, filled, waited, level⟩
      rcases notDue with h | h | h | h
      · exact h linked
      · exact filled h
      · omega
      · omega
    rw [exec_headFrameAging, if_neg (by simp [ages])]
    rfl
  · have apart : ((s.txEnded p).cp p).localLoop = false := by simp [State.txEnded, Coupler.localLoop, linked]
    rw [exec_transmitEnd clocked tx noStep, State.hearOwn_of_not_localLoop apart]
    have ended : OnlyPort s (s.txEnded p) p := OnlyPort.modLr s p _
    obtain ⟨idle, -⟩ := State.kickLine_pattern (s := s.txEnded p) (p := p) (by simpa [State.txEnded] using due)
      (by simp [State.txEnded, Coupler.maySendPattern, linked])
    obtain ⟨lr, cp⟩ := idle (by simp [State.txEnded])
    obtain ⟨other, node, system, host⟩ := (ended.trans (OnlyPort.kickLine _ p)).kicked
    refine completes_done ⟨?_, ?_, by simp [State.txEnded], other, node, system, host⟩
    · rw [State.hostKick_lr, lr]
      simp [State.txEnded, Coupler.patternReady, linked]
    · rw [State.hostKick_cp, cp]
  · have apart : ((s.txEnded p).cp p).localLoop = false := by simp [State.txEnded, Coupler.localLoop, linked]
    rw [exec_transmitEnd clocked tx noStep, State.hearOwn_of_not_localLoop apart,
      State.kickLine_of_rest (by simpa [State.txEnded] using notDue) (.inr (by rw [State.txEnded, State.modLr_lr]; exact choice))]
    have ended : OnlyPort s (s.txEnded p) p := OnlyPort.modLr s p _
    obtain ⟨other, node, system, host⟩ := ended.kicked
    exact completes_done ⟨by simp [State.txEnded], by simp [State.txEnded], by simp [State.txEnded], other, node, system, host⟩
  · have apart : ((s.txEnded p).cp p).localLoop = false := by simp [State.txEnded, Coupler.localLoop, linked]
    have queues (d : Cls) : ((s.txEnded p).lr p).queue d = (s.lr p).queue d := by
      rw [State.txEnded, State.modLr_lr]
      cases d <;> rfl
    rw [exec_transmitEnd clocked tx noStep, State.hearOwn_of_not_localLoop apart,
      State.kickLine_of_choice (c := c) (f := f) (rest := rest) (by simp [State.txEnded]) (by simpa [State.txEnded] using notDue)
        (by simpa [State.txEnded] using linked) (by rw [State.txEnded, State.modLr_lr]; exact choice) (by rw [queues, frames])]
    have ended : OnlyPort s (s.txEnded p) p := OnlyPort.modLr s p _
    obtain ⟨other, node, system, host⟩ := (ended.trans (OnlyPort.started _ p c f rest)).kicked
    have lr : ((s.txEnded p).started p c f rest).lr p = { ((s.lr p).handed c rest) with
        tx := some (.frame c (s.cp p).txSeq f (s.cp p).stepPending) } := by
      simp only [State.started, State.txEnded, State.modCp_lr, State.modLr_lr, State.modLr_cp]
      cases c <;> rfl
    have slot : ((s.lr p).handed c rest).slot = (joinFromSlot c rest (s.lr p).slot).2 := rfl
    refine completes_done ?_
    rw [State.hostKick_cp, State.hostKick_lr, State.hostKick_nm, lr]
    refine ⟨rfl, by simp [State.started, State.txEnded], ?_, ?_, fun d ne => ?_, fun g held => ⟨?_, ?_⟩,
      fun away => ?_, by simp [State.started, State.txEnded], other, node, system, host⟩
    · rw [Relay.handed_queue, if_pos rfl]
    · rw [Relay.handed_queue, if_pos rfl]
    · rw [Relay.handed_queue, if_neg ne]
    · rw [Relay.handed_queue, if_pos rfl]
      simp [joinFromSlot, held]
    · simp [slot, joinFromSlot, held]
    · rw [Relay.handed_queue, if_pos rfl, slot]
      cases held : (s.lr p).slot with
      | none => exact ⟨rfl, rfl⟩
      | some g =>
        have ne : g.1 ≠ c := fun e => away (by simp [held, e])
        simp [joinFromSlot, ne]
  · have ended : OnlyPort s (s.txEnded p) p := OnlyPort.modLr s p _
    have cp : (s.txEnded p).cp p = s.cp p := by simp [State.txEnded]
    have runs : (s.txEnded p).clocked = true := by rw [State.clocked, ended.system.1]; exact clocked
    obtain ⟨onlyA, cpA⟩ := State.loopBack_looped (s := s.txEnded p) (p := p) (q := .a) runs (by rwa [cp]) (by rwa [cp])
      (by rw [cp]; exact inA) ready rate
    rw [exec_transmitEnd clocked tx rfl, State.hearOwn]
    change completes ((((s.txEnded p).loopBack p .a ready rate).loopBack p .b ready rate).kickLine p).done _
    have loopA : (((s.txEnded p).loopBack p .a ready rate).cp p).localLoop = true := by
      rw [cpA, cp]
      exact loop
    generalize (s.txEnded p).loopBack p .a ready rate = u at *
    obtain ⟨onlyB, cpB⟩ := State.loopBack_looped (s := u) (p := p) (q := .b)
      (by rw [State.clocked, onlyA.system.1]; exact runs) loopA (by rw [cpA, cp]; exact none)
      (by rw [cpA, cp]; exact inB) ready rate
    generalize u.loopBack p .b ready rate = v at *
    have cpV : v.cp p = ((s.cp p).modPair .a Pair.looped).modPair .b Pair.looped := by rw [cpB, cpA, cp]
    have st : (s.cp p).st = .loop := by
      simp only [Coupler.localLoop, Bool.and_eq_true, beq_iff_eq] at loop
      exact loop.1
    rw [State.kickLine_of_rest (by rw [cpV]; exact notDue) (.inl (by rw [cpV]; simp [st]))]
    obtain ⟨lr, nm, port, node, system, host⟩ := (onlyA.trans onlyB).kicked
    refine completes_done ⟨fun q => ?_, ?_, ?_, ?_, port.trans ended.other, ended.node.trans node, ended.system.trans system,
      host.trans ended.host⟩
    · rw [State.hostKick_cp, cpV]
      cases q
      · exact (s.cp p).pairA.looped_fields
      · exact (s.cp p).pairB.looped_fields
    · rw [State.hostKick_cp, cpV]
      exact st
    · rw [lr]
      simp [State.txEnded]
    · rw [nm]
      simp [State.txEnded]
  · rw [exec_transmitEnd_step clocked tx starts linked step unbrokenA]
    have ended : OnlyPort s (s.txEnded p) p := OnlyPort.modLr s p _
    obtain ⟨other, node, system, host⟩ :=
      (ended.trans ((OnlyPort.modCp _ p fun c => { c with step := .inProgress target }).trans
        (OnlyPort.beginAttempt _ p target))).kicked
    refine completes_done ?_
    rw [State.hostKick_cp, State.hostKick_lr, State.hostKick_nm, State.beginAttempt_cp, State.beginAttempt_lr,
      State.beginAttempt_nm]
    have cp : ((s.txEnded p).modCp p fun c => { c with step := .inProgress target }).cp p =
        { s.cp p with step := .inProgress target } := by simp [State.txEnded]
    rw [cp]
    exact ⟨rfl, rfl, rfl, rfl, rfl, (Coupler.toAligning_pair (q := .a) unbrokenA target).1,
      (Coupler.toAligning_pair (q := .b) unbrokenB target).1, by simp [State.txEnded], by simp [State.txEnded, Nbr.stopTimers],
      other, node, system, host⟩

end Sys2Proof.Machine
end

section
/-! Both ports leave OPEN together: the end of the initialisation and the soft reset (10 R182, 09 R173, 03 R58). -/

namespace Sys2Proof.Machine

/-! ### Both ports -/

/-- Both ports, in OPEN, have left it where their conditions held. -/
structure LeftBoth (s t : State) : Prop where
  cp : ∀ p, t.cp p = (s.cp p).leftTo (s.fromOpen p)
  lr : ∀ p, t.lr p = s.lr p
  nm : ∀ p, t.nm p = if s.fromOpen p = .aligning then (s.nm p).stopTimers else s.nm p
  node : sameNode s t
  system : sameSystem s t
  raised : s.hl.raisedFrom t.hl

theorem State.leaveOpen_leftBoth {s : State} (opened : ∀ p, (s.cp p).st = .open ∧ (s.cp p).pairA.brk = false) :
    LeftBoth s ((s.leaveOpen .p1).leaveOpen .p2) := by
  have first := State.leaveOpen_leftOpen (opened .p1).1 (opened .p1).2
  generalize s.leaveOpen .p1 = u at *
  have second : u.port .p2 = s.port .p2 := first.other
  have cp : u.cp .p2 = s.cp .p2 := congrArg Port.cp second
  have next := State.leaveOpen_leftOpen (s := u) (p := .p2) (by rw [cp]; exact (opened .p2).1) (by rw [cp]; exact (opened .p2).2)
  have from_ : u.fromOpen .p2 = s.fromOpen .p2 :=
    State.fromOpen_of_same (State.thruHold_of_same first.system.1 (by rw [first.node.1])) (by rw [cp])
      (congrArg (fun x : Port => x.nm.sense) second)
  generalize u.leaveOpen .p2 = t at *
  have back : t.port .p1 = u.port .p1 := next.other
  refine ⟨fun p => ?_, fun p => ?_, fun p => ?_, first.node.trans next.node, first.system.trans next.system,
    HostLink.raisedFrom_trans first.raised next.raised⟩
  · cases p
    · exact (congrArg Port.cp back).trans first.cp
    · rw [next.cp, from_, cp]
  · cases p
    · exact (congrArg Port.lr back).trans first.lr
    · exact next.lr.trans (congrArg Port.lr second)
  · cases p
    · exact (congrArg Port.nm back).trans first.nm
    · rw [next.nm, from_]
      exact congrArg (fun n : Nbr => if s.fromOpen .p2 = .aligning then n.stopTimers else n) (congrArg Port.nm second)

/-- Where THRU-HOLD is high, the state a port goes to from OPEN (01 R6). -/
theorem State.fromOpen_of_high {s : State} (high : s.thruHold = true) (p : PortId) :
    s.fromOpen p = if (s.cp p).loopMode ≠ .normal then .loop else if (s.nm p).sense = true then .aligning else .open := by
  rw [State.fromOpen, if_neg (by simp [high])]

theorem Coupler.toLoop_kept (c : Coupler) :
    c.toLoop.st = .loop ∧ c.toLoop.stagedMax = c.stagedMax ∧ c.toLoop.activeMax = c.activeMax := by
  unfold Coupler.toLoop
  split <;> exact ⟨rfl, rfl, rfl⟩

theorem Coupler.leftTo_kept (c : Coupler) (st : PortState) :
    (c.leftTo st).stagedMax = c.stagedMax ∧ (c.leftTo st).activeMax = c.activeMax := by
  cases st
  case loop => exact c.toLoop_kept.2
  all_goals exact ⟨rfl, rfl⟩

theorem Coupler.leftTo_st {c : Coupler} (opened : c.st = .open) {s : State} {p : PortId} :
    (c.leftTo (s.fromOpen p)).st = s.fromOpen p := by
  rcases s.fromOpen_cases p with h | h | ⟨h, -⟩ <;> rw [h]
  · exact opened
  · rfl
  · exact c.toLoop_kept.1

theorem Coupler.toAligning_start {c : Coupler} (unbroken : c.pairA.brk = false ∧ c.pairB.brk = false) (rate : Nat) :
    (c.toAligning rate).rate = rate ∧ (c.toAligning rate).attemptTimer = some 0 ∧
      (c.toAligning rate).pairA.st = .scanning ∧ (c.toAligning rate).pairB.st = .scanning :=
  ⟨rfl, rfl, (Coupler.toAligning_pair (q := .a) unbroken.1 rate).1, (Coupler.toAligning_pair (q := .b) unbroken.2 rate).1⟩

theorem HostLink.flagged_of_raisedFrom {h h' : HostLink} {k : Notice} (raised : h.raisedFrom h') (flag : h.flagged k = true) :
    h'.flagged k = true := by
  obtain ⟨n, rfl⟩ := raised
  simp only [HostLink.flagged] at flag ⊢
  simp [flag]

theorem HostLink.txHold_of_raisedFrom {h h' : HostLink} (raised : h.raisedFrom h') : h'.txHold = h.txHold := by
  obtain ⟨n, rfl⟩ := raised
  rfl

theorem HostLink.tx_of_raisedFrom {h h' : HostLink} (raised : h.raisedFrom h') : h'.tx = h.tx := by
  obtain ⟨n, rfl⟩ := raised
  rfl

/-! ### The end of the initialisation -/

/-- The part at the end of its initialisation, before its ports leave OPEN (10 R182). -/
def State.readied (s : State) : State :=
  State.raise { s with sys := { s.sys with init := none }, hl := { s.hl with txHold := true } } .start

section
variable {s : State}

theorem State.readied_cp (s : State) (p : PortId) : s.readied.cp p = s.cp p := by cases p <;> rfl

theorem State.readied_lr (s : State) (p : PortId) : s.readied.lr p = s.lr p := by cases p <;> rfl

theorem State.readied_nm (s : State) (p : PortId) : s.readied.nm p = s.nm p := by cases p <;> rfl

theorem State.readied_thruHold (released : s.inReset = false) (notIsolated : s.cc.node ≠ .isolated) :
    s.readied.thruHold = true := by
  have running : s.readied.running = true := by
    simp only [State.inReset] at released
    simp [State.running, State.inReset, State.readied, State.raise, released]
  have node : s.readied.cc.node = s.cc.node := rfl
  simp [State.thruHold, running, node, notIsolated]

theorem State.readied_flagged (masked : s.hl.masked .start = true) : s.readied.hl.flagged .start = true := by
  simp only [HostLink.masked] at masked
  simp [State.readied, State.raise, HostLink.raise, HostLink.flagged, noticeSet, noticeBit] at masked ⊢
  simp [masked]

end

/-- Settles O5: START is raised, and each port leaves OPEN where its conditions hold. -/
theorem startupEndOpensThePart : Obligations.StartupEndOpensThePart := by
  intro s ticks due notIsolated opened
  have released : s.inReset = false := by
    simp only [State.ticking, Bool.and_eq_true, Bool.not_eq_true'] at ticks
    exact ticks.1
  have starts : s.startupEnd = (s.readied.leaveOpen .p1).leaveOpen .p2 := by
    rw [State.startupEnd, if_pos ((s.expires_iff _ _).mpr ⟨ticks, due⟩), State.readied]
  have both := State.leaveOpen_leftBoth (s := s.readied) fun p => by
    rw [s.readied_cp]
    exact ⟨(opened p).1, (opened p).2.1⟩
  have high := State.readied_thruHold released notIsolated
  change completes s.startupEnd.done _
  rw [starts]
  generalize (s.readied.leaveOpen .p1).leaveOpen .p2 = t at both
  have held : t.hl.txHold = true := HostLink.txHold_of_raisedFrom both.raised
  refine completes_done ?_
  rw [State.hostKick_of_busy (by simp [State.hostTxIdle, held])]
  refine ⟨both.system.1, ?_, held, (HostLink.tx_of_raisedFrom both.raised).trans rfl,
    fun masked => HostLink.flagged_of_raisedFrom both.raised (State.readied_flagged masked), both.node,
    both.system.2, fun p => ?_⟩
  · exact (State.thruHold_of_same both.system.1 (by rw [both.node.1])).trans high
  have from_ := State.fromOpen_of_high high p
  rw [s.readied_cp, s.readied_nm] at from_
  have st : (t.cp p).st = s.readied.fromOpen p := by
    rw [both.cp, s.readied_cp]
    exact Coupler.leftTo_st (opened p).1
  refine ⟨(both.lr p).trans (s.readied_lr p), st.trans from_, fun aligning => ?_, fun stays => ?_⟩
  · rw [both.cp, ← st, aligning, s.readied_cp]
    exact Coupler.toAligning_start (opened p).2 0
  · rw [both.cp, both.nm, ← st, stays, s.readied_cp, s.readied_nm]
    exact ⟨rfl, if_neg (by decide)⟩

/-! ### The soft reset -/

/-- The part at a soft reset, before its ports leave OPEN (09 R173). -/
def State.softened (s : State) (r : Bool) : State := ((s.softValues r).raise .start).examineOpen

section
variable (s : State) (r : Bool)

theorem State.softened_port (p : PortId) : (s.softened r).port p = (s.port p).softReset := by
  have examined := ((s.softValues r).raise .start).examineOpen_port p
  exact examined.trans (by cases p <;> rfl)

theorem State.softened_cp (p : PortId) : (s.softened r).cp p = (s.cp p).softReset := congrArg Port.cp (s.softened_port r p)

theorem State.softened_lr (p : PortId) : (s.softened r).lr p = .reset := congrArg Port.lr (s.softened_port r p)

theorem State.softened_nm (p : PortId) : (s.softened r).nm p = (s.nm p).softReset := congrArg Port.nm (s.softened_port r p)

theorem State.softened_raised :
    HostLink.raisedFrom { HostLink.reset with rateHigh := r, mask := s.hl.mask } (s.softened r).hl :=
  HostLink.raisedFrom_trans (HostLink.raisedFrom_raise _ _) (HostLink.raisedFrom_examineOpen _)

theorem State.softened_told (masked : s.hl.masked .start = true) : told (s.softened r) .start :=
  told_of_raisedFrom (HostLink.raisedFrom_examineOpen _) (told_raise_self (s := s.softValues r) masked)

/-- The open timer and what the examination leaves of the doors (07 R120, R125). -/
theorem State.softened_dcu :
    (s.softened r).dcu = { Doors.reset with
      leaves := s.dcu.leaves, isolated := s.dcu.isolated, windows := s.dcu.windows,
      openTimer := if (s.softValues r).anyLeafOpen then some 0 else none } := by
  have any : ((s.softValues r).raise .start).anyLeafOpen = (s.softValues r).anyLeafOpen := rfl
  rw [State.softened, State.examineOpen_dcu, any]
  cases (s.softValues r).anyLeafOpen <;> rfl

theorem State.softened_node :
    (s.softened r).cc = { Consist.reset with coach := s.cc.coach } ∧
      (s.softened r).se = { SweepState.reset with interval := s.se.interval, intervalPeriod := s.se.interval } ∧
      (s.softened r).ha = { Heating.reset with level := s.ha.level, capacity := s.ha.capacity, ramp := s.ha.ramp } :=
  ⟨State.examineOpen_cc _, State.examineOpen_se _, State.examineOpen_ha _⟩

theorem State.softened_system :
    (s.softened r).sys = { s.sys with cause := .soft, ratesel := r } ∧ (s.softened r).pending = s.pending :=
  ⟨State.examineOpen_sys _, State.examineOpen_pending _⟩

theorem State.softened_thruHold {s : State} (runs : s.running = true) (r : Bool) : (s.softened r).thruHold = true := by
  have sys := (s.softened_system r).1
  have cc := (s.softened_node r).1
  generalize s.softened r = t at sys cc
  have running : t.running = true := by
    simp only [State.running, State.inReset] at runs ⊢
    simpa [sys] using runs
  simp [State.thruHold, running, cc, Consist.reset]

end

theorem State.softReset_eq (s : State) (r : Bool) : s.softReset r = ((s.softened r).leaveOpen .p1).leaveOpen .p2 := rfl

/-- Settles O6: every block takes its soft-reset values and each port leaves OPEN where its conditions hold. -/
theorem softResetFollowsItsReply : Obligations.SoftResetFollowsItsReply := by
  intro s r sending ends
  have effect (r : Bool) (u : State) (uSends : u.hostSending = true) (uEnds : u.hl.endsInReset = true) :
      exec (.softResetEffect r) u = (u.softReset r).done := by
    change (if u.hostSending && u.hl.endsInReset then u.softReset r else u).done = _
    rw [uSends, uEnds]
    rfl
  have runs : s.running = true := by
    simp only [State.hostSending, Bool.and_eq_true] at sending
    exact sending.1.1
  refine ⟨?_, ?_⟩
  · rw [effect r s sending ends, s.softReset_eq r]
    have both := State.leaveOpen_leftBoth (s := s.softened r) fun p => by rw [s.softened_cp]; exact ⟨rfl, rfl⟩
    have high := State.softened_thruHold runs r
    obtain ⟨cc, se, ha⟩ := s.softened_node r
    obtain ⟨sys, pending⟩ := s.softened_system r
    generalize ((s.softened r).leaveOpen .p1).leaveOpen .p2 = t at both
    have dcu : t.dcu = _ := both.node.2.2.1.trans (s.softened_dcu r)
    have any : t.anyLeafOpen = (s.softValues r).anyLeafOpen :=
      State.anyLeafOpen_of_settings (by rw [dcu]; rfl) (by rw [dcu]; rfl) (by rw [both.node.1, cc]; rfl)
    have still : t.hl.still = { HostLink.reset with rateHigh := r, mask := s.hl.mask } :=
      HostLink.still_of_raisedFrom (HostLink.raisedFrom_trans (s.softened_raised r) both.raised)
    have hold : t.thruHold = true := (State.thruHold_of_same both.system.1 (by rw [both.node.1])).trans high
    refine completes_done ?_
    simp only [State.hostKick_sys, State.hostKick_pending, State.hostKick_cc, State.hostKick_se, State.hostKick_ha,
      State.hostKick_dcu, State.hostKick_anyLeafOpen, State.hostKick_lr, State.hostKick_nm, State.hostKick_cp]
    refine ⟨both.system.1.trans sys, both.system.2.trans pending, both.node.1.trans cc, both.node.2.1.trans se,
      both.node.2.2.2.trans ha, by rw [dcu], by rw [dcu], by rw [dcu], by rw [dcu, any], by rw [dcu]; rfl, ?_,
      fun masked => told_hostKick (told_of_raisedFrom both.raised (s.softened_told r masked)), ?_, fun p => ?_⟩
    · exact (sameHost_hostKick (s := t) rfl).trans still
    · exact (State.thruHold_of_same (t.hostKick_sys) (by rw [t.hostKick_cc])).trans hold
    have from_ := State.fromOpen_of_high high p
    rw [s.softened_cp, s.softened_nm] at from_
    have opened : ((s.cp p).softReset).st = .open := rfl
    rw [both.cp, both.lr, both.nm, s.softened_cp, s.softened_lr, s.softened_nm, Coupler.leftTo_st opened]
    refine ⟨rfl, ?_, (Coupler.leftTo_kept _ _).1, (Coupler.leftTo_kept _ _).2, Coupler.leftTo_loopMode _ _, from_⟩
    split <;> rfl
  · change (if s.hostSending then s.messageSent else s).done = _
    rw [if_pos sending, State.messageSent, if_pos ends]
    exact (effect _ { s with sys := { s.sys with freeCount := s.sys.freeCount + 1 } } sending ends).symm

end Sys2Proof.Machine
end

section
/-! Isolation (04 R76, R77): the node leaves its consist and its claim, and both ports enter OPEN with cause HOLD. -/

namespace Sys2Proof.Machine

/-- A departure leaves every block as 04 R66 says, whatever node state it leads to. -/
theorem State.leaveOperational_leftOperational {s : State} (op : s.cc.node = .operational) (n : NodeState) (c : ExitCause) :
    leftOperational s (s.leaveOperational n c) := by
  obtain ⟨h, still, hl⟩ := s.leaveOperational_hl n c
  have consist (masked : s.hl.masked .consist = true) : told (s.leaveOperational n c) .consist :=
    .inl (by simp [hl, HostLink.masked_of_still still, masked])
  refine ⟨fun _ => ?_, fun ne => absurd op ne⟩
  cases lead : s.cc.claim <;>
    simpa [State.leaveOperational_se, State.leaveOperational_dcu, State.leaveOperational_ha, SweepState.abandon, lead]
      using consist

/-! ### The node's part -/

/-- What the node's departure to isolation keeps of the part, and how it leaves the Consist Controller. -/
structure Parted (s t : State) : Prop where
  port : ∀ p, t.port p = s.port p
  system : sameSystem s t
  raised : s.hl.raisedFrom t.hl
  coach : t.cc.coach = s.cc.coach
  lastExit : s.cc.node = .operational ∨ s.cc.node = .provisional → t.cc.lastExit = .isolation
  left : leftOperational s t

theorem State.departed_parted (s : State) : Parted s s.departed ∧ s.departed.cc.claim = s.cc.claim := by
  have apart {u : State} (notOp : s.cc.node ≠ .operational) (dcu : u.dcu = s.dcu) (se : u.se = s.se) (ha : u.ha = s.ha) :
      leftOperational s u := ⟨fun op => absurd op notOp, fun _ => by simp [dcu, se, ha]⟩
  have stays (notOp : s.cc.node ≠ .operational) (notProv : s.cc.node ≠ .provisional) : Parted s s ∧ s.cc.claim = s.cc.claim :=
    ⟨⟨fun _ => rfl, ⟨rfl, rfl⟩, HostLink.raisedFrom_refl _, rfl, fun inConsist => (inConsist.elim notOp notProv).elim,
      apart notOp rfl rfl rfl⟩, rfl⟩
  unfold State.departed
  split
  next op =>
    refine ⟨⟨fun p => by simp, by simp [sameSystem], HostLink.raisedFrom_leaveOperational _ _ _, ?_, fun _ => ?_,
      State.leaveOperational_leftOperational op _ _⟩, ?_⟩ <;> simp [State.leaveOperational_cc]
  next prov =>
    exact ⟨⟨fun p => by simp, ⟨rfl, rfl⟩, HostLink.raisedFrom_refl _, rfl, fun _ => rfl,
      apart (by simp [prov]) rfl rfl rfl⟩, rfl⟩
  all_goals
    next node => exact stays (by simp [node]) (by simp [node])

theorem Parted.endClaim {s t : State} (h : Parted s t) (cause : LeadCause) : Parted s (t.endClaim cause) where
  port p := (by simp [State.endClaim] : (t.endClaim cause).port p = t.port p).trans (h.port p)
  system := h.system
  raised := HostLink.raisedFrom_trans h.raised (HostLink.raisedFrom_raise _ _)
  coach := h.coach
  lastExit := h.lastExit
  left := leftOperational_of_blocks h.left rfl rfl rfl fun c => told_raise .lead c

/-- The node as it enters isolation, before its ports do (04 R76). -/
def State.isolating (s : State) : State := s.leaveForIsolation.startPosition.modCc Consist.isolate

/-- The node in isolation: no place, no claim. -/
structure Isolated (s t : State) : Prop extends Parted s t where
  node : t.cc.node = .isolated
  claim : t.cc.claim = none
  gone : t.cc.gen = 0 ∧ t.cc.position = none ∧ t.cc.orientation = none ∧ t.cc.front = none ∧ t.cc.table = Table.empty ∧
    t.cc.confirmTimer = none ∧ t.cc.silenceTimer = none
  led : s.cc.claim.isSome = true → t.cc.leadCause = .isolation ∧ t.cc.walk = .idle
  fresh : t.se.lastSeen = none ∧ t.se.lastSent = none ∧ t.dcu.lastDoor = none ∧ t.ha.lastTaken = none

theorem Parted.isolate {s t : State} (h : Parted s t) (free : t.cc.claim = none)
    (led : s.cc.claim.isSome = true → t.cc.leadCause = .isolation ∧ t.cc.walk = .idle) :
    Isolated s (t.startPosition.modCc Consist.isolate) where
  port p := (by cases p <;> rfl : (t.startPosition.modCc Consist.isolate).port p = t.port p).trans (h.port p)
  system := h.system
  raised := h.raised
  coach := h.coach
  lastExit := h.lastExit
  left := h.left
  node := rfl
  claim := free
  gone := ⟨rfl, rfl, rfl, rfl, rfl, rfl, rfl⟩
  led := led
  fresh := ⟨rfl, rfl, rfl, rfl⟩

theorem State.isolating_isolated (s : State) : Isolated s s.isolating := by
  obtain ⟨parted, claim⟩ := s.departed_parted
  rw [State.isolating, State.leaveForIsolation_eq]
  split
  · exact (parted.endClaim .isolation).isolate rfl fun _ => ⟨rfl, rfl⟩
  · next free => exact parted.isolate (claim.trans (by simpa using free)) fun led => absurd led free

/-! ### The ports -/

/-- The loss of a neighbour does nothing at a node in isolation. -/
theorem State.nmDepart_of_isolated {s : State} (node : s.cc.node = .isolated) (claim : s.cc.claim = none) (p : PortId) :
    s.nmDepart p = (s.modNm p fun n => { n.stopTimers with candidate := none, record := none, status := .absent }).raiseIf
      ((s.nm p).status != .absent) .neighbour := by
  have alone (u : State) (hn : u.cc.node = .isolated) (hc : u.cc.claim = none) : u.ccGone p = u := by
    simp only [State.ccGone, hc, hn]
  unfold State.nmDepart
  cases h : (s.nm p).status
  · rfl
  · dsimp only
    rw [State.neighbourGone, alone _ (by simpa using node) (by simpa using claim)]
    rfl
  · rfl

/-- A port shut at a node in isolation (01 R6, 04 R76). -/
structure Shut (s t : State) (p : PortId) : Prop extends OnlyPort s t p where
  st : (t.cp p).st = .open
  waiting : (t.lr p).waitingFrames = if (s.cp p).st = .open then (s.lr p).waitingFrames else 0
  away : (s.cp p).st ≠ .open → (t.cp p).openCause = .hold ∧ (t.nm p).status = .absent

theorem State.portToOpen_shut {s : State} (node : s.cc.node = .isolated) (claim : s.cc.claim = none) (p : PortId) :
    Shut s (s.portToOpen p .hold) p := by
  by_cases opened : (s.cp p).st = .open
  · rw [State.portToOpen, if_pos opened]
    exact ⟨OnlyPort.refl s p, opened, by rw [if_pos opened], fun away => absurd opened away⟩
  · have low (u : State) (hn : u.cc.node = .isolated) : u.leaveOpen p = u := by
      rw [State.leaveOpen, if_neg fun h => by simp [State.thruHold, hn] at h]
    rw [State.portToOpen, if_neg opened, State.nmDepart_of_isolated (by simpa using node) (by simpa using claim),
      low _ (by simpa using node)]
    refine ⟨(((OnlyPort.modCp s p _).trans (OnlyPort.modLr _ p _)).trans (OnlyPort.raise _ p _)).trans
      ((OnlyPort.modNm _ p _).trans (OnlyPort.raiseIf _ p _ _)), ?_, ?_, fun _ => ⟨?_, ?_⟩⟩
    · simp [Coupler.toOpen]
    · simp [opened, Relay.flush_waitingFrames]
    · simp [Coupler.toOpen]
    · simp

theorem State.reqEnterIsolation_accepted {s : State} (node : s.cc.node ≠ .isolated) :
    s.reqEnterIsolation = ((s.isolating.portToOpen .p1 .hold).portToOpen .p2 .hold).accept noFields := if_neg node

theorem State.reqLeaveIsolation_accepted {s : State} (node : s.cc.node = .isolated) :
    s.reqLeaveIsolation =
      (((s.modCc fun c => { c with node := .detached }).leaveOpen .p1).leaveOpen .p2).accept noFields := if_pos node

theorem HostLink.replies_of_raisedFrom {h h' : HostLink} (raised : h.raisedFrom h') : h'.replies = h.replies := by
  obtain ⟨n, rfl⟩ := raised
  rfl

/-- An accepted request: the host link's books aside, the part stands as its owner left it (09 R171). -/
def State.answered (u : State) (fields : State → List Nat) (kind tag : Nat) : State :=
  ((u.accept fields).queued kind tag).hostKick

section
variable (u : State) (fields : State → List Nat) (kind tag : Nat)

theorem State.answered_node : sameNode u (u.answered fields kind tag) := by
  simp [sameNode, State.answered, Answer.queued, State.accept]

theorem State.answered_system : sameSystem u (u.answered fields kind tag) := by
  simp [sameSystem, State.answered, Answer.queued, State.accept]

theorem State.answered_cp (p : PortId) : (u.answered fields kind tag).cp p = u.cp p := by
  simp [State.answered, Answer.queued, State.accept]

theorem State.answered_lr (p : PortId) : (u.answered fields kind tag).lr p = u.lr p := by
  simp [State.answered, Answer.queued, State.accept]

theorem State.answered_nm (p : PortId) : (u.answered fields kind tag).nm p = u.nm p := by
  simp [State.answered, Answer.queued, State.accept]

theorem State.answered_replies :
    (u.answered fields kind tag).hl.replies = u.hl.replies ++ [{ kind, tag, status := .ok, fields := fields u }] :=
  State.hostKick_hl_replies _

theorem State.told_answered {k : Notice} (h : told u k) : told (u.answered fields kind tag) k := told_hostKick h

theorem State.answered_thruHold : (u.answered fields kind tag).thruHold = u.thruHold :=
  State.thruHold_of_same (u.answered_system fields kind tag).1 (by rw [(u.answered_node fields kind tag).1])

end

/-! ### The requests -/

section
variable {s : State} (slot : takesSlot s) (tag : Nat)
include slot

theorem exec_enterIsolation : exec (.enterIsolation tag []) s =
    .next (((s.holding 0x14 tag []).reqEnterIsolation).queued 0x14 tag).hostKick :=
  State.request_done slot rfl tag _

theorem exec_leaveIsolation : exec (.leaveIsolation tag []) s =
    .next (((s.holding 0x15 tag []).reqLeaveIsolation).queued 0x15 tag).hostKick :=
  State.request_done slot rfl tag _

end

theorem State.holding_port (s : State) (kind tag : Nat) (payload : List Nat) (p : PortId) :
    (s.holding kind tag payload).port p = s.port p := by cases p <;> rfl

/-- Both ports of a node in isolation are shut: what that keeps, and how each port stands. -/
theorem State.bothShut {s : State} (node : s.cc.node = .isolated) (claim : s.cc.claim = none) :
    ∃ t, t = (s.portToOpen .p1 .hold).portToOpen .p2 .hold ∧ sameNode s t ∧ sameSystem s t ∧ s.hl.raisedFrom t.hl ∧
      ∀ p, (t.cp p).st = .open ∧ (t.lr p).waitingFrames = (if (s.cp p).st = .open then (s.lr p).waitingFrames else 0) ∧
        ((s.cp p).st ≠ .open → (t.cp p).openCause = .hold ∧ (t.nm p).status = .absent) := by
  have first := State.portToOpen_shut node claim .p1
  generalize s.portToOpen .p1 .hold = u at first ⊢
  have next := State.portToOpen_shut (s := u) (by rw [first.node.1, node]) (by rw [first.node.1, claim]) .p2
  refine ⟨_, rfl, first.node.trans next.node, first.system.trans next.system,
    HostLink.raisedFrom_trans first.raised next.raised, fun p => ?_⟩
  have second : u.port .p2 = s.port .p2 := first.other
  have back : (u.portToOpen .p2 .hold).port .p1 = u.port .p1 := next.other
  cases p with
  | p1 =>
    rw [show (u.portToOpen .p2 .hold).cp .p1 = u.cp .p1 from congrArg Port.cp back,
      show (u.portToOpen .p2 .hold).lr .p1 = u.lr .p1 from congrArg Port.lr back,
      show (u.portToOpen .p2 .hold).nm .p1 = u.nm .p1 from congrArg Port.nm back]
    exact ⟨first.st, first.waiting, first.away⟩
  | p2 =>
    rw [← show u.cp .p2 = s.cp .p2 from congrArg Port.cp second, ← show u.lr .p2 = s.lr .p2 from congrArg Port.lr second]
    exact ⟨next.st, next.waiting, next.away⟩

/-- Settles O54: entering isolation by the node's part and then the ports', leaving it by the ports leaving OPEN. -/
theorem isolationOpensAndReleasesThePorts : Obligations.IsolationOpensAndReleasesThePorts := by
  intro s tag slot
  refine ⟨fun node => ?_, fun node => ?_, fun node => ?_, fun node opened => ?_⟩
  · rw [exec_enterIsolation slot, State.reqEnterIsolation,
      if_pos (show (s.holding 0x14 tag []).cc.node = .isolated from node)]
    rfl
  · rw [exec_leaveIsolation slot, State.reqLeaveIsolation,
      if_neg (show (s.holding 0x15 tag []).cc.node ≠ .isolated from node), State.refuse_queued]
  · have iso := (s.holding 0x14 tag []).isolating_isolated
    rw [exec_enterIsolation slot, State.reqEnterIsolation_accepted (s := s.holding 0x14 tag []) node]
    have port (p : PortId) := (iso.port p).trans (s.holding_port 0x14 tag [] p)
    generalize (s.holding 0x14 tag []).isolating = u at iso port
    obtain ⟨t, et, node_, system, raised, shut⟩ := State.bothShut iso.node iso.claim
    rw [← et]
    have final := t.answered_node noFields 0x14 tag
    obtain ⟨gen, position, orientation, front, table, confirm, silence⟩ := iso.gone
    obtain ⟨seen, sent, door, taken⟩ := iso.fresh
    have same : sameNode u (t.answered noFields 0x14 tag) := node_.trans final
    have consist (h : told u .consist) : told (t.answered noFields 0x14 tag) .consist :=
      t.told_answered noFields 0x14 tag (told_of_raisedFrom raised h)
    have systems := (iso.system.trans system).trans (t.answered_system noFields 0x14 tag)
    have left : leftOperational (s.holding 0x14 tag []) (t.answered noFields 0x14 tag) :=
      leftOperational_of_blocks iso.left same.2.1 same.2.2.1 same.2.2.2 consist
    have replies : t.hl.replies = s.hl.replies :=
      (HostLink.replies_of_raisedFrom (HostLink.raisedFrom_trans iso.raised raised)).trans rfl
    refine ⟨t.answered noFields 0x14 tag, rfl, by rw [same.1, iso.node], by rw [same.1, iso.claim], by rw [same.1, gen],
      by rw [same.1, position], by rw [same.1, orientation], by rw [same.1, front], by rw [same.1, table],
      by rw [same.1, confirm], by rw [same.1, silence], by rw [same.1, iso.coach]; rfl, fun inConsist => ?_, fun led => ?_, ?_,
      left, by rw [same.2.1, seen], by rw [same.2.1, sent], by rw [same.2.2.1, door], by rw [same.2.2.2, taken],
      by rw [t.answered_replies, replies]; rfl, systems, fun p => ?_⟩
    · rw [same.1, iso.lastExit inConsist]
    · rw [same.1]
      exact iso.led led
    · simp [State.thruHold, same.1, iso.node]
    · rw [t.answered_cp, t.answered_lr, t.answered_nm, show s.cp p = u.cp p from (congrArg Port.cp (port p)).symm,
        show s.lr p = u.lr p from (congrArg Port.lr (port p)).symm]
      exact shut p
  · rw [exec_leaveIsolation slot, State.reqLeaveIsolation_accepted (s := s.holding 0x15 tag []) node]
    generalize eu : ((s.holding 0x15 tag []).modCc fun c => { c with node := .detached }) = u
    have ports (p : PortId) : u.port p = s.port p := by
      rw [← eu, State.modCc_portAt, State.holding_port]
    have cp (p : PortId) : u.cp p = s.cp p := congrArg Port.cp (ports p)
    have high : u.thruHold = true := by
      obtain ⟨listening, -, -⟩ := slot
      simp only [State.hostListening, Bool.and_eq_true] at listening
      rw [← eu]
      exact Bool.and_eq_true_iff.mpr ⟨listening.1.1, rfl⟩
    have both := State.leaveOpen_leftBoth (s := u) fun p => by rw [cp]; exact ⟨(opened p).1, (opened p).2.1⟩
    generalize (u.leaveOpen .p1).leaveOpen .p2 = t at both
    have same := both.node.trans (t.answered_node noFields 0x15 tag)
    have replies : t.hl.replies = s.hl.replies := by
      rw [HostLink.replies_of_raisedFrom both.raised, ← eu]
      rfl
    refine ⟨t.answered noFields 0x15 tag, rfl, by rw [same.1, ← eu]; rfl, ?_, by rw [t.answered_replies, replies]; rfl, ?_,
      by rw [same.2.1, ← eu]; rfl, by rw [same.2.2.1, ← eu]; rfl, by rw [same.2.2.2, ← eu]; rfl, fun p => ⟨?_, ?_⟩⟩
    · rw [t.answered_thruHold, State.thruHold_of_same both.system.1 (by rw [both.node.1]), high]
    · have system := both.system.trans (t.answered_system noFields 0x15 tag)
      rw [← eu] at system
      exact system
    · exact (t.answered_lr noFields 0x15 tag p).trans ((both.lr p).trans (congrArg Port.lr (ports p)))
    · rw [t.answered_cp, both.cp, cp, Coupler.leftTo_st (opened p).1, State.fromOpen_of_high high, cp,
        show u.nm p = s.nm p from congrArg Port.nm (ports p)]

end Sys2Proof.Machine
end

section
/-! Set Port (01 R17, R24; 09 R175): the maximum rate, the loop mode and a forced realignment. -/

namespace Sys2Proof.Machine

theorem loopModeOfCode_eq_none {n : Nat} (h : 2 < n) : loopModeOfCode n = none := by
  match n with
  | 0 | 1 | 2 => omega
  | _ + 3 => rfl

theorem loopModeCode_of_some {n : Nat} {m : LoopMode} (h : loopModeOfCode n = some m) : loopModeCode m = n := by
  match n with
  | 0 | 1 | 2 => cases h; rfl
  | _ + 3 => simp [loopModeOfCode] at h

section
variable (s : State) {n mode rate force : Nat} {p : PortId} {m : LoopMode}

theorem State.reqSetPort_range (outside : n = 0 ∨ 2 < n ∨ 2 < mode ∨ 2 < rate ∨ 1 < force) :
    s.reqSetPort n mode rate force = s.refuse .range := by
  unfold State.reqSetPort
  split
  · next p m f port loop flag =>
    have rates : 2 < rate := by
      by_contra small
      rcases outside with h | h | h | h | h
      · simp [(portOfNumber_eq_none_iff n).mpr (.inl h)] at port
      · simp [(portOfNumber_eq_none_iff n).mpr (.inr h)] at port
      · simp [loopModeOfCode_eq_none h] at loop
      · exact small h
      · simp [flagOfCode_eq_none h] at flag
    rw [if_pos rates]
  · rfl

variable (port : portOfNumber n = some p) (loop : loopModeOfCode mode = some m) (rates : rate ≤ 2) (forces : force ≤ 1)
include port loop rates forces

theorem State.reqSetPort_eq : s.reqSetPort n mode rate force =
    if m ≠ .normal ∧ s.cc.node.allowsLoop = false then s.refuse .state
    else (s.applySetPort p m rate (force == 1)).accept fun t => (t.cp p).setPortFields := by
  simp only [State.reqSetPort, port, loop, flagOfCode_of_le forces]
  rw [if_neg (by omega)]

theorem State.reqSetPort_refused (special : m ≠ .normal) (node : s.cc.node = .operational ∨ s.cc.node = .provisional) :
    s.reqSetPort n mode rate force = s.refuse .state := by
  rw [s.reqSetPort_eq port loop rates forces, if_pos ⟨special, by rcases node with h | h <;> rw [h] <;> rfl⟩]

theorem State.reqSetPort_accepted (allowed : m = .normal ∨ s.cc.node.allowsLoop = true) :
    s.reqSetPort n mode rate force = (s.applySetPort p m rate (force == 1)).accept fun t => (t.cp p).setPortFields := by
  rw [s.reqSetPort_eq port loop rates forces, if_neg]
  rintro ⟨special, refused⟩
  rcases allowed with h | h
  · exact special h
  · simp [refused] at h

end

/-- The maximum rate of a port is staged (01 R17). -/
def State.staged (s : State) (p : PortId) (rate : Nat) : State := s.modCp p fun c => { c with stagedMax := rate }

section
variable {s : State} {p : PortId} {m : LoopMode} {rate : Nat}

theorem State.applySetPort_same (same : (s.cp p).loopMode = m) (force : Bool) :
    s.applySetPort p m rate force = if force then (s.staged p rate).forceRealign p else s.staged p rate := by
  have kept : (s.staged p rate).applyLoopMode p m = s.staged p rate := if_pos (by simpa [State.staged] using same)
  have eq : s.applySetPort p m rate force =
      if force && decide ((s.cp p).loopMode = m) then ((s.staged p rate).applyLoopMode p m).forceRealign p
      else (s.staged p rate).applyLoopMode p m := rfl
  rw [eq, kept]
  simp [same]

theorem State.forceRealign_stays (stays : (s.cp p).st = .open ∨ (s.cp p).st = .loop) : s.forceRealign p = s := by
  unfold State.forceRealign
  rcases stays with h | h <;> rw [h]

theorem State.forceRealign_opens (runs : (s.cp p).st = .linked ∨ (s.cp p).st = .aligning ∨ (s.cp p).st = .faulted) :
    s.forceRealign p = s.portToOpen p .realign := by
  unfold State.forceRealign
  rcases runs with h | h | h <;> rw [h]

theorem State.applySetPort_changed (changed : (s.cp p).loopMode ≠ m) (away : (s.cp p).st ≠ .open) (force : Bool) :
    s.applySetPort p m rate force = ((s.staged p rate).modCp p fun c => { c with loopMode := m }).portToOpen p .loop := by
  have eq : s.applySetPort p m rate force =
      if force && decide ((s.cp p).loopMode = m) then ((s.staged p rate).applyLoopMode p m).forceRealign p
      else (s.staged p rate).applyLoopMode p m := rfl
  rw [eq, if_neg (by simp [changed]), State.applyLoopMode, if_neg (by simpa [State.staged] using changed)]
  exact if_neg (by simpa [State.staged] using away)

end

/-! ### A port sent through OPEN by Set Port -/

/-- What Set Port says of a port that it has sent through OPEN. -/
structure SentThroughOpen (s t : State) (p : PortId) (m : LoopMode) (rate : Nat) (cause : OpenCause) : Prop where
  cause : (t.cp p).openCause = cause
  st : (t.cp p).st = t.fromOpen p
  active : (t.cp p).activeMax = rate
  staged : (t.cp p).stagedMax = rate
  mode : (t.cp p).loopMode = m
  waiting : (t.lr p).waitingFrames = 0
  tx : (t.lr p).tx = none
  status : (t.nm p).status = .absent
  tells : s.hl.masked .port = true → told t .port
  system : sameSystem s t
  otherState : (t.cp (other p)).st = (s.cp (other p)).st

theorem State.portToOpen_sent {s u : State} {p : PortId} {m : LoopMode} {rate : Nat} (before : OnlyPort s u p)
    (away : (u.cp p).st ≠ .open) (staged : (u.cp p).stagedMax = rate) (mode : (u.cp p).loopMode = m) (cause : OpenCause)
    (fields : State → List Nat) (kind tag : Nat) :
    SentThroughOpen s ((u.portToOpen p cause).answered fields kind tag) p m rate cause := by
  have opened := State.portToOpen_opened away cause
  generalize u.portToOpen p cause = t at opened
  have with_ := opened.openedWith_of (OnlyPort.refl u p) rfl rfl (fun _ => rfl) rfl
  obtain ⟨cause_, st, active, stagedMax, -, -, -, -, -, -, -, -, -, -, -, waiting, tx, -, status, -, -, -, -, tells, -⟩ := with_
  have from_ : (t.answered fields kind tag).fromOpen p = t.fromOpen p :=
    State.fromOpen_of_same (t.answered_thruHold fields kind tag) (by rw [t.answered_cp]) (by rw [t.answered_nm])
  constructor
  · rw [t.answered_cp, cause_]
  · rw [t.answered_cp, st, from_]
  · rw [t.answered_cp, active, staged]
  · rw [t.answered_cp, stagedMax, staged]
  · rw [t.answered_cp, opened.cp, Coupler.leftTo_loopMode]
    exact mode
  · rw [t.answered_lr, waiting]
  · rw [t.answered_lr, tx]
  · rw [t.answered_nm, status]
  · exact fun masked => t.told_answered fields kind tag (tells (by rwa [before.masked]))
  · exact before.system.trans (opened.system.trans (t.answered_system fields kind tag))
  · rw [t.answered_cp, opened.otherState]
    exact congrArg (fun y : Port => y.cp.st) before.other

/-- The three rows of Set Port are one request (log entry 10). -/
theorem exec_setPort {s : State} {c : Instr} {tag n mode rate force : Nat} (slot : takesSlot s)
    (request : c = .setPortMaximumRate tag [n, mode, rate, force] ∨ c = .setPortLoopMode tag [n, mode, rate, force] ∨
      c = .setPortForceRealign tag [n, mode, rate, force]) :
    exec c s = .next (((s.holding 0x11 tag [n, mode, rate, force]).reqSetPort n mode rate force).queued 0x11 tag).hostKick := by
  rcases request with rfl | rfl | rfl <;> exact State.request_done slot rfl tag _

/-- The state a request is held in is the state before, but for the host link's books. -/
theorem SentThroughOpen.of_holding {s t : State} {p : PortId} {m : LoopMode} {rate kind tag : Nat} {payload : List Nat}
    {cause : OpenCause} (h : SentThroughOpen (s.holding kind tag payload) t p m rate cause) :
    (t.cp p).openCause = cause ∧ (t.cp p).st = t.fromOpen p ∧ (t.cp p).activeMax = rate ∧ (t.cp p).stagedMax = rate ∧
      (t.cp p).loopMode = m ∧ (t.lr p).waitingFrames = 0 ∧ (t.lr p).tx = none ∧ (t.nm p).status = .absent ∧
      (s.hl.masked .port = true → told t .port) ∧ sameSystem s t ∧ (t.cp (other p)).st = (s.cp (other p)).st :=
  ⟨h.cause, h.st, h.active, h.staged, h.mode, h.waiting, h.tx, h.status, h.tells, h.system,
    h.otherState.trans (congrArg (fun y : Port => y.cp.st) (s.holding_port kind tag payload (other p)))⟩

theorem Coupler.setPortFields_eq {c : Coupler} {mode rate : Nat} (code : loopModeCode c.loopMode = mode)
    (staged : c.stagedMax = rate)
    (small : rate ≤ 2) : c.setPortFields = [portStateCode c.st, mode, c.activeMax % 256, rate] := by
  simp only [Coupler.setPortFields, code, staged, byte1, List.cons_append, List.nil_append]
  rw [Nat.mod_eq_of_lt (by omega : rate < 256)]

/-- Settles O53: Set Port by whether it is refused, keeps the port in its state, or sends it through OPEN. -/
theorem setPortStagesLoopsOrRealigns : Obligations.SetPortStagesLoopsOrRealigns := by
  intro s tag n mode rate force p m c slot payload request staged
  have run := exec_setPort slot request
  have cp : (s.holding 0x11 tag payload).cp p = s.cp p := congrArg Port.cp (s.holding_port 0x11 tag payload p)
  refine ⟨fun outside => ?_, fun port loop rates forces => ?_⟩
  · rw [run, State.reqSetPort_range _ outside, State.refuse_queued]
  have accepted (allowed : m = .normal ∨ s.cc.node.allowsLoop = true) :=
    State.reqSetPort_accepted (s.holding 0x11 tag payload) port loop rates forces allowed
  have before := OnlyPort.modCp (s.holding 0x11 tag payload) p fun c => { c with stagedMax := rate }
  refine ⟨fun special node => ?_, fun same allowed stays => ?_, fun same allowed forced runs => ?_,
    fun changed allowed away => ?_⟩
  · rw [run, State.reqSetPort_refused (s.holding 0x11 tag payload) port loop rates forces special node, State.refuse_queued]
  · have kept : (s.holding 0x11 tag payload).applySetPort p m rate (force == 1) = (s.holding 0x11 tag payload).staged p rate := by
      rw [State.applySetPort_same (by rwa [cp])]
      split
      · next forced =>
        have one : force = 1 := by simpa using forced
        exact State.forceRealign_stays (by simpa [State.staged, cp, one] using stays)
      · rfl
    rw [run, accepted allowed, kept]
    have fields : (((s.holding 0x11 tag payload).staged p rate).cp p).setPortFields =
        [portStateCode (s.cp p).st, mode, (s.cp p).activeMax % 256, rate] := by
      rw [Coupler.setPortFields_eq (mode := mode) (rate := rate) ?_ ?_ rates] <;>
        simp [State.staged, cp, same, loopModeCode_of_some loop]
    have eq : (((s.holding 0x11 tag payload).staged p rate).accept fun t => (t.cp p).setPortFields).queued 0x11 tag =
        staged.replied 0x11 tag payload .ok [portStateCode (s.cp p).st, mode, (s.cp p).activeMax % 256, rate] := by
      rw [State.accept, fields]
      cases p <;> rfl
    rw [eq]
  · have opens : (s.holding 0x11 tag payload).applySetPort p m rate (force == 1) =
        ((s.holding 0x11 tag payload).staged p rate).portToOpen p .realign := by
      rw [State.applySetPort_same (by rwa [cp]), forced]
      exact State.forceRealign_opens (by simpa [State.staged, cp] using runs)
    rw [run, accepted allowed, opens]
    refine ⟨_, rfl, (State.portToOpen_sent before ?_ ?_ ?_ .realign _ 0x11 tag).of_holding⟩
    · rcases runs with h | h | h <;> simp [cp, h]
    · simp
    · simp [cp, same]
  · rw [run, accepted allowed, State.applySetPort_changed (by rwa [cp]) (by rwa [cp])]
    refine ⟨_, rfl, (State.portToOpen_sent (before.trans (OnlyPort.modCp _ p _)) ?_ ?_ ?_ .loop _ 0x11 tag).of_holding⟩
    · simp [cp, away]
    · simp
    · simp

end Sys2Proof.Machine
end

section
/-! The node's own timers (04 R63, R65; 08 R148, R162, R163), and the windows of door commands (07 R127). -/

namespace Sys2Proof.Machine

/-! ### Timers -/

theorem State.confirmTimeout_of_provisional {s : State} (prov : s.cc.node = .provisional) :
    s.confirmTimeout = { s with cc := { s.cc with node := .suspended, lastExit := .confirmTimeout, confirmTimer := none } } := by
  rw [State.confirmTimeout, if_pos prov]
  simp only [State.suspend, prov]
  rfl

/-- The sweep-silence timer at an OPERATIONAL member (04 R65). -/
theorem State.sweepSilence_of_operational {s : State} (op : s.cc.node = .operational) :
    s.sweepSilence = (s.suspend .silence).modCc fun c => { c with silenceTimer := none } := by
  rw [State.sweepSilence, if_pos op]

theorem State.tripDue_iff {s : State} {t : Nat} {rest : List Nat} (trips : s.ha.trips = t :: rest) :
    s.tripDue = true ↔ t + 60000 ≤ s.sys.ticks := by
  simp only [State.tripDue, trips, decide_eq_true_eq]
  omega

theorem samePorts_hostKick (t : State) : samePorts t t.hostKick := ⟨t.hostKick_port .p1, t.hostKick_port .p2⟩

/-- Settles O34: each timer by what its expiry does. -/
theorem nodeTimersExpire : Obligations.NodeTimersExpire := by
  intro s t0 rest ticks
  have due {t : Timer} {period : Nat} (h : timerDue t period = true) : s.expires t period = true :=
    (s.expires_iff _ _).mpr ⟨ticks, h⟩
  refine ⟨fun expired prov => ?_, fun expired op => ?_, fun expired => ?_, fun expired => ?_, fun trips old => ?_⟩
  · change (if s.expires s.cc.confirmTimer 1500 then s.confirmTimeout else s).done = _
    rw [if_pos (due expired), State.confirmTimeout_of_provisional prov]
    rfl
  · change completes (if s.expires s.cc.silenceTimer 3000 then s.sweepSilence else s).done _
    rw [if_pos (due expired), State.sweepSilence_of_operational op]
    refine completes_done ⟨?_, ?_, ?_, ?_, ?_, ?_⟩
    · simp [State.suspend_cc_fields, op]
    · exact leftOperational_of_blocks (s.suspend_leftOperational .silence) (by simp) (by simp) (by simp)
        fun h => told_hostKick h
    · exact sameSettings_of_blocks (s.suspend_sameSettings .silence) (by simp) (by simp) (by simp) (by simp)
    · simp [samePorts]
    · simp [sameSystem]
    · exact sameHost_hostKick (s.suspend_sameHost .silence)
  · change completes (if s.expires s.ha.watchdog 3000 then s.watchdogExpires else s).done _
    rw [if_pos (due expired)]
    have still : s.watchdogExpires.hl.still = s.hl.still := (State.raiseIf_still _ true .grant).trans (s.setHeld_still 0)
    refine completes_done ⟨?_, ?_, ?_, ?_, ?_, fun masked => told_hostKick (told_raise_self ?_), ?_, ?_, sameHost_hostKick still⟩
    · simp [State.watchdogExpires, State.setHeld]
    · simp [State.heatEnable, State.watchdogExpires]
    · simp [State.watchdogExpires]
    · simp [State.watchdogExpires]
    · simp [State.watchdogExpires]
    · exact (HostLink.masked_of_still (s.setHeld_still 0) _).trans masked
    · exact ⟨(State.hostKick_port _ .p1).trans (s.setHeld_port 0 .p1), (State.hostKick_port _ .p2).trans (s.setHeld_port 0 .p2)⟩
    · simp [State.watchdogExpires, sameSystem]
  · change completes (if s.expires s.ha.holdOff 5000
        then (s.modHa fun h => { h with holdOff := none }).raise .supply else s).done _
    rw [if_pos (due expired)]
    refine completes_done ⟨by simp, by simp, by simp, by simp, fun masked => told_hostKick (told_raise_self masked),
      by simp [samePorts], by simp [sameSystem], sameHost_hostKick (State.raiseIf_still _ true .supply)⟩
  · change (if s.ticking && s.tripDue then s.modHa fun h => { h with trips := h.trips.drop 1 } else s).done = _
    rw [ticks, (State.tripDue_iff trips).mpr old]
    simp [State.done, State.modHa, trips]

/-! ### Windows -/

theorem resolveWindow_front {w : Window} (front : w.anchor = .front) (n : Nat) :
    resolveWindow w n = (1 + w.offset, min n (1 + w.offset + w.count - 1)) := by simp only [resolveWindow, front]

theorem resolveWindow_rear {w : Window} (rear : w.anchor = .rear) (n : Nat) :
    resolveWindow w n = (max 1 (n - w.offset + 1 - w.count), n - w.offset) := by simp only [resolveWindow, rear]

section
variable {w : Window} {n : Nat} (pos : 1 ≤ w.count)
include pos

theorem resolveWindow_empty_iff : n ≤ w.offset ↔ (resolveWindow w n).2 < (resolveWindow w n).1 := by
  cases anchor : w.anchor
  · rw [resolveWindow_front anchor]
    dsimp only
    omega
  · rw [resolveWindow_rear anchor]
    dsimp only
    omega

theorem resolveWindow_within (inside : w.offset < n) :
    1 ≤ (resolveWindow w n).1 ∧ (resolveWindow w n).1 ≤ (resolveWindow w n).2 ∧ (resolveWindow w n).2 ≤ n := by
  cases anchor : w.anchor
  · rw [resolveWindow_front anchor]
    dsimp only
    omega
  · rw [resolveWindow_rear anchor]
    dsimp only
    omega

end

/-- The head of the queue has ended with its result (07 R138). -/
theorem State.endHead_of_cons {s : State} {c : DoorCmd} {rest : List DoorCmd} (queue : s.dcu.queue = c :: rest) (ending : Ending)
    (range : Option (Nat × Nat)) (applied : Option PosSet) :
    s.endHead ending range applied =
      (s.modDcu fun d => { d with queue := rest, inFlight := none, echoTimer := none }).addResults
        [{ cmd := c, range, ending, applied }] := by
  unfold State.endHead
  rw [queue]

/-- A command alone in the queue whose window is empty ends EMPTY at dispatch (07 R127). -/
theorem State.dispatchQueue_empty {s : State} {c : DoorCmd} (queue : s.dcu.queue = [c])
    (empty : (s.resolve c.window).2 < (s.resolve c.window).1) :
    s.dispatchQueue = s.endHead .empty (some (s.resolve c.window)) (some 0) := by
  simp only [State.dispatchQueue, queue, List.length_singleton, State.dispatch, if_pos empty]

/-- Settles O41: the two anchors, and the command whose window is empty. -/
theorem windowsResolveAtTheConsistLength : Obligations.WindowsResolveAtTheConsistLength := by
  intro s w n c _ pos
  refine ⟨rfl, fun front => resolveWindow_front front n, fun rear inside => ?_, resolveWindow_empty_iff pos,
    resolveWindow_within pos, fun k _ => rfl, fun queue empty => ?_⟩
  · rw [resolveWindow_rear rear]
    refine Prod.ext ?_ rfl
    dsimp only
    omega
  · rw [State.dispatchQueue_empty queue empty, State.endHead_of_cons queue]
    exact ⟨by simp [State.addResults], State.addResults_port _ _ .p1, State.addResults_port _ _ .p2⟩

end Sys2Proof.Machine
end

section
/-! The element list of a sweep and its bytes (06 R110, 11 section 11.2). -/

namespace Sys2Proof.Machine

/-! ### Decoding, element by element -/

/-- Bytes that are read as one element. -/
inductive ReadsAs : List Nat → Element → Prop
  | full {b0 b1 b2 b3 b4 b5 : Nat} (type : b0 / 64 % 4 = 0) (low : 1 ≤ b0 % 64) (high : b0 % 64 ≤ 32) :
    ReadsAs [b0, b1, b2, b3, b4, b5] (.full (recordOfBytes b0 b1 b2 b3 b4 b5))
  | nil {b0 : Nat} (type : b0 / 64 % 4 = 1) : ReadsAs [b0] .nil
  | nilRun {b0 k : Nat} (type : b0 / 64 % 4 = 2) : ReadsAs [b0, k] (.nilRun k)

theorem decodeList_append_of_reads {a : List Nat} {x : Element} (reads : ReadsAs a x) (rest : List Nat) :
    decodeList (a ++ rest) = (decodeList rest).map (x :: ·) := by
  cases reads with
  | full type low high => simp only [List.cons_append, List.nil_append, decodeList, type, if_pos (And.intro low high)]
  | nil type => simp only [List.cons_append, List.nil_append, decodeList, type]
  | nilRun type => simp only [List.cons_append, List.nil_append, decodeList, type]

/-- A list that decodes begins with the bytes of its first element. -/
theorem decodeList_cons {list : List Nat} {x : Element} {l : List Element} (h : decodeList list = some (x :: l)) :
    ∃ a rest, list = a ++ rest ∧ ReadsAs a x ∧ decodeList rest = some l := by
  unfold decodeList at h
  split at h
  · cases h
  · next b0 rest =>
    split at h
    · next b1 b2 b3 b4 b5 rest' type =>
      split at h
      · next range =>
        obtain ⟨l', hl, e⟩ := Option.map_eq_some_iff.mp h
        cases e
        exact ⟨[b0, b1, b2, b3, b4, b5], rest', rfl, .full type range.1 range.2, hl⟩
      · cases h
    · next rest' type =>
      obtain ⟨l', hl, e⟩ := Option.map_eq_some_iff.mp h
      cases e
      exact ⟨[b0], _, rfl, .nil type, hl⟩
    · next k rest' type =>
      obtain ⟨l', hl, e⟩ := Option.map_eq_some_iff.mp h
      cases e
      exact ⟨[b0, k], rest', rfl, .nilRun type, hl⟩
    · cases h

theorem decodeList_nil_iff {list : List Nat} : decodeList list = some [] ↔ list = [] := by
  refine ⟨fun h => ?_, fun h => h ▸ by rfl⟩
  unfold decodeList at h
  split at h
  · rfl
  · split at h
    · split at h <;> simp at h
    all_goals simp at h

/-- A list that decodes, with bytes behind it. -/
theorem decodeList_append {list : List Nat} {l : List Element} (h : decodeList list = some l) (rest : List Nat) :
    decodeList (list ++ rest) = (decodeList rest).map (l ++ ·) := by
  induction l generalizing list with
  | nil => rw [decodeList_nil_iff.mp h]; simp
  | cons x l ih =>
    obtain ⟨a, list', rfl, reads, decoded⟩ := decodeList_cons h
    rw [List.append_assoc, decodeList_append_of_reads reads, ih decoded, Option.map_map]
    rfl

/-- A list that decodes ends in the bytes of its last element. -/
theorem decodeList_snoc {list : List Nat} {l : List Element} {x : Element} (h : decodeList list = some (l ++ [x])) :
    ∃ head a, list = head ++ a ∧ decodeList head = some l ∧ ReadsAs a x := by
  induction l generalizing list with
  | nil =>
    obtain ⟨a, rest, rfl, reads, decoded⟩ := decodeList_cons h
    exact ⟨[], a, by rw [decodeList_nil_iff.mp decoded]; simp, rfl, reads⟩
  | cons y l ih =>
    obtain ⟨b, rest, rfl, reads, decoded⟩ := decodeList_cons h
    obtain ⟨head, a, rfl, decodes, last⟩ := ih decoded
    exact ⟨b ++ head, a, by simp, by rw [decodeList_append_of_reads reads, decodes]; rfl, last⟩

/-! ### The bytes of an element -/

/-- The fields of an element fit its bytes, and a record names a position of 1 to 32. -/
def Element.Writable : Element → Prop
  | .full r => 1 ≤ r.position ∧ r.position ≤ 32 ∧ r.demand < 256
  | .nil => True
  | .nilRun k => k < 256

theorem flagCode_le_one (b : Bool) : flagCode b ≤ 1 := by cases b <;> decide

theorem flagCode_mod_two (b : Bool) : flagCode b % 2 = flagCode b := by cases b <;> rfl

theorem decide_flagCode (b : Bool) : decide (flagCode b = 1) = b := by cases b <;> rfl

/-- Each bit of a record's flags byte is its flag. -/
theorem Record.flags_bits (r : Record) :
    r.flags % 2 = flagCode r.operational ∧ r.flags / 2 % 2 = flagCode r.closed ∧ r.flags / 4 % 2 = flagCode r.relLeft ∧
      r.flags / 8 % 2 = flagCode r.relRight ∧ r.flags / 16 % 2 = flagCode r.boost ∧ r.flags / 32 % 2 = flagCode r.gap ∧
      r.flags / 64 % 2 = flagCode r.degraded := by
  have operational := flagCode_le_one r.operational
  have closed := flagCode_le_one r.closed
  have relLeft := flagCode_le_one r.relLeft
  have relRight := flagCode_le_one r.relRight
  have boost := flagCode_le_one r.boost
  have gap := flagCode_le_one r.gap
  have degraded := flagCode_le_one r.degraded
  unfold Record.flags
  omega

theorem recordOfBytes_bytes {r : Record} (high : r.position ≤ 32) (demand : r.demand < 256) :
    recordOfBytes (r.position % 64) r.flags (r.demand % 256) r.openLeft.toNat r.openRight.toNat
      (r.isoLeft.toNat + 16 * r.isoRight.toNat) = r := by
  obtain ⟨operational, closed, relLeft, relRight, boost, gap, degraded⟩ := r.flags_bits
  have position : r.position % 64 % 64 = r.position := by omega
  have isoLeft : BitVec.ofNat 4 (r.isoLeft.toNat + 16 * r.isoRight.toNat) = r.isoLeft := by
    apply BitVec.eq_of_toNat_eq
    have := r.isoLeft.isLt
    simp only [BitVec.toNat_ofNat]
    omega
  have isoRight : (r.isoLeft.toNat + 16 * r.isoRight.toNat) / 16 = r.isoRight.toNat := by
    have := r.isoLeft.isLt
    omega
  simp only [recordOfBytes, operational, closed, relLeft, relRight, boost, gap, degraded, decide_flagCode, position,
    Nat.mod_eq_of_lt demand, BitVec.ofNat_toNat, BitVec.setWidth_eq, isoLeft, isoRight]

theorem Element.reads_bytes {x : Element} (h : x.Writable) : ReadsAs x.bytes x := by
  cases x with
  | full r =>
    obtain ⟨low, high, demand⟩ := h
    have reads := ReadsAs.full (b0 := r.position % 64) (b1 := r.flags) (b2 := r.demand % 256) (b3 := r.openLeft.toNat)
      (b4 := r.openRight.toNat) (b5 := r.isoLeft.toNat + 16 * r.isoRight.toNat) (by omega) (by omega) (by omega)
    rwa [recordOfBytes_bytes high demand] at reads
  | nil => exact .nil rfl
  | nilRun k =>
    have small : k < 256 := h
    have reads := ReadsAs.nilRun (b0 := 0x80) (k := k % 256) rfl
    rw [Nat.mod_eq_of_lt small] at reads
    rw [Element.bytes, Nat.mod_eq_of_lt small]
    exact reads

theorem decodeList_bytes {x : Element} (h : x.Writable) : decodeList x.bytes = some [x] := by
  simpa [decodeList] using decodeList_append_of_reads (Element.reads_bytes h) []

/-! ### The list with an element appended (06 R110) -/

theorem appendElement_full (l : List Element) (r : Record) : appendElement l (.full r) = l ++ [.full r] := rfl

theorem appendElement_nil_nil (l : List Element) : appendElement (l ++ [.nil]) .nil = l ++ [.nilRun 2] := by
  simp [appendElement]

theorem appendElement_nilRun_nil (l : List Element) (k : Nat) :
    appendElement (l ++ [.nilRun k]) .nil = l ++ [.nilRun (k + 1)] := by simp [appendElement]

theorem appendElement_record_nil (l : List Element) (r : Record) :
    appendElement (l ++ [.full r]) .nil = l ++ [.full r, .nil] := by simp [appendElement]

theorem appendBytes_full (list : List Nat) (l : List Element) (r : Record) : appendBytes list l (.full r) = list ++ r.bytes := rfl

theorem appendBytes_nil_nil (head : List Nat) (b : Nat) (l : List Element) :
    appendBytes (head ++ [b]) (l ++ [.nil]) .nil = head ++ [0x80, 2] := by simp [appendBytes, Element.bytes]

theorem appendBytes_nilRun_nil (head : List Nat) (b b' : Nat) (l : List Element) (k : Nat) :
    appendBytes (head ++ [b, b']) (l ++ [.nilRun k]) .nil = head ++ [0x80, (k + 1) % 256] := by
  simp [appendBytes, Element.bytes]

theorem appendBytes_record_nil (head : List Nat) (l : List Element) (r : Record) :
    appendBytes head (l ++ [.full r]) .nil = head ++ [0x40] := by simp [appendBytes, Element.bytes]

theorem listCovers_append (l m : List Element) : listCovers (l ++ m) = listCovers l + listCovers m := by
  simp [listCovers]

/-- A NIL at the end of a list stands for one position more. -/
theorem listCovers_appendNil (l : List Element) : listCovers (appendElement l .nil) = listCovers l + 1 := by
  rcases l.eq_nil_or_concat' with rfl | ⟨l, x, rfl⟩
  · rfl
  · cases x with
    | full r => rw [appendElement_record_nil, listCovers_append, listCovers_append]; rfl
    | nil => rw [appendElement_nil_nil, listCovers_append, listCovers_append]; rfl
    | nilRun k =>
      rw [appendElement_nilRun_nil, listCovers_append, listCovers_append]
      simp [listCovers, Element.covers]
      omega

/-- The bytes with a NIL appended decode to the list with a NIL appended. -/
theorem decodeList_appendNil {list : List Nat} {l : List Element} (h : decodeList list = some l)
    (small : ∀ n, Element.nilRun n ∈ l → n < 255) : decodeList (appendBytes list l .nil) = some (appendElement l .nil) := by
  rcases l.eq_nil_or_concat' with rfl | ⟨l, x, rfl⟩
  · rw [decodeList_nil_iff.mp h]
    rfl
  · obtain ⟨head, a, rfl, decodes, last⟩ := decodeList_snoc h
    cases last with
    | full type low high =>
      rw [appendBytes_record_nil, appendElement_record_nil, decodeList_append h]
      simp [decodeList]
    | nil type =>
      rw [appendBytes_nil_nil, appendElement_nil_nil, decodeList_append decodes]
      rfl
    | @nilRun b0 k type =>
      have fits : (Element.nilRun (k + 1)).Writable := by
        have := small k (by simp)
        exact Nat.succ_lt_succ this
      rw [appendBytes_nilRun_nil, appendElement_nilRun_nil, decodeList_append decodes]
      exact congrArg (Option.map (l ++ ·)) (decodeList_bytes fits)

/-- Settles O36: the list and the bytes by what ends the list. -/
theorem elementsMergeAtTheListEnd : Obligations.ElementsMergeAtTheListEnd := by
  intro l r k b b' head list
  refine ⟨appendElement_full l r, rfl, appendElement_record_nil l r, appendElement_nil_nil l, appendElement_nilRun_nil l k,
    listCovers_appendNil l, appendBytes_nil_nil head b l, appendBytes_nilRun_nil head b b' l k, appendBytes_record_nil head l r,
    appendBytes_full head l r, fun h small low high demand => ⟨decodeList_appendNil h small, ?_⟩⟩
  rw [appendBytes_full, appendElement_full, decodeList_append h]
  exact congrArg (Option.map (l ++ ·)) (decodeList_bytes (x := .full r) ⟨low, high, demand⟩)

end Sys2Proof.Machine
end

section
/-! Frames read back from their bytes (11 section 11.2). -/

namespace Sys2Proof.Machine

/-! ### Numbers -/

theorem ofNat_number4 (v : BitVec 32) :
    BitVec.ofNat 32 (number4 (v.toNat / 16777216 % 256) (v.toNat / 65536 % 256) (v.toNat / 256 % 256) (v.toNat % 256)) = v := by
  apply BitVec.eq_of_toNat_eq
  have := v.isLt
  simp only [number4, BitVec.toNat_ofNat]
  omega

theorem byte4_number4 {a b c d : Nat} (ha : a < 256) (hb : b < 256) (hc : c < 256) (hd : d < 256) :
    byte4 (BitVec.ofNat 32 (number4 a b c d)).toNat = [a, b, c, d] := by
  simp only [number4, byte4, BitVec.toNat_ofNat, List.cons.injEq, and_true]
  omega

/-! ### Entries -/

/-- The byte that packs class, orientation and lead flag with the two unnamed bits. -/
def packedByte (x : LineEntry) : Nat :=
  x.entry.cls % 16 + (if x.entry.orientation = .reversed then 16 else 0) + (if x.entry.lead then 32 else 0) + x.spare % 4 * 64

theorem lineEntryBytes_eq (x : LineEntry) : lineEntryBytes x = serialBytes x.entry.serial ++
    [x.entry.position % 256, packedByte x, x.entry.leaves1 % 16 * 16 + x.entry.leaves2 % 16, x.entry.stepPower % 256] := rfl

theorem packedByte_fields (x : LineEntry) :
    packedByte x % 16 = x.entry.cls % 16 ∧ (packedByte x / 16 % 2 = 1 ↔ x.entry.orientation = .reversed) ∧
      (packedByte x / 32 % 2 = 1 ↔ x.entry.lead = true) ∧ packedByte x / 64 % 4 = x.spare % 4 := by
  unfold packedByte
  cases x.entry.orientation <;> cases x.entry.lead <;> simp <;> omega

/-- A byte is what its four fields pack. -/
theorem packed_ofByte {f : Nat} (small : f < 256) :
    f % 16 % 16 + (if f / 16 % 2 = 1 then 16 else 0) + (if f / 32 % 2 = 1 then 32 else 0) + f / 64 % 4 % 4 * 64 = f := by
  split <;> split <;> omega

theorem lineEntryOfBytes_bytes {x : LineEntry} (fits : x.fits) : lineEntryOfBytes (lineEntryBytes x) = some x := by
  obtain ⟨⟨position, cls, leaves1, leaves2, stepPower⟩, spare⟩ := fits
  obtain ⟨hcls, orientation, lead, hspare⟩ := packedByte_fields x
  have faces : (if packedByte x / 16 % 2 = 1 then Orientation.reversed else .forward) = x.entry.orientation := by
    cases h : x.entry.orientation <;> simp [orientation, h]
  have leads : decide (packedByte x / 32 % 2 = 1) = x.entry.lead := by
    cases h : x.entry.lead <;> simp [lead, h]
  have high : (x.entry.leaves1 % 16 * 16 + x.entry.leaves2 % 16) / 16 % 16 = x.entry.leaves1 := by omega
  have low : (x.entry.leaves1 % 16 * 16 + x.entry.leaves2 % 16) % 16 = x.entry.leaves2 := by omega
  rw [lineEntryBytes_eq]
  simp only [lineEntryOfBytes, serialBytes, byte4, List.cons_append, List.nil_append, entryOfBytes, Option.map_some,
    ofNat_number4, faces, leads, high, low, hcls, Nat.mod_eq_of_lt cls, Nat.mod_eq_of_lt position, Nat.mod_eq_of_lt stepPower]
  simp [hspare, Nat.mod_eq_of_lt spare]

/-- An entry is read from eight bytes. -/
theorem lineEntryOfBytes_eq_some {pl : List Nat} {x : LineEntry} (h : lineEntryOfBytes pl = some x) :
    ∃ a b c d pos f l sp, pl = [a, b, c, d, pos, f, l, sp] ∧ x = {
      entry := { serial := BitVec.ofNat 32 (number4 a b c d), position := pos, cls := f % 16,
                 orientation := if f / 16 % 2 = 1 then .reversed else .forward, lead := f / 32 % 2 = 1,
                 leaves1 := l / 16 % 16, leaves2 := l % 16, stepPower := sp },
      spare := f / 64 % 4 } := by
  obtain ⟨e, he, rfl⟩ := Option.map_eq_some_iff.mp h
  unfold entryOfBytes at he
  split at he
  · next a b c d pos f l sp =>
    cases he
    exact ⟨a, b, c, d, pos, f, l, sp, rfl, rfl⟩
  · cases he

theorem lineEntryBytes_ofBytes {pl : List Nat} {x : LineEntry} (small : ∀ b ∈ pl, b < 256) (h : lineEntryOfBytes pl = some x) :
    lineEntryBytes x = pl := by
  obtain ⟨a, b, c, d, pos, f, l, sp, rfl, rfl⟩ := lineEntryOfBytes_eq_some h
  simp only [List.mem_cons, List.not_mem_nil, or_false, forall_eq_or_imp, forall_eq] at small
  obtain ⟨ha, hb, hc, hd, hpos, hf, hl, hsp⟩ := small
  have leaves : l / 16 % 16 % 16 * 16 + l % 16 % 16 = l := by omega
  have faces : ((if f / 16 % 2 = 1 then Orientation.reversed else .forward) = .reversed) = (f / 16 % 2 = 1) := by
    split <;> simp [*]
  rw [lineEntryBytes]
  simp only [serialBytes, byte4_number4 ha hb hc hd, faces, decide_eq_true_eq, packed_ofByte hf, leaves, Nat.mod_eq_of_lt hpos,
    Nat.mod_eq_of_lt hsp]
  rfl

theorem entriesOfBytes_cons {x : LineEntry} (fits : x.fits) (rest : List Nat) :
    entriesOfBytes (lineEntryBytes x ++ rest) = (entriesOfBytes rest).map (x :: ·) := by
  have read := lineEntryOfBytes_bytes fits
  rw [lineEntryBytes_eq] at read ⊢
  simp only [serialBytes, byte4, List.cons_append, List.nil_append] at read ⊢
  rw [entriesOfBytes, read]
  cases entriesOfBytes rest <;> rfl

theorem entriesOfBytes_bytes {l : List LineEntry} (fits : ∀ x ∈ l, x.fits) :
    entriesOfBytes (l.flatMap lineEntryBytes) = some l := by
  induction l with
  | nil => rfl
  | cons x l ih =>
    rw [List.flatMap_cons, entriesOfBytes_cons (fits x (by simp)), ih fun y mem => fits y (by simp [mem])]
    rfl

/-- A run of entries begins with the bytes of its first entry. -/
theorem entriesOfBytes_eq_cons {pl : List Nat} {x : LineEntry} {l : List LineEntry} (h : entriesOfBytes pl = some (x :: l)) :
    ∃ a rest, pl = a ++ rest ∧ lineEntryOfBytes a = some x ∧ entriesOfBytes rest = some l := by
  unfold entriesOfBytes at h
  split at h
  · cases h
  · next a b c d e f g k rest =>
    split at h
    · next y ys first others =>
      cases h
      exact ⟨_, rest, rfl, first, others⟩
    · cases h
  · cases h

theorem entriesOfBytes_eq_nil {pl : List Nat} (h : entriesOfBytes pl = some []) : pl = [] := by
  unfold entriesOfBytes at h
  split at h
  · rfl
  · split at h <;> simp at h
  · cases h

theorem entriesOfBytes_kept {l : List LineEntry} {pl : List Nat} (small : ∀ b ∈ pl, b < 256) (h : entriesOfBytes pl = some l) :
    l.flatMap lineEntryBytes = pl := by
  induction l generalizing pl with
  | nil => exact (entriesOfBytes_eq_nil h).symm
  | cons x l ih =>
    obtain ⟨a, rest, rfl, first, others⟩ := entriesOfBytes_eq_cons h
    rw [List.flatMap_cons, ih (fun y mem => small y (by simp [mem])) others,
      lineEntryBytes_ofBytes (fun y mem => small y (by simp [mem])) first]

/-! ### Bodies -/

theorem entryBytes_length (l : List LineEntry) : (l.flatMap lineEntryBytes).length = 8 * l.length := by
  induction l with
  | nil => rfl
  | cons x l ih =>
    have eight : (lineEntryBytes x).length = 8 := rfl
    rw [List.flatMap_cons, List.length_append, ih, eight, List.length_cons]
    omega

theorem parseBody_of_read {kind direction : Nat} {pl : List Nat} {b : Body} (dir : directionOfKind kind = some direction)
    (read : bodyOfPayload kind pl = some b) : parseBody kind direction pl = b := by
  rw [parseBody, if_pos (.inr (.inr dir)), read]
  rfl

/-- A body whose fields fit their bytes is read from its payload. -/
theorem bodyOfPayload_payload {f : Frame} {p : PortId} {q : PairId} {seq : Nat} (classed : f.body.cls.isSome = true)
    (fits : WellFormed (f.command p q seq)) : bodyOfPayload f.body.kindCode f.body.payload = some f.body := by
  obtain ⟨gen, body⟩ := f
  cases body with
  | pattern ready rate => cases classed
  | raw kind direction payload => cases classed
  | beat b =>
    obtain ⟨-, port, node, maxRate, rate⟩ := fits
    simp only [Body.payload, Body.kindCode, serialBytes, byte4, List.cons_append, List.nil_append, bodyOfPayload, ofNat_number4,
      flagCode_mod_two, decide_flagCode, Nat.mod_eq_of_lt port, Nat.mod_eq_of_lt node, Nat.mod_eq_of_lt maxRate,
      Nat.mod_eq_of_lt rate]
  | walk leader next =>
    obtain ⟨-, small⟩ := fits
    simp only [Body.payload, Body.kindCode, serialBytes, byte4, List.cons_append, List.nil_append, bodyOfPayload, ofNat_number4,
      Nat.mod_eq_of_lt small]
  | node e =>
    obtain ⟨-, entry⟩ := fits
    simp only [Body.payload, Body.kindCode, bodyOfPayload, lineEntryOfBytes_bytes entry, Option.map_some]
  | tail flags last serial =>
    obtain ⟨-, hflags, hlast⟩ := fits
    simp only [Body.payload, Body.kindCode, serialBytes, byte4, List.cons_append, List.nil_append, bodyOfPayload, ofNat_number4,
      Nat.mod_eq_of_lt hflags, Nat.mod_eq_of_lt hlast]
  | clash claimant leader =>
    simp only [Body.payload, Body.kindCode, serialBytes, byte4, List.cons_append, List.nil_append, bodyOfPayload, ofNat_number4]
  | confirm n reason entries =>
    obtain ⟨-, hn, hreason, most, least, entry⟩ := fits
    have length := entryBytes_length entries
    simp only [Body.payload, Body.kindCode, List.cons_append, List.nil_append, bodyOfPayload, Nat.mod_eq_of_lt hn,
      Nat.mod_eq_of_lt hreason, entriesOfBytes_bytes entry, Option.map_some]
    rw [if_neg (by omega)]
  | call serial position cause port =>
    obtain ⟨-, hposition, hcause, hport⟩ := fits
    simp only [Body.payload, Body.kindCode, serialBytes, byte4, List.cons_append, List.nil_append, bodyOfPayload, ofNat_number4,
      Nat.mod_eq_of_lt hposition, Nat.mod_eq_of_lt hcause, Nat.mod_eq_of_lt hport]
  | door id action side first last =>
    obtain ⟨-, hid, haction, hside, hfirst, hlast⟩ := fits
    simp only [Body.payload, Body.kindCode, bodyOfPayload, Nat.mod_eq_of_lt hid, Nat.mod_eq_of_lt haction,
      Nat.mod_eq_of_lt hside, Nat.mod_eq_of_lt hfirst, Nat.mod_eq_of_lt hlast]
  | echo id applied =>
    obtain ⟨-, hid⟩ := fits
    simp only [Body.payload, Body.kindCode, posSetBytes, byte4, List.cons_append, List.nil_append, bodyOfPayload, ofNat_number4,
      Nat.mod_eq_of_lt hid]
  | sweep number flags n list =>
    obtain ⟨-, hnumber, hflags, hn, ⟨most, -⟩, least⟩ := fits
    obtain ⟨b, rest, rfl⟩ := List.exists_cons_of_length_pos least
    simp only [Body.payload, Body.kindCode, List.cons_append, List.nil_append, bodyOfPayload, Nat.mod_eq_of_lt hnumber,
      Nat.mod_eq_of_lt hflags, Nat.mod_eq_of_lt hn, if_pos (Nat.lt_of_succ_le most)]
  | ret number flags n list =>
    obtain ⟨-, hnumber, hflags, hn, ⟨most, -⟩, least⟩ := fits
    obtain ⟨b, rest, rfl⟩ := List.exists_cons_of_length_pos least
    simp only [Body.payload, Body.kindCode, List.cons_append, List.nil_append, bodyOfPayload, Nat.mod_eq_of_lt hnumber,
      Nat.mod_eq_of_lt hflags, Nat.mod_eq_of_lt hn, if_pos (Nat.lt_of_succ_le most)]
  | grant cause number n grants =>
    obtain ⟨-, hcause, hnumber, hn, ⟨most, -⟩, least⟩ := fits
    obtain ⟨b, rest, rfl⟩ := List.exists_cons_of_length_pos least
    simp only [Body.payload, Body.kindCode, List.cons_append, List.nil_append, bodyOfPayload, Nat.mod_eq_of_lt hcause,
      Nat.mod_eq_of_lt hnumber, Nat.mod_eq_of_lt hn, if_pos (Nat.lt_of_succ_le most)]

theorem directionOfKind_of_classed {b : Body} (classed : b.cls.isSome = true) :
    directionOfKind b.kindCode = some b.direction := by
  cases b
  case pattern => cases classed
  case raw => cases classed
  all_goals rfl

/-- A payload that arrives is the payload of the body it is read as, but for a PATTERN or a BEAT. -/
theorem payload_of_read {kind : Nat} {pl : List Nat} {b : Body} (kept : kind ≠ 1 ∧ kind ≠ 2) (small : ∀ x ∈ pl, x < 256)
    (read : bodyOfPayload kind pl = some b) : b.payload = pl := by
  unfold bodyOfPayload at read
  split at read
  case h_1 => exact absurd rfl kept.1
  case h_2 => exact absurd rfl kept.2
  case h_4 =>
    obtain ⟨e, entry, rfl⟩ := Option.map_eq_some_iff.mp read
    exact lineEntryBytes_ofBytes small entry
  case h_7 n reason rest =>
    split at read
    · cases read
    obtain ⟨entries, whole, rfl⟩ := Option.map_eq_some_iff.mp read
    simp only [List.mem_cons, forall_eq_or_imp] at small
    obtain ⟨hn, hreason, hrest⟩ := small
    simp only [Body.payload, Nat.mod_eq_of_lt hn, Nat.mod_eq_of_lt hreason, entriesOfBytes_kept hrest whole, List.cons_append,
      List.nil_append]
  case h_14 => cases read
  all_goals simp only [List.mem_cons, List.not_mem_nil, or_false, forall_eq_or_imp, forall_eq] at small
  case h_3 a b c d next =>
    cases read
    obtain ⟨ha, hb, hc, hd, hnext⟩ := small
    simp only [Body.payload, serialBytes, byte4_number4 ha hb hc hd, Nat.mod_eq_of_lt hnext, List.cons_append, List.nil_append]
  case h_5 f last a b c d =>
    cases read
    obtain ⟨hf, hlast, ha, hb, hc, hd⟩ := small
    simp only [Body.payload, serialBytes, byte4_number4 ha hb hc hd, Nat.mod_eq_of_lt hf, Nat.mod_eq_of_lt hlast,
      List.cons_append, List.nil_append]
  case h_6 a b c d a' b' c' d' =>
    cases read
    obtain ⟨ha, hb, hc, hd, ha', hb', hc', hd'⟩ := small
    simp only [Body.payload, serialBytes, byte4_number4 ha hb hc hd, byte4_number4 ha' hb' hc' hd', List.cons_append,
      List.nil_append]
  case h_8 a b c d position cause port =>
    cases read
    obtain ⟨ha, hb, hc, hd, hposition, hcause, hport⟩ := small
    simp only [Body.payload, serialBytes, byte4_number4 ha hb hc hd, Nat.mod_eq_of_lt hposition, Nat.mod_eq_of_lt hcause,
      Nat.mod_eq_of_lt hport, List.cons_append, List.nil_append]
  case h_9 id action side first last =>
    cases read
    obtain ⟨hid, haction, hside, hfirst, hlast⟩ := small
    simp only [Body.payload, Nat.mod_eq_of_lt hid, Nat.mod_eq_of_lt haction, Nat.mod_eq_of_lt hside, Nat.mod_eq_of_lt hfirst,
      Nat.mod_eq_of_lt hlast]
  case h_10 id a b c d =>
    cases read
    obtain ⟨hid, ha, hb, hc, hd⟩ := small
    simp only [Body.payload, posSetBytes, byte4_number4 ha hb hc hd, Nat.mod_eq_of_lt hid, List.cons_append, List.nil_append]
  all_goals
    next x y z w rest =>
      obtain ⟨hx, hy, hz, -⟩ := small
      split at read
      · cases read
        simp only [Body.payload, Nat.mod_eq_of_lt hx, Nat.mod_eq_of_lt hy, Nat.mod_eq_of_lt hz, List.cons_append, List.nil_append]
      · cases read

/-- Whatever is read but a PATTERN is of a kind that the relay has a class for. -/
theorem classed_of_read {kind : Nat} {pl : List Nat} {b : Body} (kept : kind ≠ 1) (read : bodyOfPayload kind pl = some b) :
    b.cls.isSome = true := by
  unfold bodyOfPayload at read
  split at read
  case h_1 => exact absurd rfl kept
  case h_4 =>
    obtain ⟨e, -, rfl⟩ := Option.map_eq_some_iff.mp read
    rfl
  case h_7 =>
    split at read
    · cases read
    · obtain ⟨entries, -, rfl⟩ := Option.map_eq_some_iff.mp read
      rfl
  case h_11 | h_12 | h_13 =>
    split at read
    · cases read
      rfl
    · cases read
  case h_14 => cases read
  all_goals
    cases read
    rfl

theorem Element.listBytes_cons (x : Element) (l : List Element) : listBytes (x :: l) = x.bytes ++ listBytes l := rfl

/-- A list of elements whose fields fit their bytes is read from its bytes. -/
theorem decodeList_listBytes {l : List Element} (writable : ∀ x ∈ l, x.Writable) : decodeList (listBytes l) = some l := by
  induction l with
  | nil => rfl
  | cons x l ih =>
    rw [Element.listBytes_cons, decodeList_append_of_reads (Element.reads_bytes (writable x (by simp))),
      ih fun y mem => writable y (by simp [mem])]
    rfl

/-- An element of type 11 does not decode. -/
theorem decodeList_of_type3 {b : Nat} (type : b / 64 % 4 = 3) (rest : List Nat) : decodeList (b :: rest) = none := by
  simp [decodeList, type]

/-- Settles O60: bodies, element lists, and payloads that arrive. -/
theorem framesReadBackFromTheirBytes : Obligations.FramesReadBackFromTheirBytes := by
  refine ⟨fun f p q seq classed fits =>
      parseBody_of_read (directionOfKind_of_classed classed) (bodyOfPayload_payload classed fits),
    fun l writable => ?_, fun kind direction pl b dir away small read => ?_⟩
  · have decodes : decodeList (listBytes l) = some l :=
      decodeList_listBytes fun x mem => by cases x <;> exact writable _ mem
    refine ⟨decodes, fun b rest least most => ?_⟩
    rw [decodeList_append decodes, decodeList_of_type3 (by omega)]
    rfl
  · have code := bodyOfPayload_kindCode read
    have kept : kind ≠ 1 ∧ kind ≠ 2 := by
      constructor <;> (rintro rfl; exact away (Option.some.inj dir).symm)
    refine ⟨parseBody_of_read dir read, code, ?_, payload_of_read kept small read⟩
    have direction_ := directionOfKind_of_classed (classed_of_read kept.1 read)
    rw [code, dir] at direction_
    exact (Option.some.inj direction_).symm

end Sys2Proof.Machine
end

section
/-! What a delivered frame leaves to the node (01 R21, R22): the delivery, the block that takes the frame, the score of its pair.
Offers do not look at what a delivery changes at its port, and a block's offers are then read off the state before. -/

namespace Sys2Proof.Machine

/-! ### Offers do not look at a port's pairs -/

/-- The state with the bookkeeping of port p's pairs and of its neighbour timeout at rest, as `portsBut` compares it. -/
def State.settle (s : State) (p : PortId) : State := (s.modCp p Coupler.settled).modNm p Nbr.settled

theorem State.settle_cp (s : State) (p : PortId) : (s.settle p).cp p = (s.cp p).settled := by simp [State.settle]

theorem State.settle_lr (s : State) (p : PortId) : (s.settle p).lr p = s.lr p := by simp [State.settle]

theorem State.settle_nm (s : State) (p : PortId) : (s.settle p).nm p = (s.nm p).settled := by simp [State.settle]

theorem State.settle_other (s : State) (p : PortId) : (s.settle p).port (other p) = s.port (other p) := by simp [State.settle]

theorem Port.ext_blocks {x y : Port} (cp : x.cp = y.cp) (lr : x.lr = y.lr) (nm : x.nm = y.nm) : x = y := by
  cases x
  cases y
  simp_all

theorem portsBut_iff_settle {u t : State} {p : PortId} : portsBut u t p ↔ ∀ x, (t.settle p).port x = (u.settle p).port x := by
  constructor
  · rintro ⟨cp, nm, lr, rest⟩ x
    by_cases here : x = p
    · subst here
      refine Port.ext_blocks (?_ : (t.settle x).cp x = (u.settle x).cp x) (?_ : (t.settle x).lr x = (u.settle x).lr x)
        (?_ : (t.settle x).nm x = (u.settle x).nm x)
      · rw [State.settle_cp, State.settle_cp, cp]
      · rw [State.settle_lr, State.settle_lr, lr]
      · rw [State.settle_nm, State.settle_nm, nm]
    · rw [eq_other_of_ne here, State.settle_other, State.settle_other, rest]
  · intro port
    refine ⟨?_, ?_, ?_, ?_⟩
    · rw [← State.settle_cp, ← State.settle_cp]
      exact congrArg Port.cp (port p)
    · rw [← State.settle_nm, ← State.settle_nm]
      exact congrArg Port.nm (port p)
    · rw [← State.settle_lr t, ← State.settle_lr u]
      exact congrArg Port.lr (port p)
    · rw [← State.settle_other t, ← State.settle_other u]
      exact port (other p)

section
variable {s : State} {p : PortId}

theorem Coupler.hearOwn_of_takesFrames {c : Coupler} (takes : c.takesFrames = true) : c.hearOwn = c :=
  Coupler.hearOwn_of_not_localLoop (Coupler.not_localLoop_of_takesFrames takes)

theorem State.startPattern_eq (takes : (s.cp p).takesFrames = true) :
    s.startPattern p = (s.modLr p fun r => { r with tx := some (.pattern (s.cp p).patternReady (s.cp p).rate) }).modCp p
      fun c => { c with patternDue := false, answerGuard := some 0 } := by
  refine State.modCp_congr ?_
  simp [Coupler.hearOwn_of_takesFrames takes]

theorem State.startPattern_settle (takes : (s.cp p).takesFrames = true) :
    (s.settle p).startPattern p = (s.startPattern p).settle p := by
  rw [State.startPattern_eq takes, State.startPattern_eq (by rw [State.settle_cp]; exact takes)]
  cases p <;> rfl

theorem State.startFrame_settle (c : Cls) : (s.settle p).startFrame p c = (s.startFrame p c).settle p := by
  unfold State.startFrame
  rw [State.settle_lr]
  cases (s.lr p).takeHead c with
  | none => rfl
  | some fr => cases p <;> rfl

theorem State.kickLine_settle (takes : (s.cp p).takesFrames = true) : (s.settle p).kickLine p = (s.kickLine p).settle p := by
  have due : ((s.settle p).cp p).patternDue = (s.cp p).patternDue := by rw [State.settle_cp]; rfl
  have may : ((s.settle p).cp p).maySendPattern = (s.cp p).maySendPattern := by rw [State.settle_cp]; rfl
  have st : ((s.settle p).cp p).st = (s.cp p).st := by rw [State.settle_cp]; rfl
  unfold State.kickLine
  rw [due, may, st, State.settle_lr]
  split
  · rfl
  · split
    · exact State.startPattern_settle takes
    · split
      · cases (s.lr p).choice with
        | none => rfl
        | some c => exact State.startFrame_settle c
      · rfl

theorem State.modLr_settle (f : Relay → Relay) : (s.settle p).modLr p f = (s.modLr p f).settle p := by cases p <;> rfl

/-- An offer does not look at what is at rest in a settled port. -/
theorem State.offer_settle (f : Frame) : (s.settle p).offer p f = (s.offer p f).settle p := by
  have takes : ((s.settle p).cp p).takesFrames = (s.cp p).takesFrames := by rw [State.settle_cp]; rfl
  unfold State.offer
  cases f.body.cls with
  | none => rfl
  | some c =>
    dsimp only
    rw [takes]
    split
    · next h =>
      rw [State.modLr_settle]
      exact State.kickLine_settle (by simpa using h)
    · exact State.modLr_settle _

end

/-! ### Comparing ports -/

section
variable {u v w : State} {p : PortId}

theorem samePorts.port (h : samePorts u v) (x : PortId) : v.port x = u.port x := by
  cases x
  · exact h.1
  · exact h.2

theorem samePorts_of_port (h : ∀ x, v.port x = u.port x) : samePorts u v := ⟨h .p1, h .p2⟩

theorem samePorts.refl (u : State) : samePorts u u := ⟨rfl, rfl⟩

theorem samePorts.trans (h : samePorts u v) (k : samePorts v w) : samePorts u w := ⟨k.1.trans h.1, k.2.trans h.2⟩

theorem samePorts_offer (h : samePorts u v) (x : PortId) (f : Frame) : samePorts (u.offer x f) (v.offer x f) :=
  samePorts_of_port fun y => by
    by_cases e : y = x
    · subst e
      exact State.offer_port_congr (h.port y) f
    · rw [eq_other_of_ne e, State.offer_port_other, State.offer_port_other]
      exact h.port _

theorem samePorts_modLr (h : samePorts u v) (p : PortId) (f : Relay → Relay) : samePorts (u.modLr p f) (v.modLr p f) :=
  samePorts_of_port fun y => by
    by_cases e : y = p
    · subst e
      exact State.modLr_port_congr (h.port y) f
    · rw [eq_other_of_ne e, State.modLr_port_other, State.modLr_port_other]
      exact h.port _

theorem portsBut.refl (u : State) (p : PortId) : portsBut u u p := ⟨rfl, rfl, rfl, rfl⟩

theorem portsBut.trans (h : portsBut u v p) (k : portsBut v w p) : portsBut u w p :=
  ⟨k.1.trans h.1, k.2.1.trans h.2.1, k.2.2.1.trans h.2.2.1, k.2.2.2.trans h.2.2.2⟩

theorem portsBut_of_samePorts (h : samePorts u v) (p : PortId) : portsBut u v p :=
  ⟨congrArg (fun x : Port => x.cp.settled) (h.port p), congrArg (fun x : Port => x.nm.settled) (h.port p),
    congrArg Port.lr (h.port p), h.port (other p)⟩

theorem State.offer_port_of_ne (s : State) {p x : PortId} (away : x ≠ p) (f : Frame) : (s.offer p f).port x = s.port x := by
  rw [eq_other_of_ne away, State.offer_port_other]

/-- Offers at either port keep what `portsBut` compares. -/
theorem portsBut_offer (h : portsBut u v p) (x : PortId) (f : Frame) : portsBut (u.offer x f) (v.offer x f) p := by
  by_cases here : x = p
  · subst here
    refine portsBut_iff_settle.mpr fun y => ?_
    have alike := portsBut_iff_settle.mp h
    rw [← State.offer_settle, ← State.offer_settle]
    exact (samePorts_offer (samePorts_of_port alike) x f).port y
  · obtain ⟨cp, nm, lr, rest⟩ := h
    have away : p ≠ x := fun e => here e.symm
    have kept (w : State) : (w.offer x f).port p = w.port p := w.offer_port_of_ne away f
    refine ⟨?_, ?_, ?_, ?_⟩
    · rw [show (v.offer x f).cp p = v.cp p from congrArg Port.cp (kept v),
        show (u.offer x f).cp p = u.cp p from congrArg Port.cp (kept u), cp]
    · rw [State.offer_nm, State.offer_nm, nm]
    · rw [show (v.offer x f).lr p = v.lr p from congrArg Port.lr (kept v),
        show (u.offer x f).lr p = u.lr p from congrArg Port.lr (kept u), lr]
    · rw [← eq_other_of_ne here] at rest ⊢
      exact State.offer_port_congr rest f

theorem portsBut_modLr (h : portsBut u v p) (f : Relay → Relay) : portsBut (u.modLr p f) (v.modLr p f) p := by
  obtain ⟨cp, nm, lr, rest⟩ := h
  exact ⟨by simpa using cp, by simpa using nm, by simp [lr], by simpa using rest⟩

end

/-! ### The delivery and the score -/

/-- The state in which a delivered frame reaches its block: only bookkeeping of its port has changed (01 R21, 03 R55). -/
structure DeliveredTo (s d : State) (p : PortId) (seq : Nat) : Prop where
  settled : (d.cp p).settled = (s.cp p).settled
  lr : d.lr p = s.lr p
  nm : d.nm p = { s.nm p with timeout := some 0 }
  other : d.port (other p) = s.port (other p)
  node : sameNode s d
  system : sameSystem s d
  hl : d.hl = s.hl
  held : (d.cp p).held = none
  last : (d.cp p).lastDelivered = some seq
  degraded : (d.cp p).degradedPair = (s.cp p).degradedPair

/-- The node, the system and the host link are kept, but that notices may be told. -/
structure Kept (h t : State) : Prop where
  node : sameNode h t
  system : sameSystem h t
  host : sameHost h t
  tells : ∀ k, told h k → told t k

/-- What the score of a delivered frame's pair leaves of the state that its block has made. -/
structure Scored (h t : State) (p : PortId) : Prop extends Kept h t where
  settled : (t.cp p).settled = (h.cp p).settled
  last : (t.cp p).lastDelivered = (h.cp p).lastDelivered
  lr : t.lr p = h.lr p
  nm : t.nm p = h.nm p
  other : t.port (other p) = h.port (other p)

/-- The delivery of a good frame that the preferred pair ends, no held copy waiting (01 R21). -/
def State.delivered (s : State) (p : PortId) (q : PairId) (seq : Nat) : State :=
  (s.modCp p fun c => (c.modPair q Pair.closeFrame).deliver q seq).modNm p fun n => { n with timeout := some 0 }

/-- The score of the pair that ended a delivered frame (01 R18, R19). -/
def State.scored (h : State) (p : PortId) (q : PairId) (seq : Nat) : State :=
  (h.changePair p q fun x => x.goodFrame ((h.cp p).pair (otherPair q)).copies seq).modCp p fun c => c.pruneCopies q seq

section
variable {s : State} {p : PortId} {q : PairId} {seq : Nat}

/-- A delivered frame: the delivery, its block, its pair's score. -/
theorem State.goodFrame_delivers (now : deliversNow s p q seq) (f : Frame) :
    s.goodFrame p q seq f = ((s.delivered p q seq).handOn p f).scored p q seq := by
  have delivery : (s.modCp p fun c => c.modPair q Pair.closeFrame).deliver p q seq f = (s.delivered p q seq).handOn p f := by
    rw [State.deliver, State.modCp_modCp]
    rfl
  rw [State.goodFrame_of_deliversNow now, delivery]
  rfl

/-- A delivery leaves of a port all but its pairs' bookkeeping, the lost frames and the last sequence (01 R19, R21). -/
theorem Coupler.deliver_kept (c : Coupler) (q : PairId) (seq : Nat) :
    (c.deliver q seq).settled = c.settled ∧ (c.deliver q seq).held = c.held ∧ (c.deliver q seq).lastDelivered = some seq ∧
      (c.deliver q seq).degradedPair = c.degradedPair := by
  cases q <;> simp only [Coupler.deliver, Coupler.settled, Coupler.degradedPair, Coupler.modPair, Coupler.bothPairs, and_self]

theorem Coupler.closeFrame_kept (c : Coupler) (q : PairId) :
    (c.modPair q Pair.closeFrame).settled = c.settled ∧ (c.modPair q Pair.closeFrame).held = c.held ∧
      (c.modPair q Pair.closeFrame).degradedPair = c.degradedPair := by
  cases q <;> exact ⟨rfl, rfl, rfl⟩

theorem State.delivered_cp (s : State) (p : PortId) (q : PairId) (seq : Nat) :
    (s.delivered p q seq).cp p = ((s.cp p).modPair q Pair.closeFrame).deliver q seq := by
  rw [State.delivered, State.modNm_cp, State.modCp_cp]

theorem State.delivered_to (none : (s.cp p).held = none) (q : PairId) (seq : Nat) :
    DeliveredTo s (s.delivered p q seq) p seq := by
  obtain ⟨settled, held, degraded⟩ := (s.cp p).closeFrame_kept q
  obtain ⟨settled', held', last, degraded'⟩ := ((s.cp p).modPair q Pair.closeFrame).deliver_kept q seq
  have cp := s.delivered_cp p q seq
  constructor
  · rw [cp, settled', settled]
  · rw [State.delivered, State.modNm_lr, State.modCp_lr]
  · rw [State.delivered, State.modNm_nm, State.modCp_nm]
  · rw [State.delivered, State.modNm_port_other, State.modCp_port_other]
  · simp [State.delivered, sameNode]
  · simp [State.delivered, sameSystem]
  · simp [State.delivered]
  · rw [cp, held', held, none]
  · rw [cp, last]
  · rw [cp, degraded', degraded]

theorem Scored.of_only {h t : State} (only : OnlyCoupler h t p) (settled : (t.cp p).settled = (h.cp p).settled)
    (last : (t.cp p).lastDelivered = (h.cp p).lastDelivered) (tells : ∀ k, told h k → told t k) : Scored h t p :=
  ⟨⟨only.node, only.system, only.host, tells⟩, settled, last, only.lr, only.nm, only.other⟩

theorem State.scored_eq {h : State} (none : (h.cp p).held = none) (q : PairId) (seq : Nat) :
    h.scored p q seq = ((h.modCp p fun c =>
        c.modPair q fun x => x.goodFrame ((h.cp p).pair (otherPair q)).copies seq).raiseIf
      (((h.cp p).pair q).degraded !=
        (((h.cp p).pair q).goodFrame ((h.cp p).pair (otherPair q)).copies seq).degraded) .port).modCp p
          fun c => c.pruneCopies q seq := by
  rw [State.scored, State.changePair_of_none none]

theorem Coupler.goodFrame_kept (c : Coupler) (q : PairId) (f : Pair → Pair) (seq : Nat) :
    ((c.modPair q f).pruneCopies q seq).settled = c.settled ∧
      ((c.modPair q f).pruneCopies q seq).lastDelivered = c.lastDelivered := by
  cases q <;> exact ⟨rfl, rfl⟩

theorem State.scored_scored {h : State} (none : (h.cp p).held = none) (q : PairId) (seq : Nat) :
    Scored h (h.scored p q seq).hostKick p := by
  have cp : (h.scored p q seq).cp p =
      ((h.cp p).modPair q fun x => x.goodFrame ((h.cp p).pair (otherPair q)).copies seq).pruneCopies q seq := by
    simp [State.scored_eq none]
  obtain ⟨settled, last⟩ := (h.cp p).goodFrame_kept q (fun x => x.goodFrame ((h.cp p).pair (otherPair q)).copies seq) seq
  refine Scored.of_only ?_ ?_ ?_ fun k is => told_hostKick ?_
  · rw [State.scored_eq none]
    exact (((OnlyCoupler.modCp h p _).trans (OnlyCoupler.raiseIf _ p _ _)).trans (OnlyCoupler.modCp _ p _)).kicked
  · rw [State.hostKick_cp, cp, settled]
  · rw [State.hostKick_cp, cp, last]
  · rw [State.scored_eq none]
    exact told_of_hl (State.modCp_hl _ _ _) (told_raiseIf _ .port (told_of_hl (State.modCp_hl _ _ _) is))

/-- What a delivered frame does: its block's work in the state of the delivery, and its pair's score. -/
theorem completes_goodFrame {f : Frame} {P : State → Prop} (now : deliversNow s p q seq)
    (h : ∀ d, DeliveredTo s d p seq →
      ((d.handOn p f).cp p).held = none ∧ ∀ t, Scored (d.handOn p f) t p → P t) :
    completes (s.goodFrame p q seq f).done P := by
  obtain ⟨-, -, -, none, -⟩ := id now
  obtain ⟨unheld, stands⟩ := h _ (State.delivered_to none q seq)
  rw [State.goodFrame_delivers now]
  exact completes_done (stands _ (State.scored_scored unheld q seq))

theorem completes_delivered {f : Frame} {P : State → Prop} (now : deliversNow s p q seq) (classed : f.body.cls.isSome = true)
    (h : ∀ d, DeliveredTo s d p seq →
      ((d.handOn p f).cp p).held = none ∧ ∀ t, Scored (d.handOn p f) t p → P t) :
    completes (exec (f.command p q seq) s) P := by
  rw [exec_command classed]
  exact completes_goodFrame now h

end

/-! ### What a block makes of the ports -/

/-- An operation on the ports alone: offers and counters, which `portsBut` compares and which leave a held copy in its slot. -/
structure PortOp (p : PortId) (op : State → State) : Prop where
  congr : ∀ {u v : State}, portsBut u v p → portsBut (op u) (op v) p
  same : ∀ {u v : State}, samePorts u v → samePorts (op u) (op v)
  held : ∀ u, ((op u).cp p).held = (u.cp p).held
  node : ∀ u, sameNode u (op u)
  system : ∀ u, sameSystem u (op u)
  hl : ∀ u, (op u).hl = u.hl

namespace PortOp

theorem id (p : PortId) : PortOp p fun s => s :=
  ⟨fun h => h, fun h => h, fun _ => rfl, fun _ => ⟨rfl, rfl, rfl, rfl⟩, fun _ => ⟨rfl, rfl⟩, fun _ => rfl⟩

theorem modLr (p : PortId) (f : Relay → Relay) : PortOp p fun s => s.modLr p f :=
  ⟨fun h => portsBut_modLr h f, fun h => samePorts_modLr h p f, fun _ => by simp, fun _ => by simp [sameNode],
    fun _ => by simp [sameSystem], fun _ => by simp⟩

theorem offer (p x : PortId) (f : Frame) : PortOp p fun s => s.offer x f := by
  refine ⟨fun h => portsBut_offer h x f, fun h => samePorts_offer h x f, fun u => ?_,
    fun _ => by simp [sameNode], fun _ => by simp [sameSystem], fun _ => by simp⟩
  by_cases here : p = x
  · rw [here, State.offer_cp_held]
  · exact congrArg (fun y : Port => y.cp.held) (u.offer_port_of_ne here f)

theorem comp {p : PortId} {f g : State → State} (hf : PortOp p f) (hg : PortOp p g) : PortOp p fun s => g (f s) :=
  ⟨fun h => hg.congr (hf.congr h), fun h => hg.same (hf.same h), fun u => (hg.held _).trans (hf.held u),
    fun u => (hf.node u).trans (hg.node _), fun u => (hf.system u).trans (hg.system _), fun u => (hg.hl _).trans (hf.hl u)⟩

theorem ite {p : PortId} {f g : State → State} (b : Bool) (hf : PortOp p f) (hg : PortOp p g) :
    PortOp p fun s => if b then f s else g s := by
  cases b
  · exact hg
  · exact hf

theorem kept {p : PortId} {op : State → State} (ports : PortOp p op) (u : State) : Kept u (op u) :=
  ⟨ports.node u, ports.system u, congrArg HostLink.still (ports.hl u), fun _ => told_of_hl (ports.hl u)⟩

end PortOp

theorem Kept.trans {s t u : State} (h : Kept s t) (k : Kept t u) : Kept s u :=
  ⟨h.node.trans k.node, h.system.trans k.system, k.host.trans h.host, fun n is => k.tells n (h.tells n is)⟩

section
variable {s d h t : State} {p : PortId} {q : PairId} {seq : Nat}

theorem DeliveredTo.portsBut (at_ : DeliveredTo s d p seq) : portsBut s d p :=
  ⟨at_.settled, by rw [at_.nm]; rfl, at_.lr, at_.other⟩

theorem Scored.portsBut {u : State} (scored : Scored h t p) (same : portsBut u h p) : portsBut u t p :=
  same.trans ⟨scored.settled, by rw [scored.nm], scored.lr, scored.other⟩

/-- A delivered frame whose block changes the node and then does at the ports what an operation on them does. -/
theorem completes_block {f : Frame} {P : State → Prop} {op : State → State} (now : deliversNow s p q seq)
    (classed : f.body.cls.isSome = true) (ports : PortOp p op)
    (block : ∀ d, DeliveredTo s d p seq → ∃ u, d.handOn p f = op u ∧ samePorts d u ∧
      ∀ t, portsBut (op s) t p → Kept u t → P t) : completes (exec (f.command p q seq) s) P := by
  refine completes_delivered now classed fun d at_ => ?_
  obtain ⟨u, handled, same, stands⟩ := block d at_
  rw [handled]
  refine ⟨?_, fun t scored => stands t (scored.portsBut ?_) ((ports.kept u).trans scored.toKept)⟩
  · exact (ports.held u).trans ((congrArg (fun x : Port => x.cp.held) (same.port p)).trans at_.held)
  · exact (ports.congr at_.portsBut).trans (portsBut_of_samePorts (ports.same same) p)

/-- A delivered frame whose block makes of the ports what an operation on them does, before or after its work on the node. -/
theorem completes_handled {f : Frame} {P : State → Prop} {op : State → State} (now : deliversNow s p q seq)
    (classed : f.body.cls.isSome = true) (ports : PortOp p op)
    (block : ∀ d, DeliveredTo s d p seq → samePorts (op d) (d.handOn p f) ∧
      ∀ t, portsBut (op s) t p → Kept (d.handOn p f) t → P t) : completes (exec (f.command p q seq) s) P := by
  refine completes_delivered now classed fun d at_ => ?_
  obtain ⟨same, stands⟩ := block d at_
  refine ⟨?_, fun t scored => stands t (scored.portsBut ?_) scored.toKept⟩
  · exact (congrArg (fun x : Port => x.cp.held) (same.port p)).trans ((ports.held d).trans at_.held)
  · exact (ports.congr at_.portsBut).trans (portsBut_of_samePorts same p)

/-- A delivered frame that the node answers at its ports alone. -/
theorem completes_atPorts {f : Frame} {op : State → State} (now : deliversNow s p q seq) (classed : f.body.cls.isSome = true)
    (ports : PortOp p op) (block : ∀ d, DeliveredTo s d p seq → d.handOn p f = op d) :
    completes (exec (f.command p q seq) s) fun t => portsBut (op s) t p ∧ sameNode s t ∧ sameSystem s t ∧ sameHost s t :=
  completes_block now classed ports fun d at_ => ⟨d, block d at_, samePorts.refl d, fun _ same kept =>
    ⟨same, at_.node.trans kept.node, at_.system.trans kept.system, kept.host.trans (congrArg HostLink.still at_.hl)⟩⟩

end

end Sys2Proof.Machine
end

section
/-! Routing (02 R29, R32, R33, R35): frames relayed and misrouted, and frames of no kind. -/

namespace Sys2Proof.Machine

/-- A routable frame goes to the Line Relay (01 R21). -/
theorem State.handOn_of_routable {f : Frame} (routable : f.body.routable = true) (s : State) (p : PortId) :
    s.handOn p f = s.route p f := by
  obtain ⟨gen, body⟩ := f
  cases body
  case beat => cases routable
  case raw => cases routable
  all_goals rfl

theorem classed_of_routable {b : Body} (routable : b.routable = true) : b.cls.isSome = true := by
  cases b
  case pattern => cases routable
  case raw => cases routable
  all_goals rfl

/-- A frontward frame is misrouted, consumed by a leader, or relayed (02 R32, R33). -/
theorem State.route_frontward {f : Frame} (routable : f.body.routable = true) (front : directionOfKind f.body.kindCode = some 0)
    (p : PortId) : ∃ consume : State → State, ∀ s : State, s.route p f = s.frontward p f consume := by
  obtain ⟨gen, body⟩ := f
  cases body
  case node | tail | clash | call | echo => exact ⟨_, fun s => rfl⟩
  case ret => exact ⟨_, fun s => by rw [State.route, if_neg (by simp [routable])]⟩
  case raw => cases routable
  all_goals cases front

/-- A rearward frame other than WALK is misrouted or taken (02 R35). -/
theorem State.route_rearward {f : Frame} (routable : f.body.routable = true) (rear : directionOfKind f.body.kindCode = some 1)
    (notWalk : f.body.kindCode ≠ 0x03) (p : PortId) :
    ∃ consume : State → State, ∀ s : State, s.route p f = s.rearward p consume := by
  obtain ⟨gen, body⟩ := f
  cases body
  case door => exact ⟨_, fun s => rfl⟩
  case confirm | sweep | grant => exact ⟨_, fun s => by rw [State.route, if_neg (by simp [routable])]⟩
  case walk => exact absurd rfl notWalk
  case raw => cases routable
  all_goals cases rear

section
variable {s d : State} {p : PortId}

theorem State.frontward_misrouted (wrong : s.cc.claim = some p ∨ s.cc.claim = none ∧ s.cc.front = some p) (f : Frame)
    (consume : State → State) : s.frontward p f consume = s.countMisroute p := by
  rcases wrong with claim | ⟨claim, front⟩
  · simp only [State.frontward, claim, if_true]
  · simp only [State.frontward, claim, front, if_true]

theorem State.frontward_relayed (claim : s.cc.claim = none) (front : s.cc.front ≠ some p) (f : Frame) (consume : State → State) :
    s.frontward p f consume = s.offer (other p) (s.marked f) := by
  simp only [State.frontward, claim, if_neg front]

/-- A frontward frame at a leader's rear port is the leader's. -/
theorem State.frontward_consumed (claim : s.cc.claim = some (other p)) (f : Frame) (consume : State → State) :
    s.frontward p f consume = consume s := by
  simp only [State.frontward, claim]
  exact if_neg fun e => other_ne p e.symm

theorem State.rearward_misrouted (wrong : s.cc.claim.isSome = true ∨ s.cc.front = some (other p)) (consume : State → State) :
    s.rearward p consume = s.countMisroute p := if_pos wrong

/-- A rearward frame at a member's front port is the member's. -/
theorem State.rearward_consumed (claim : s.cc.claim = none) (front : s.cc.front = some p) (consume : State → State) :
    s.rearward p consume = consume s := by
  refine if_neg ?_
  simp [claim, front, (other_ne p).symm]

theorem State.marked_of_same (node : sameNode s d) (f : Frame) : d.marked f = s.marked f := by
  obtain ⟨cc, -, dcu, -⟩ := node
  simp only [State.marked, State.ownMark, State.pos, cc, dcu]

end

/-- Settles O30: frontward and rearward frames, and the mark of an ECHO. -/
theorem framesAreRelayedOrMisrouted : Obligations.FramesAreRelayedOrMisrouted := by
  intro s p q seq f now routable
  have classed := classed_of_routable routable
  refine ⟨fun front => ?_, fun rear notWalk wrong => ?_, fun id applied => ⟨rfl, ?_⟩⟩
  · obtain ⟨consume, routed⟩ := State.route_frontward routable front p
    refine ⟨fun wrong => ?_, fun claim away => ?_⟩
    · refine completes_atPorts now classed (PortOp.modLr p _) fun d at_ => ?_
      rw [State.handOn_of_routable routable, routed, State.frontward_misrouted (by rwa [at_.node.1])]
      rfl
    · refine completes_atPorts now classed (PortOp.offer p (other p) (s.marked f)) fun d at_ => ?_
      rw [State.handOn_of_routable routable, routed, State.frontward_relayed (by rwa [at_.node.1]) (by rwa [at_.node.1]),
        State.marked_of_same at_.node]
  · obtain ⟨consume, routed⟩ := State.route_rearward routable rear notWalk p
    refine completes_atPorts now classed (PortOp.modLr p _) fun d at_ => ?_
    rw [State.handOn_of_routable routable, routed, State.rearward_misrouted (by rwa [at_.node.1])]
    rfl
  · simp only [State.marked, State.ownMark]
    split <;> simp_all

end Sys2Proof.Machine
end

section
/-! Frames of no kind, of a wrong direction or of a wrong length (02 R29, 03 R50; log entry 31). -/

namespace Sys2Proof.Machine

theorem parseBody_of_misfit {kind direction : Nat} {payload : List Nat} (notPattern : kind ≠ 1) (notBeat : kind ≠ 2)
    (misfit : directionOfKind kind ≠ some direction ∨ bodyOfPayload kind payload = none) :
    parseBody kind direction payload = .raw kind direction payload := by
  unfold parseBody
  split
  · next fits =>
    rcases misfit with wrong | unread
    · exact absurd fits (by simp [notPattern, notBeat, wrong])
    · rw [unread]
      rfl
  · rfl

theorem parseBody_of_unread {kind : Nat} (own : kind = 1 ∨ kind = 2) (direction : Nat) {payload : List Nat}
    (unread : bodyOfPayload kind payload = none) : parseBody kind direction payload = .raw kind direction payload := by
  rw [parseBody, if_pos (by rcases own with h | h <;> simp [h]), unread]
  rfl

theorem bodyOfPayload_beat_length {payload : List Nat} (length : payload.length ≠ 9) : bodyOfPayload 2 payload = none := by
  unfold bodyOfPayload
  split <;> simp_all

theorem bodyOfPayload_pattern_length {payload : List Nat} (length : payload.length ≠ 6) : bodyOfPayload 1 payload = none := by
  unfold bodyOfPayload
  split <;> simp_all

/-- What is read is never `raw`. -/
theorem cls_or_pattern_of_read {kind : Nat} {pl : List Nat} {b : Body} (read : bodyOfPayload kind pl = some b) :
    b.cls.isSome = true ∨ ∃ ready rate, b = .pattern ready rate := by
  by_cases pattern : kind = 1
  · subst pattern
    unfold bodyOfPayload at read
    split at read
    case h_1 =>
      cases read
      exact .inr ⟨_, _, rfl⟩
    all_goals simp_all
  · exact .inl (classed_of_read pattern read)

/-- A frame read as no body stays `raw`, so that its own command reads it again. -/
theorem parseBody_cases (kind direction : Nat) (payload : List Nat) :
    (parseBody kind direction payload).cls.isSome = true ∨
      (∃ ready rate, parseBody kind direction payload = .pattern ready rate) ∨
      parseBody kind direction payload = .raw kind direction payload := by
  unfold parseBody
  split
  · cases h : bodyOfPayload kind payload with
    | none => exact .inr (.inr rfl)
    | some b => exact (cls_or_pattern_of_read h).imp_right .inl
  · exact .inr (.inr rfl)

/-- A frame of arbitrary header and payload is the frame that it is read as. -/
theorem exec_malformedFrame_eq (s : State) (p : PortId) (q : PairId) (seq gen kind direction : Nat) (payload : List Nat) :
    exec (.malformedFrame p q seq gen kind direction payload) s =
      exec (Frame.command { gen, body := parseBody kind direction payload } p q seq) s := by
  have run : exec (.malformedFrame p q seq gen kind direction payload) s =
      (s.anyFrame p q seq { gen, body := parseBody kind direction payload }).done := rfl
  rcases parseBody_cases kind direction payload with classed | ⟨ready, rate, read⟩ | raw
  · rw [exec_command classed, run, State.anyFrame]
    split
    · next read => simp [show parseBody kind direction payload = _ from read, Body.cls] at classed
    · next read => simp [show parseBody kind direction payload = _ from read, Body.cls] at classed
    · rfl
  · rw [run, read]
    rfl
  · rw [raw]
    rfl

section
variable {s : State} {p : PortId} {q : PairId} {seq gen kind direction : Nat} {payload : List Nat}

theorem exec_misfit (now : deliversNow s p q seq) (notPattern : kind ≠ 1) (notBeat : kind ≠ 2)
    (misfit : directionOfKind kind ≠ some direction ∨ bodyOfPayload kind payload = none) :
    completes (exec (.malformedFrame p q seq gen kind direction payload) s) fun t =>
      t.lr p = { s.lr p with malformed := min 65535 ((s.lr p).malformed + 1) } ∧
      (t.cp p).lastDelivered = some seq ∧ (t.cp p).settled = (s.cp p).settled ∧
      t.nm p = { s.nm p with timeout := some 0 } ∧ t.port (other p) = s.port (other p) ∧
      sameNode s t ∧ sameSystem s t ∧ sameHost s t := by
  rw [exec_malformedFrame notPattern, parseBody_of_misfit notPattern notBeat misfit]
  refine completes_goodFrame now fun d at_ => ?_
  have block : d.handOn p { gen, body := .raw kind direction payload } = d.countMalformed p := if_neg notBeat
  have only := OnlyPort.modLr d p fun r => { r with malformed := inc16 r.malformed }
  rw [block]
  refine ⟨(congrArg Coupler.held (State.modLr_cp _ _ _)).trans at_.held, fun t scored =>
    ⟨?_, ?_, ?_, ?_, (scored.other.trans only.other).trans at_.other, (at_.node.trans only.node).trans scored.node,
      (at_.system.trans only.system).trans scored.system, ?_⟩⟩
  · rw [scored.lr, State.countMalformed, State.modLr_lr, at_.lr]
    rfl
  · rw [scored.last, State.countMalformed, State.modLr_cp, at_.last]
  · rw [scored.settled, State.countMalformed, State.modLr_cp, at_.settled]
  · rw [scored.nm, State.countMalformed, State.modLr_nm, at_.nm]
  · exact scored.host.trans (only.host.trans (congrArg HostLink.still at_.hl))

theorem exec_beat_length (now : deliversNow s p q seq) (beat : kind = 2) (length : payload.length ≠ 9) :
    completes (exec (.malformedFrame p q seq gen kind direction payload) s) fun t =>
      t.nm p = { s.nm p with timeout := some 0, invalidBeats := min 65535 ((s.nm p).invalidBeats + 1) } ∧
      (t.cp p).lastDelivered = some seq ∧ (t.cp p).settled = (s.cp p).settled ∧
      t.lr p = s.lr p ∧ t.port (other p) = s.port (other p) ∧ sameNode s t ∧ sameSystem s t ∧ sameHost s t := by
  subst beat
  rw [exec_malformedFrame (by decide), parseBody_of_unread (.inr rfl) direction (bodyOfPayload_beat_length length)]
  refine completes_goodFrame now fun d at_ => ?_
  have block : d.handOn p { gen, body := .raw 2 direction payload } = d.countInvalidBeat p := rfl
  have only := OnlyPort.modNm d p fun n => { n with invalidBeats := inc16 n.invalidBeats }
  rw [block]
  refine ⟨(congrArg Coupler.held (State.modNm_cp _ _ _)).trans at_.held, fun t scored =>
    ⟨?_, ?_, ?_, ?_, (scored.other.trans only.other).trans at_.other, (at_.node.trans only.node).trans scored.node,
      (at_.system.trans only.system).trans scored.system, ?_⟩⟩
  · rw [scored.nm, State.countInvalidBeat, State.modNm_nm, at_.nm]
    rfl
  · rw [scored.last, State.countInvalidBeat, State.modNm_cp, at_.last]
  · rw [scored.settled, State.countInvalidBeat, State.modNm_cp, at_.settled]
  · rw [scored.lr, State.countInvalidBeat, State.modNm_lr, at_.lr]
  · exact scored.host.trans (only.host.trans (congrArg HostLink.still at_.hl))

/-- A PATTERN of a wrong length ends its pair's frame, and in LINKED takes 1 off its score (01 R13, R18). -/
theorem State.oddPattern_eq (clocked : s.clocked = true)
    (receives : (s.cp p).st = .linked ∨ (s.cp p).st = .aligning ∧ ((s.cp p).pair q).st = .aligned) (none : (s.cp p).held = none) :
    ∃ (f : Pair → Pair) (b : Bool), s.oddPattern p q = (s.modCp p fun c => c.modPair q f).raiseIf b .port ∧
      (f ((s.cp p).pair q)).score = ((s.cp p).pair q).score - (if (s.cp p).st = .linked then 1 else 0) ∧
      (f ((s.cp p).pair q)).inFrame = false := by
  rcases receives with linked | ⟨aligning, aligned⟩
  · refine ⟨fun x => x.closeFrame.goodScore.restartSilence,
      ((s.cp p).pair q).degraded != (((s.cp p).pair q).closeFrame.goodScore.restartSilence).degraded, ?_,
      by rw [if_pos linked]; rfl, rfl⟩
    rw [State.oddPattern, if_pos (State.framing_of_linked clocked linked q), State.patternScore, linked,
      State.modCp_congr (g := fun c => c.modPair q Pair.closeFrame) (Coupler.frameTaken_of_none none q)]
    exact State.modCp_changePair none rfl
  · refine ⟨Pair.closeFrame, false, ?_, by rw [if_neg (by simp [aligning])]; rfl, rfl⟩
    rw [State.oddPattern, if_pos (State.framing_of_aligned clocked aligning aligned), State.patternScore, aligning,
      State.modCp_congr (g := fun c => c.modPair q Pair.closeFrame) (Coupler.frameTaken_of_none none q)]
    rfl

theorem exec_pattern_length (clocked : s.clocked = true)
    (receives : (s.cp p).st = .linked ∨ (s.cp p).st = .aligning ∧ ((s.cp p).pair q).st = .aligned) (none : (s.cp p).held = none)
    (pattern : kind = 1) (length : payload.length ≠ 6) :
    completes (exec (.malformedFrame p q seq gen kind direction payload) s) fun t =>
      ((t.cp p).pair q).score = ((s.cp p).pair q).score - (if (s.cp p).st = .linked then 1 else 0) ∧
      ((t.cp p).pair q).inFrame = false ∧ (t.cp p).pair (otherPair q) = (s.cp p).pair (otherPair q) ∧
      { t.cp p with pairA := (s.cp p).pairA, pairB := (s.cp p).pairB } = s.cp p ∧ t.lr p = s.lr p ∧
      t.nm p = s.nm p ∧ t.port (other p) = s.port (other p) ∧ sameNode s t ∧ sameSystem s t ∧ sameHost s t := by
  subst pattern
  have run : exec (.malformedFrame p q seq gen 1 direction payload) s = (s.oddPattern p q).done := by
    change (s.anyFrame p q seq { gen, body := parseBody 1 direction payload }).done = _
    rw [parseBody_of_unread (.inl rfl) direction (bodyOfPayload_pattern_length length)]
    rfl
  obtain ⟨f, b, odd, score, inFrame⟩ := State.oddPattern_eq clocked receives none
  rw [run, odd]
  refine completes_modPair fun t cp ⟨lr, nm, port, node, system, host⟩ _ =>
    ⟨?_, ?_, ?_, ?_, lr, nm, port, node, system, host⟩
  · rw [cp, Coupler.modPair_pair, score]
  · rw [cp, Coupler.modPair_pair, inFrame]
  · rw [cp, Coupler.modPair_pair_other]
  · rw [cp, Coupler.modPair_rest]

end

/-- Settles O25: what no kind fits, a BEAT and a PATTERN of a wrong length, and what has the form of its kind. -/
theorem malformedFramesAreCountedAndDropped : Obligations.MalformedFramesAreCountedAndDropped := by
  intro s p q seq gen kind direction payload
  exact ⟨exec_malformedFrame_eq s p q seq gen kind direction payload, exec_misfit, exec_beat_length, exec_pattern_length⟩

end Sys2Proof.Machine
end

section
/-! The leader's frames outside its sweeps: WALK and CLASH against a claim, NODE and CALL (05 R85, R89, R90, R92; 04 R69). -/

namespace Sys2Proof.Machine

/-- Two states that differ in their ports alone. -/
structure SameStart (s d : State) : Prop where
  node : sameNode s d
  system : sameSystem s d
  hl : d.hl = s.hl

theorem DeliveredTo.start {s d : State} {p : PortId} {seq : Nat} (at_ : DeliveredTo s d p seq) : SameStart s d :=
  ⟨at_.node, at_.system, at_.hl⟩

theorem PortOp.start {p : PortId} {op : State → State} (ports : PortOp p op) (u : State) : SameStart u (op u) :=
  ⟨ports.node u, ports.system u, ports.hl u⟩

theorem SameStart.trans {s d e : State} (h : SameStart s d) (k : SameStart d e) : SameStart s e :=
  ⟨h.node.trans k.node, h.system.trans k.system, k.hl.trans h.hl⟩

section
variable {s d h t : State}

/-- What a block says of a departure, read from the state before the delivery to the state after the score. -/
theorem leftOperational_delivered (at_ : SameStart s d) (kept : Kept h t) (left : leftOperational d h) :
    leftOperational s t := by
  obtain ⟨cc, se, dcu, ha⟩ := at_.node
  obtain ⟨-, se', dcu', ha'⟩ := kept.node
  have before : leftOperational s h := by simpa only [leftOperational, cc, se, dcu, ha, at_.hl] using left
  exact leftOperational_of_blocks before se' dcu' ha' (kept.tells .consist)

theorem sameSettings_delivered (at_ : SameStart s d) (kept : Kept h t) (same : sameSettings d h) :
    sameSettings s t := by
  obtain ⟨cc, se, dcu, ha⟩ := at_.node
  obtain ⟨cc', se', dcu', ha'⟩ := kept.node
  have before : sameSettings s h := by simpa only [sameSettings, cc, se, dcu, ha] using same
  exact sameSettings_of_blocks before se' dcu' ha' (by rw [cc'])

theorem sameSystem_delivered (at_ : SameStart s d) (kept : Kept h t) (same : sameSystem d h) : sameSystem s t :=
  (at_.system.trans same).trans kept.system

theorem sameHost_delivered (at_ : SameStart s d) (kept : Kept h t) (same : sameHost d h) : sameHost s t :=
  kept.host.trans (same.trans (congrArg HostLink.still at_.hl))

theorem told_delivered (at_ : SameStart s d) (kept : Kept h t) {k : Notice}
    (tells : d.hl.masked k = true → told h k) (masked : s.hl.masked k = true) : told t k :=
  kept.tells k (tells (by rwa [at_.hl]))

theorem claimFell_delivered (at_ : SameStart s d) (kept : Kept h t) (fell : claimFell d h) : claimFell s t := by
  obtain ⟨cc, left, settings, tells, system, host⟩ := fell
  refine ⟨?_, leftOperational_delivered at_ kept left, sameSettings_delivered at_ kept settings,
    told_delivered at_ kept tells, sameSystem_delivered at_ kept system, sameHost_delivered at_ kept host⟩
  rw [kept.node.1, cc, at_.node.1]

end

/-! ### Conflicts -/

theorem State.conflict_claimFell (s : State) : claimFell s s.conflict := by
  refine ⟨?_, ?_, ?_, fun masked => told_raise_self ?_, ?_, ?_⟩
  · simp only [State.conflict, State.endClaim, State.raise_cc, State.modCc_cc, State.suspend_cc_fields]
    rfl
  · exact leftOperational_of_blocks (s.suspend_leftOperational .conflict) (by simp [State.conflict]) (by simp [State.conflict])
      (by simp [State.conflict]) fun h => told_raise .lead h
  · exact sameSettings_of_blocks (s.suspend_sameSettings .conflict) (by simp [State.conflict]) (by simp [State.conflict])
      (by simp [State.conflict]) rfl
  · exact (HostLink.masked_of_still (s.suspend_sameHost .conflict) _).trans masked
  · simp [State.conflict, sameSystem]
  · exact (State.raiseIf_still _ true .lead).trans (s.suspend_sameHost .conflict)

theorem State.conflict_ports (s : State) : samePorts s s.conflict :=
  samePorts_of_port fun x => by simp [State.conflict, State.endClaim]

/-- Settles O27: a WALK of another leader and a CLASH at a claimant. -/
theorem conflictingClaimsFall : Obligations.ConflictingClaimsFall := by
  intro s p q seq gen next leader claimant now claimed
  refine ⟨fun foreign => ?_, fun claim => ?_, fun claim away => ?_⟩
  · refine completes_handled (f := { gen, body := .walk leader next }) now rfl
      (PortOp.offer p p { gen, body := .clash s.sys.serial leader }) fun d at_ => ?_
    have block : d.handOn p { gen, body := .walk leader next } =
        (d.offer p { gen, body := .clash s.sys.serial leader }).conflict := by
      change d.ccWalk p gen leader next = _
      rw [State.ccWalk, at_.system.1, at_.node.1, if_neg foreign, if_pos claimed]
    rw [block]
    exact ⟨State.conflict_ports _, fun t ports scored =>
      ⟨claimFell_delivered (at_.start.trans ((PortOp.offer p p _).start d)) scored (State.conflict_claimFell _), ports⟩⟩
  · refine completes_handled (f := { gen := s.cc.gen, body := .clash claimant leader }) now rfl (PortOp.id p) fun d at_ => ?_
    have block : d.handOn p { gen := s.cc.gen, body := .clash claimant leader } = d.conflict := by
      change d.frontward p _ (fun u => u.ccClash p s.cc.gen) = _
      rw [State.frontward_consumed (by rw [at_.node.1, claim]), State.ccClash, at_.node.1, if_neg (by simp)]
    rw [block]
    exact ⟨State.conflict_ports _, fun t ports scored =>
      ⟨claimFell_delivered at_.start scored (State.conflict_claimFell _), ports⟩⟩
  · have stale := completes_atPorts (f := { gen, body := .clash claimant leader }) now rfl
      (PortOp.modLr p fun r => { r with stale := inc16 r.stale }) fun d at_ => by
        change d.frontward p _ (fun u => u.ccClash p gen) = _
        rw [State.frontward_consumed (by rw [at_.node.1, claim]), State.ccClash, at_.node.1, if_pos away]
        rfl
    obtain ⟨t, run, ports, node, system, host⟩ := stale
    exact ⟨t, run, node, ports, system, host⟩

end Sys2Proof.Machine
end

section
/-! A NODE and a CALL at the leader (05 R89, R92). -/

namespace Sys2Proof.Machine

/-! ### The records of a walk, by position -/

theorem recordAt_insertRecord_other (e : Entry) (l : List Entry) {x : Nat} (away : x ≠ e.position) :
    recordAt (insertRecord e l) x = recordAt l x := by
  have notThere : (e.position == x) = false := by simpa using fun h => away h.symm
  induction l with
  | nil => simp [insertRecord, recordAt, notThere]
  | cons r l ih =>
    unfold insertRecord
    split
    · simp [recordAt, notThere]
    · simp only [recordAt, List.find?_cons] at ih ⊢
      rw [ih]

theorem recordAt_insertRecord_self {e : Entry} {l : List Entry} (absent : recordAt l e.position = none) :
    recordAt (insertRecord e l) e.position = some e := by
  induction l with
  | nil => simp [insertRecord, recordAt]
  | cons r l ih =>
    simp only [recordAt, List.find?_cons] at ih absent
    split at absent
    · cases absent
    · next away =>
      unfold insertRecord
      split
      · simp [recordAt]
      · simp only [recordAt, List.find?_cons, away]
        exact ih absent

/-! ### NODE -/

/-- A NODE that the leader stores (05 R89). -/
def State.takesNode (s : State) (e : Entry) : Bool :=
  s.cc.walking && decide (2 ≤ e.position) && decide (e.position ≤ 32) && (recordAt s.cc.records e.position).isNone &&
    entryInRange e

theorem State.ccNode_current (s : State) (x : PortId) (e : Entry) :
    s.ccNode x s.cc.gen e = s.modCc fun c => { c with
      records := if s.takesNode e then insertRecord { e with lead := false } c.records else c.records } := by
  have shown : s.ccNode x s.cc.gen e =
      if s.takesNode e then s.modCc fun c => { c with records := insertRecord { e with lead := false } c.records } else s :=
    if_neg (by simp)
  rw [shown]
  cases s.takesNode e <;> rfl

/-! ### CALL -/

/-- A CALL of a known cause at the leader: held during a walk, else a walk trigger (05 R92). -/
theorem State.ccCall_current {s : State} {cause : Nat} (known : cause ≤ 3) (x : PortId) :
    s.ccCall x s.cc.gen cause = s.modCc fun c => if c.walking then { c with callHeld := true } else c.triggered := by
  have notMore : ¬ callMismatch < cause := Nat.not_lt.mpr known
  rw [State.ccCall, if_neg (by simp), if_neg notMore]
  split
  · next walks => simp [State.modCc, walks]
  · next rests => simp [State.walkTrigger_eq_modCc, State.modCc, rests]

/-- Settles O29: a NODE and a CALL of the current generation, and of another. -/
theorem leaderTakesNodesAndCalls : Obligations.LeaderTakesNodesAndCalls := by
  intro s p q seq gen e k serial a b c now claim
  refine ⟨?_, fun many => ?_, fun known => ?_, fun away => ⟨?_, ?_⟩⟩
  · refine completes_handled (f := { gen := s.cc.gen, body := .node { entry := e, spare := k } }) now rfl
      (PortOp.id p) fun d at_ => ?_
    have block : d.handOn p { gen := s.cc.gen, body := .node { entry := e, spare := k } } = d.ccNode p d.cc.gen e := by
      change d.frontward p _ (fun u => u.ccNode p s.cc.gen e) = _
      rw [State.frontward_consumed (by rw [at_.node.1, claim]), at_.node.1]
    rw [block, State.ccNode_current]
    have takes : d.takesNode e = s.takesNode e := by rw [State.takesNode, at_.node.1, State.takesNode]
    refine ⟨samePorts_of_port fun x => by simp, fun t ports scored => ?_⟩
    obtain ⟨cc, se, dcu, ha⟩ := scored.node
    rw [State.modCc_cc, takes, at_.node.1] at cc
    refine ⟨ports, se.trans at_.node.2.1, dcu.trans at_.node.2.2.1, ha.trans at_.node.2.2.2,
      sameSystem_delivered at_.start scored ⟨rfl, rfl⟩, sameHost_delivered at_.start scored rfl, by rw [cc],
      fun walks least most absent range => ?_, fun refused => ?_⟩
    · have stores : s.takesNode e = true := by simp [State.takesNode, walks, least, most, absent, range]
      rw [cc, stores]
      exact ⟨recordAt_insertRecord_self (e := { e with lead := false }) absent,
        fun x _ other => recordAt_insertRecord_other { e with lead := false } _ other⟩
    · have leaves : s.takesNode e = false := by
        rcases refused with h | h | h | h | h
        · simp [State.takesNode, h]
        · simp [State.takesNode, show ¬ 2 ≤ e.position by omega]
        · simp [State.takesNode, show ¬ e.position ≤ 32 by omega]
        · simp [State.takesNode, h]
        · simp [State.takesNode, Option.isSome_iff_ne_none.mp h]
      rw [cc, leaves]
      rfl
  · refine completes_atPorts (f := { gen := s.cc.gen, body := .call serial a b c }) now rfl (PortOp.modLr p _) fun d at_ => ?_
    change d.frontward p _ (fun u => u.ccCall p s.cc.gen b) = _
    rw [State.frontward_consumed (by rw [at_.node.1, claim]), State.ccCall, at_.node.1, if_neg (by simp),
      if_pos (show callMismatch < b from many)]
    rfl
  · refine completes_handled (f := { gen := s.cc.gen, body := .call serial a b c }) now rfl (PortOp.id p) fun d at_ => ?_
    have block : d.handOn p { gen := s.cc.gen, body := .call serial a b c } = d.ccCall p d.cc.gen b := by
      change d.frontward p _ (fun u => u.ccCall p s.cc.gen b) = _
      rw [State.frontward_consumed (by rw [at_.node.1, claim]), at_.node.1]
    rw [block, State.ccCall_current known]
    refine ⟨samePorts_of_port fun x => by simp, fun t ports scored => ?_⟩
    obtain ⟨cc, se, dcu, ha⟩ := scored.node
    rw [State.modCc_cc, at_.node.1] at cc
    refine ⟨ports, se.trans at_.node.2.1, dcu.trans at_.node.2.2.1, ha.trans at_.node.2.2.2,
      sameSystem_delivered at_.start scored ⟨rfl, rfl⟩, sameHost_delivered at_.start scored rfl, fun idle => ?_,
      fun settling => ?_, fun walks => ?_⟩
    · rw [cc, if_neg (by simp [Consist.walking, idle]), Consist.triggered_of_idle (by simp [claim]) idle]
    · rw [cc, if_neg (by simp [Consist.walking, settling]), Consist.triggered_of_busy (by simp [settling])]
    · rw [cc, if_pos (by rcases walks with h | h <;> simp [Consist.walking, h])]
  · refine completes_atPorts (f := { gen, body := .node { entry := e, spare := k } }) now rfl (PortOp.modLr p _) fun d at_ => ?_
    change d.frontward p _ (fun u => u.ccNode p gen e) = _
    rw [State.frontward_consumed (by rw [at_.node.1, claim]), State.ccNode, at_.node.1, if_pos away]
    rfl
  · refine completes_atPorts (f := { gen, body := .call serial a b c }) now rfl (PortOp.modLr p _) fun d at_ => ?_
    change d.frontward p _ (fun u => u.ccCall p gen b) = _
    rw [State.frontward_consumed (by rw [at_.node.1, claim]), State.ccCall, at_.node.1, if_pos away]
    rfl

end Sys2Proof.Machine
end

section
/-! A GRANT and a DOOR at a member (07 R131 to R133; 08 R148 to R150). -/

namespace Sys2Proof.Machine

/-! ### A member's ports -/

section
variable {s d : State} {p : PortId}

theorem State.front_of_member (claim : s.cc.claim = none) (front : s.cc.front = some p) : s.front = some p := by
  simp only [State.front, claim, front]

theorem State.rear_of_member (claim : s.cc.claim = none) (front : s.cc.front = some p) : s.rear = some (other p) := by
  simp only [State.rear, State.front_of_member claim front, Option.map_some]

theorem State.offerRear_of_member (claim : s.cc.claim = none) (front : s.cc.front = some p) (f : Frame) :
    s.offerRear f = s.offer (other p) f := by
  simp only [State.offerRear, State.rear_of_member claim front]

theorem State.offerFront_of_member (claim : s.cc.claim = none) (front : s.cc.front = some p) (f : Frame) :
    s.offerFront f = s.offer p f := by
  simp only [State.offerFront, State.front_of_member claim front]

theorem State.rearPresent_of_member (claim : s.cc.claim = none) (front : s.cc.front = some p) :
    s.rearPresent = s.hasNeighbour (other p) := by
  simp only [State.rearPresent, State.rear_of_member claim front]

end

/-- A neighbour at a port, a settled state alike. -/
theorem DeliveredTo.hasNeighbour {s d : State} {p : PortId} {seq : Nat} (at_ : DeliveredTo s d p seq) (x : PortId) :
    d.hasNeighbour x = s.hasNeighbour x := by
  by_cases here : x = p
  · rw [here, State.hasNeighbour, at_.nm, State.hasNeighbour]
  · have same : d.nm x = s.nm x := by
      rw [eq_other_of_ne here]
      exact congrArg Port.nm at_.other
    rw [State.hasNeighbour, same, State.hasNeighbour]

theorem State.ofGeneration_current {s : State} {gen : Nat} (current : gen = s.cc.gen) (real : gen ≠ 0) :
    s.ofGeneration gen = true := by
  rw [State.ofGeneration, ← current]
  simp [real]

theorem State.ofGeneration_stale {s : State} {gen : Nat} (stale : gen ≠ s.cc.gen ∨ gen = 0) : s.ofGeneration gen = false := by
  rcases stale with h | h <;> simp [State.ofGeneration, h]

/-! ### GRANT -/

theorem State.handOn_grant {gen cause number n : Nat} {grants : List Nat} (some_ : grants ≠ []) (most : grants.length ≤ 32)
    {s : State} {p : PortId} (claim : s.cc.claim = none) (front : s.cc.front = some p) :
    s.handOn p { gen, body := .grant cause number n grants } = s.haGrant p gen cause number n grants := by
  have least : 1 ≤ grants.length := List.length_pos_iff.mpr some_
  have routable : Body.routable (.grant cause number n grants) = true := by simp [Body.routable, Body.lengthOk, least, most]
  rw [State.handOn_of_routable routable, State.route, if_neg (by simp [routable])]
  exact State.rearward_consumed claim front _

theorem grantFields_of_fits {cause number n : Nat} {grants : List Nat} {c : GrantCause} {k : Option Nat}
    (some_ : grants ≠ []) (most : grants.length ≤ 32) (hc : grantCauseOfCode cause = some c)
    (hk : sweepNumberOfCode number = some k)
    (length : n = grants.length) (levels : ∀ g ∈ grants, g ≤ 7) : grantFields cause number n grants = some (c, k) := by
  have least : 1 ≤ grants.length := List.length_pos_iff.mpr some_
  simp only [grantFields, hc, hk]
  exact if_pos ⟨by omega, by omega, length.symm, by simpa using levels⟩

theorem grantCauseOfCode_eq_none {a : Nat} (h : 3 < a) : grantCauseOfCode a = none := by
  match a with
  | 0 | 1 | 2 | 3 => omega
  | _ + 4 => rfl

theorem grantFields_of_misfit {cause number n : Nat} {grants : List Nat}
    (misfit : 3 < cause ∨ 15 < number ∧ number ≠ 255 ∨ n ≠ grants.length ∨ ∃ g ∈ grants, 7 < g) :
    grantFields cause number n grants = none := by
  unfold grantFields
  split
  · next c k hc hk =>
    refine if_neg fun ⟨_, _, length, levels⟩ => ?_
    rcases misfit with h | ⟨h, h'⟩ | h | ⟨g, mem, h⟩
    · simp [grantCauseOfCode_eq_none h] at hc
    · simp [sweepNumberOfCode, h', Nat.not_le.mpr h] at hk
    · exact h length.symm
    · have small : g ≤ 7 := by simpa using List.all_eq_true.mp levels g mem
      omega
  · rfl

theorem State.takeGrant_rest (s : State) (v gen : Nat) (c : GrantCause) (k : Option Nat) :
    sameSystem s (s.takeGrant v gen c k) ∧ samePorts s (s.takeGrant v gen c k) ∧ (s.takeGrant v gen c k).cc = s.cc ∧
      (s.takeGrant v gen c k).se = s.se ∧ (s.takeGrant v gen c k).dcu = s.dcu ∧
      (s.takeGrant v gen c k).ha =
        { s.ha with held := v, watchdog := some 0, lastTaken := some { gen, cause := c, number := k } } ∧
      sameHost s (s.takeGrant v gen c k) := by
  refine ⟨by simp [State.takeGrant, sameSystem], samePorts_of_port fun x => by simp [State.takeGrant], by simp [State.takeGrant],
    by simp [State.takeGrant], by simp [State.takeGrant], by simp [State.takeGrant, State.setHeld], s.setHeld_still v⟩

/-- GRANT is told of a held grant that changes (08 R148). -/
theorem State.told_takeGrant {s : State} {v : Nat} (changes : v ≠ s.ha.held) (masked : s.hl.masked .grant = true) (gen : Nat)
    (c : GrantCause) (k : Option Nat) : told (s.takeGrant v gen c k) .grant := by
  have raises : (s.ha.held != v) = true := by simpa using changes.symm
  rw [State.takeGrant, State.setHeld, raises]
  exact told_raise_self (s := s.modHa _) masked

/-- A member's state after it has taken its entry of a GRANT, or has not (08 R148). -/
def State.granted (s : State) (gen n : Nat) (grants : List Nat) (c : GrantCause) (k : Option Nat) : State :=
  if s.cc.node = .operational ∧ s.pos ≤ n then s.takeGrant (at1 grants s.pos) gen c k else s

/-- What a member's own part of a GRANT leaves. -/
structure Granted (s u : State) (gen n : Nat) (grants : List Nat) (c : GrantCause) (k : Option Nat) : Prop where
  system : sameSystem s u
  ports : samePorts s u
  cc : u.cc = s.cc
  se : u.se = s.se
  dcu : u.dcu = s.dcu
  ha : u.ha = if s.cc.node = .operational ∧ s.pos ≤ n then
      { s.ha with held := grants.getD (s.pos - 1) 0, watchdog := some 0, lastTaken := some { gen, cause := c, number := k } }
    else s.ha
  host : sameHost s u
  tells : u.ha.held ≠ s.ha.held → s.hl.masked .grant = true → told u .grant

theorem State.granted_granted (s : State) (gen n : Nat) (grants : List Nat) (c : GrantCause) (k : Option Nat) :
    Granted s (s.granted gen n grants c k) gen n grants c k := by
  unfold State.granted
  split
  · next takes =>
    obtain ⟨system, ports, cc, se, dcu, ha, host⟩ := s.takeGrant_rest (at1 grants s.pos) gen c k
    refine ⟨system, ports, cc, se, dcu, by rw [if_pos takes, ha]; rfl, host, fun changes masked => ?_⟩
    rw [ha] at changes
    exact State.told_takeGrant changes masked gen c k
  · next leaves =>
    exact ⟨⟨rfl, rfl⟩, samePorts.refl s, rfl, rfl, rfl, by rw [if_neg leaves], rfl, fun changes => absurd rfl changes⟩

theorem State.rear_congr {s u : State} (cc : u.cc = s.cc) : u.rear = s.rear := by simp only [State.rear, State.front, cc]

theorem State.hasNeighbour_congr {s u : State} (ports : samePorts s u) (x : PortId) : u.hasNeighbour x = s.hasNeighbour x :=
  congrArg (fun y : Port => y.nm.status == .present) (ports.port x)

/-- A GRANT at a member: its own part, and the same GRANT sent on (08 R150). -/
theorem State.handleGrant_of_member {s : State} {p : PortId} (claim : s.cc.claim = none) (front : s.cc.front = some p)
    (gen cause number n : Nat) (grants : List Nat) (c : GrantCause) (k : Option Nat) :
    s.handleGrant gen cause number n grants c k =
      if decide (s.pos < n) && s.hasNeighbour (other p) then
        (s.granted gen n grants c k).offer (other p) { gen, body := .grant cause number n grants }
      else s.granted gen n grants c k := by
  have granted := s.granted_granted gen n grants c k
  have handled : s.handleGrant gen cause number n grants c k =
      if (s.granted gen n grants c k).pos < n ∧ (s.granted gen n grants c k).rearPresent then
        (s.granted gen n grants c k).offerRear { gen, body := .grant cause number n grants }
      else s.granted gen n grants c k := rfl
  generalize s.granted gen n grants c k = u at granted handled ⊢
  have pos : u.pos = s.pos := by rw [State.pos, granted.cc, State.pos]
  rw [handled, pos, State.rearPresent_of_member (by rw [granted.cc, claim]) (by rw [granted.cc, front]),
    State.offerRear_of_member (by rw [granted.cc, claim]) (by rw [granted.cc, front]),
    State.hasNeighbour_congr granted.ports]
  simp only [Bool.and_eq_true, decide_eq_true_eq]

/-- Settles O43: an accepted GRANT, a malformed one, and one of another generation. -/
theorem nodesTakeAndPassAGrant : Obligations.NodesTakeAndPassAGrant := by
  intro s p q seq gen cause number n grants c k now claim front some_ most
  have block (d : State) (at_ : DeliveredTo s d p seq) : d.handOn p { gen, body := .grant cause number n grants } =
      d.haGrant p gen cause number n grants :=
    State.handOn_grant some_ most (by rw [at_.node.1, claim]) (by rw [at_.node.1, front])
  refine ⟨fun current real inConsist hc hk length levels => ?_, fun current real misfit => ?_, fun stale => ?_⟩
  · refine completes_block (f := { gen, body := .grant cause number n grants }) now rfl
      (PortOp.ite (decide (s.pos < n) && s.hasNeighbour (other p))
        (PortOp.offer p (other p) { gen, body := .grant cause number n grants }) (PortOp.id p)) fun d at_ => ?_
    have cc := at_.node.1
    have pos : d.pos = s.pos := by rw [State.pos, cc, State.pos]
    have member : d.cc.node.inConsist = true := by rwa [cc]
    have handled : d.haGrant p gen cause number n grants = d.handleGrant gen cause number n grants c k := by
      rw [State.haGrant, State.ofGeneration_current (by rw [cc, current]) real,
        grantFields_of_fits some_ most hc hk length levels]
      exact if_pos member
    have granted := d.granted_granted gen n grants c k
    refine ⟨d.granted gen n grants c k, ?_, granted.ports, fun t ports kept => ⟨?_, fun changes masked => ?_, ?_, ?_, ?_,
      sameSystem_delivered at_.start kept granted.system, sameHost_delivered at_.start kept granted.host, fun onward => ?_,
      fun stays => ?_⟩⟩
    · rw [block d at_, handled, State.handleGrant_of_member (by rw [cc, claim]) (by rw [cc, front]), at_.hasNeighbour, pos]
    · rw [kept.node.2.2.2, granted.ha, cc, pos, at_.node.2.2.2]
    · rw [kept.node.2.2.2] at changes
      exact kept.tells .grant (granted.tells (by rwa [at_.node.2.2.2]) (by rwa [at_.hl]))
    · rw [kept.node.1, granted.cc, cc]
    · rw [kept.node.2.1, granted.se, at_.node.2.1]
    · rw [kept.node.2.2.1, granted.dcu, at_.node.2.2.1]
    · rwa [if_pos (by simp [onward.1, onward.2])] at ports
    · rwa [if_neg (by rcases stays with h | h <;> simp [h])] at ports
  · refine completes_atPorts (f := { gen, body := .grant cause number n grants }) now rfl (PortOp.modLr p _) fun d at_ => ?_
    rw [block d at_, State.haGrant, State.ofGeneration_current (by rw [at_.node.1, current]) real, grantFields_of_misfit misfit]
    rfl
  · refine completes_atPorts (f := { gen, body := .grant cause number n grants }) now rfl (PortOp.modLr p _) fun d at_ => ?_
    rw [block d at_, State.haGrant, State.ofGeneration_stale (by rwa [at_.node.1])]
    rfl

end Sys2Proof.Machine
end

section
/-! A DOOR at a member (07 R131 to R133). -/

namespace Sys2Proof.Machine

/-! ### The check -/

theorem doorFields_codes {id first last : Nat} {a : Action} {side : TrainSide} (hid : id ≤ 15)
    (sides : ¬ (a = .release ∧ side = .both))
    (least : 1 ≤ first) (ordered : first ≤ last) (most : last ≤ 32) :
    doorFields id (actionCode a) (trainSideCode side) first last = some (a, side) := by
  have action : actionOfCode (actionCode a) = some a := by cases a <;> rfl
  have train : trainSideOfCode (trainSideCode side) = some side := by cases side <;> rfl
  simp only [doorFields, action, train]
  exact if_pos ⟨hid, sides, least, ordered, most⟩

theorem actionOfCode_eq_none {x : Nat} (h : 1 < x) : actionOfCode x = none := by
  match x with
  | 0 | 1 => omega
  | _ + 2 => rfl

theorem trainSideOfCode_eq_none {x : Nat} (h : 2 < x) : trainSideOfCode x = none := by
  match x with
  | 0 | 1 | 2 => omega
  | _ + 3 => rfl

theorem doorFields_of_misfit {id x y first last : Nat}
    (misfit : 15 < id ∨ 1 < x ∨ 2 < y ∨ x = 0 ∧ y = 2 ∨ first = 0 ∨ last < first ∨ 32 < last) :
    doorFields id x y first last = none := by
  unfold doorFields
  split
  · next a t ha ht =>
    refine if_neg fun ⟨hid, sides, least, ordered, most⟩ => ?_
    rcases misfit with h | h | h | ⟨rfl, rfl⟩ | h | h | h
    · omega
    · simp [actionOfCode_eq_none h] at ha
    · simp [trainSideOfCode_eq_none h] at ht
    · cases ha
      cases ht
      exact sides ⟨rfl, rfl⟩
    all_goals omega
  · rfl

/-! ### The member's own part -/

theorem mapSides_eq (o : Orientation) (side : TrainSide) :
    mapSides o side =
      (side == .both || (side == .left) == (o == .forward), side == .both || (side == .right) == (o == .forward)) := by
  cases o <;> cases side <;> rfl

/-- A coach side's release flag after a command that maps to it or does not (07 R132). -/
theorem State.applyDoor_eq {s : State} {o : Orientation} (faces : s.cc.orientation = some o) (a : Action) (side : TrainSide) :
    s.applyDoor a side = s.setReleases (if (mapSides o side).1 then a == .release else s.dcu.release1)
      (if (mapSides o side).2 then a == .release else s.dcu.release2) := by
  simp only [State.applyDoor, faces]
  cases a with
  | release => cases (mapSides o side).1 <;> cases (mapSides o side).2 <;> simp
  | close =>
    have never : (Action.close == Action.release) = false := rfl
    cases (mapSides o side).1 <;> cases (mapSides o side).2 <;> simp [never]

/-- The member after its own part of a DOOR, before it ends or goes on. -/
def State.doorTaken (s : State) (gen id : Nat) (a : Action) (side : TrainSide) (first last : Nat) : State :=
  (if s.doorApplies first last then s.applyDoor a side else s).modDcu fun d =>
    { d with lastDoor := some { gen, id, applied := s.doorApplies first last } }

/-- What a member's own part of a DOOR leaves. -/
structure DoorTaken (s u : State) (gen id : Nat) (a : Action) (side : TrainSide) (first last : Nat) (o : Orientation) : Prop where
  system : sameSystem s u
  ports : samePorts s u
  cc : u.cc = s.cc
  se : u.se = s.se
  ha : u.ha = s.ha
  dcu : u.dcu = { s.dcu with
    lastDoor := some { gen, id, applied := s.doorApplies first last },
    release1 := if s.doorApplies first last && (mapSides o side).1 then a == .release else s.dcu.release1,
    release2 := if s.doorApplies first last && (mapSides o side).2 then a == .release else s.dcu.release2 }
  host : sameHost s u
  tells : u.dcu.release1 ≠ s.dcu.release1 ∨ u.dcu.release2 ≠ s.dcu.release2 → s.hl.masked .release = true → told u .release

/-- RELEASE is told of a flag that changes (07 R124). -/
theorem State.told_setReleases {s : State} {r1 r2 : Bool} (changes : r1 ≠ s.dcu.release1 ∨ r2 ≠ s.dcu.release2)
    (masked : s.hl.masked .release = true) : told (s.setReleases r1 r2) .release := by
  have raises : (s.dcu.release1 != r1 || s.dcu.release2 != r2) = true := by
    rcases changes with h | h <;> simp [h.symm]
  rw [State.setReleases, raises]
  exact told_raise_self (s := s.modDcu _) masked

theorem State.doorTaken_taken {s : State} {o : Orientation} (faces : s.cc.orientation = some o) (gen id : Nat) (a : Action)
    (side : TrainSide) (first last : Nat) :
    DoorTaken s (s.doorTaken gen id a side first last) gen id a side first last o := by
  unfold State.doorTaken
  cases applies : s.doorApplies first last
  · exact ⟨⟨rfl, rfl⟩, samePorts.refl s, rfl, rfl, rfl, by simp [applies], rfl, fun changes => by simp at changes⟩
  · simp only [if_true, State.applyDoor_eq faces]
    refine ⟨by simp [sameSystem, State.setReleases], samePorts_of_port fun x => by simp [State.setReleases],
      by simp [State.setReleases], by simp [State.setReleases], by simp [State.setReleases], by simp [State.setReleases, applies],
      State.setReleases_still _ _ _, fun changes masked => ?_⟩
    refine told_of_hl rfl (State.told_setReleases (s := s) ?_ masked)
    simpa [State.setReleases] using changes

/-- A DOOR at a member: its own part, and the command turned back as an ECHO or sent on (07 R133). -/
theorem State.handleDoor_of_member {s : State} {p : PortId} {o : Orientation} (claim : s.cc.claim = none)
    (front : s.cc.front = some p) (faces : s.cc.orientation = some o) (gen id : Nat) (a : Action) (side : TrainSide)
    (first last : Nat) :
    s.handleDoor gen id a side first last =
      if decide (last ≤ s.pos) || !s.hasNeighbour (other p) then
        (s.doorTaken gen id a side first last).offer p
          { gen, body := .echo id (if s.doorApplies first last then posBit s.pos else 0) }
      else (s.doorTaken gen id a side first last).offer (other p)
        { gen, body := .door id (actionCode a) (trainSideCode side) first last } := by
  have taken := State.doorTaken_taken faces gen id a side first last
  have handled : s.handleDoor gen id a side first last =
      if last ≤ (s.doorTaken gen id a side first last).pos ∨ (s.doorTaken gen id a side first last).rearPresent = false then
        (s.doorTaken gen id a side first last).offerFront
          { gen, body := .echo id (if s.doorApplies first last then posBit (s.doorTaken gen id a side first last).pos else 0) }
      else (s.doorTaken gen id a side first last).offerRear
        { gen, body := .door id (actionCode a) (trainSideCode side) first last } := rfl
  generalize s.doorTaken gen id a side first last = u at taken handled ⊢
  have pos : u.pos = s.pos := by rw [State.pos, taken.cc, State.pos]
  rw [handled, pos, State.rearPresent_of_member (by rw [taken.cc, claim]) (by rw [taken.cc, front]),
    State.offerRear_of_member (by rw [taken.cc, claim]) (by rw [taken.cc, front]),
    State.offerFront_of_member (by rw [taken.cc, claim]) (by rw [taken.cc, front]), State.hasNeighbour_congr taken.ports]
  simp only [Bool.or_eq_true, decide_eq_true_eq, Bool.not_eq_true']

/-- Settles O40: an accepted DOOR, a malformed one, and one of another generation. -/
theorem nodesHandleADoor : Obligations.NodesHandleADoor := by
  intro s p q seq gen id first last x y a side o now claim front
  have block (d : State) (at_ : DeliveredTo s d p seq) (x y : Nat) : d.handOn p { gen, body := .door id x y first last } =
      d.dcuDoor p gen id x y first last := by
    change d.rearward p (fun u => u.dcuDoor p gen id x y first last) = _
    rw [State.rearward_consumed (by rw [at_.node.1, claim]) (by rw [at_.node.1, front])]
  refine ⟨fun current real faces hid sides least ordered most => ?_, fun current real misfit => ?_, fun stale => ?_⟩
  · intro applies side1 side2
    refine completes_block (f := { gen, body := .door id (actionCode a) (trainSideCode side) first last }) now rfl
      (PortOp.ite (decide (last ≤ s.pos) || !s.hasNeighbour (other p))
        (PortOp.offer p p { gen, body := .echo id (if applies then posBit s.pos else 0) })
        (PortOp.offer p (other p) { gen, body := .door id (actionCode a) (trainSideCode side) first last })) fun d at_ => ?_
    have cc := at_.node.1
    have pos : d.pos = s.pos := by rw [State.pos, cc, State.pos]
    have applies_ : d.doorApplies first last = applies := by rw [State.doorApplies, cc, pos]
    have taken := State.doorTaken_taken (by rw [cc, faces]) gen id a side first last
    have handled : d.dcuDoor p gen id (actionCode a) (trainSideCode side) first last =
        d.handleDoor gen id a side first last := by
      rw [State.dcuDoor, State.ofGeneration_current (by rw [cc, current]) real, doorFields_codes hid sides least ordered most]
      rfl
    refine ⟨_, ?_, taken.ports, fun t ports kept => ⟨?_, fun changes masked => ?_, ?_, ?_, ?_,
      sameSystem_delivered at_.start kept taken.system, sameHost_delivered at_.start kept taken.host, fun ends => ?_,
      fun onward present => ?_⟩⟩
    · rw [block d at_, handled, State.handleDoor_of_member (by rw [cc, claim]) (by rw [cc, front]) (by rw [cc, faces]),
        at_.hasNeighbour, pos, applies_]
    · rw [kept.node.2.2.1, taken.dcu, applies_, at_.node.2.2.1, mapSides_eq]
    · rw [kept.node.2.2.1] at changes
      exact kept.tells .release (taken.tells (by rwa [at_.node.2.2.1]) (by rwa [at_.hl]))
    · rw [kept.node.1, taken.cc, cc]
    · rw [kept.node.2.1, taken.se, at_.node.2.1]
    · rw [kept.node.2.2.2, taken.ha, at_.node.2.2.2]
    · rwa [if_pos (by rcases ends with h | h <;> simp [h])] at ports
    · rwa [if_neg (by simp [present, onward])] at ports
  · refine completes_atPorts (f := { gen, body := .door id x y first last }) now rfl (PortOp.modLr p _) fun d at_ => ?_
    rw [block d at_, State.dcuDoor, State.ofGeneration_current (by rw [at_.node.1, current]) real, doorFields_of_misfit misfit]
    rfl
  · refine completes_atPorts (f := { gen, body := .door id x y first last }) now rfl (PortOp.modLr p _) fun d at_ => ?_
    rw [block d at_, State.dcuDoor, State.ofGeneration_stale (by rwa [at_.node.1])]
    rfl

end Sys2Proof.Machine
end

section
/-! A CONFIRM at a member (05 R94 to R96, 04 R64, R68, R70). -/

namespace Sys2Proof.Machine

/-! ### A well-formed table -/

theorem positions_iff {l : List Entry} {n : Nat} : l.map Entry.position = (List.range n).map (· + 1) ↔
    l.length = n ∧ ∀ i x, l[i]? = some x → x.position = i + 1 := by
  constructor
  · intro h
    have length : l.length = n := by simpa using congrArg List.length h
    refine ⟨length, fun i x at_ => ?_⟩
    have inside : i < n := by
      rw [← length]
      exact (List.getElem?_eq_some_iff.mp at_).1
    have read := congrArg (fun m : List Nat => m[i]?) h
    simpa [at_, inside] using read
  · rintro ⟨rfl, places⟩
    apply List.ext_getElem?
    intro i
    rw [List.getElem?_map, List.getElem?_map]
    by_cases inside : i < l.length
    · simp [inside, places i l[i] (List.getElem?_eq_getElem inside)]
    · simp [inside]

theorem entryInRange_iff (e : Entry) : entryInRange e = true ↔
    e.serial ≠ 0 ∧ e.cls ≤ 15 ∧ e.leaves1 ≤ 4 ∧ e.leaves2 ≤ 4 ∧ 1 ≤ e.stepPower ∧ e.stepPower ≤ 40 := by
  simp [entryInRange, and_assoc]

theorem tableWellFormed_iff_fields (n : Nat) (l : List Entry) : tableWellFormed n l = true ↔
    1 ≤ n ∧ n ≤ 32 ∧ l.length = n ∧ (∀ i x, l[i]? = some x → x.position = i + 1) ∧ (l.map Entry.serial).Nodup ∧
      ∀ x ∈ l, x.serial ≠ 0 ∧ x.cls ≤ 15 ∧ x.leaves1 ≤ 4 ∧ x.leaves2 ≤ 4 ∧ 1 ≤ x.stepPower ∧ x.stepPower ≤ 40 ∧
        (x.lead = true ↔ x.position = 1) := by
  have leads (x : Entry) : x.lead = (x.position == 1) ↔ (x.lead = true ↔ x.position = 1) := by
    cases x.lead <;> simp
  simp only [tableWellFormed_iff, positions_iff, entryInRange_iff, leads, and_assoc]
  refine and_congr_right fun _ => and_congr_right fun _ => and_congr_right fun _ => and_congr_right fun _ =>
    and_congr_right fun _ => ⟨fun ⟨ranges, lead⟩ x mem => ?_, fun fields => ⟨fun x mem => ?_, fun x mem => ?_⟩⟩
  · obtain ⟨serial, cls, one, two, low, high⟩ := ranges x mem
    exact ⟨serial, cls, one, two, low, high, lead x mem⟩
  · obtain ⟨serial, cls, one, two, low, high, -⟩ := fields x mem
    exact ⟨serial, cls, one, two, low, high⟩
  · obtain ⟨-, -, -, -, -, -, lead⟩ := fields x mem
    exact lead

/-- A well-formed table has no entry above N. -/
theorem recordAt_eq_none_of_above {n x : Nat} {l : List Entry} (formed : tableWellFormed n l = true) (above : n < x) :
    recordAt l x = none := by
  obtain ⟨-, -, length, places, -⟩ := (tableWellFormed_iff_fields n l).mp formed
  cases found : recordAt l x with
  | none => rfl
  | some e =>
    obtain ⟨i, inside, eq⟩ := List.getElem_of_mem (recordAt_mem found)
    have place := places i e (by rw [List.getElem?_eq_getElem inside, eq])
    rw [recordAt_position found] at place
    omega

/-! ### The check of a CONFIRM -/

section
variable {s : State} {n reason x : Nat} {l : List Entry} {e : Entry} {r : Reason}

theorem State.acceptsConfirm_of_fits (formed : tableWellFormed n l = true) (hr : reasonOfCode reason = some r)
    (position : s.cc.position = some x) (found : recordAt l x = some e) (own : e.serial = s.sys.serial)
    (faces : s.cc.orientation = some e.orientation) : s.acceptsConfirm n reason l = true := by
  simp [State.acceptsConfirm, formed, hr, position, found, own, faces]

theorem State.acceptsConfirm_of_misfit (position : s.cc.position = some x)
    (misfit : tableWellFormed n l = false ∨ n < x ∨ recordAt l x = some e ∧ e.serial ≠ s.sys.serial) :
    s.acceptsConfirm n reason l = false := by
  cases formed : tableWellFormed n l
  · simp [State.acceptsConfirm, formed]
  · rcases misfit with h | above | ⟨found, foreign⟩
    · simp [formed] at h
    · simp [State.acceptsConfirm, position, recordAt_eq_none_of_above formed above]
    · simp [State.acceptsConfirm, position, found, foreign]

end

theorem State.handOn_confirm {gen n reason : Nat} {entries : List LineEntry} (some_ : entries ≠ []) (most : entries.length ≤ 32)
    {s : State} {p : PortId} (claim : s.cc.claim = none) (front : s.cc.front = some p) :
    s.handOn p { gen, body := .confirm n reason entries } = s.ccConfirm p gen n reason entries := by
  have least : 1 ≤ entries.length := List.length_pos_iff.mpr some_
  have routable : Body.routable (.confirm n reason entries) = true := by simp [Body.routable, Body.lengthOk, least, most]
  rw [State.handOn_of_routable routable, State.route, if_neg (by simp [routable])]
  exact State.rearward_consumed claim front _

/-- A PROVISIONAL member whose place a CONFIRM of its generation names (05 R94). -/
theorem State.ccConfirm_accepted {s : State} {p : PortId} {n reason x : Nat} {entries : List LineEntry} {r : Reason}
    (claim : s.cc.claim = none) (front : s.cc.front = some p) (prov : s.cc.node = .provisional)
    (accepts : s.acceptsConfirm n reason (entries.map LineEntry.entry) = true) (hr : reasonOfCode reason = some r)
    (position : s.cc.position = some x) :
    s.ccConfirm p s.cc.gen n reason entries =
      if decide (x < n) then
        (s.enterOperational { gen := s.cc.gen, reason := r, entries := entries.map LineEntry.entry }).offer (other p)
          { gen := s.cc.gen, body := .confirm n reason entries }
      else s.enterOperational { gen := s.cc.gen, reason := r, entries := entries.map LineEntry.entry } := by
  rw [State.ccConfirm]
  dsimp only
  rw [if_neg (by simp [prov]), if_neg (by simp [prov]), if_pos accepts, hr, position,
    State.offerRear_of_member (by exact claim) (by exact front)]
  simp only [Option.getD_some, decide_eq_true_eq]

/-- A member CALLs on its LINKED front port (04 R68). -/
theorem State.emitCall_of_member {s : State} {p : PortId} (claim : s.cc.claim = none) (front : s.cc.front = some p)
    (linked : (s.cp p).st = .linked) (cause port : Nat) :
    s.emitCall cause port =
      s.offer p { gen := s.cc.gen, body := .call s.sys.serial (s.cc.position.getD 0xFF) cause port } := by
  simp only [State.emitCall, claim, front, if_pos linked]

/-- A PROVISIONAL member whose check a CONFIRM of its generation fails (05 R95). -/
theorem State.ccConfirm_refused {s : State} {p : PortId} {n reason x : Nat} {entries : List LineEntry}
    (claim : s.cc.claim = none) (front : s.cc.front = some p) (linked : (s.cp p).st = .linked) (prov : s.cc.node = .provisional)
    (refuses : s.acceptsConfirm n reason (entries.map LineEntry.entry) = false) (position : s.cc.position = some x) :
    s.ccConfirm p s.cc.gen n reason entries =
      (s.modCc fun c => { c with node := .suspended, lastExit := .mismatch, confirmTimer := none }).offer p
        { gen := s.cc.gen, body := .call s.sys.serial x 3 0 } := by
  have suspended : s.suspend .mismatch =
      s.modCc fun c => { c with node := .suspended, lastExit := .mismatch, confirmTimer := none } := by
    simp only [State.suspend, prov]
  rw [State.ccConfirm]
  dsimp only
  rw [if_neg (by simp [prov]), if_neg (by simp [prov]), if_neg (by simp [refuses]), suspended,
    State.emitCall_of_member (p := p) (by exact claim) (by exact front) (by simpa using linked)]
  simp [position, callMismatch]

theorem DeliveredTo.st {s d : State} {p : PortId} {seq : Nat} (at_ : DeliveredTo s d p seq) : (d.cp p).st = (s.cp p).st :=
  (congrArg Coupler.st at_.settled :)

/-- Settles O33: a CONFIRM that a PROVISIONAL member accepts or refuses, one of another generation, and any other
node state. -/
theorem confirmMakesMembersOperational : Obligations.ConfirmMakesMembersOperational := by
  intro s p q seq gen n reason x entries e r now claim front some_ most table
  have block (d : State) (at_ : DeliveredTo s d p seq) : d.handOn p { gen, body := .confirm n reason entries } =
      d.ccConfirm p gen n reason entries :=
    State.handOn_confirm some_ most (by rw [at_.node.1, claim]) (by rw [at_.node.1, front])
  refine ⟨tableWellFormed_iff_fields n table, fun current prov formed hr position found own faces => ?_,
    fun current prov position misfit => ?_, fun stale => ?_, fun current away => ?_⟩
  · subst current
    refine completes_block (f := { gen := s.cc.gen, body := .confirm n reason entries }) now rfl
      (PortOp.ite (decide (x < n)) (PortOp.offer p (other p) { gen := s.cc.gen, body := .confirm n reason entries })
        (PortOp.id p)) fun d at_ => ?_
    obtain ⟨cc, se, dcu, ha⟩ := at_.node
    have accepts := State.acceptsConfirm_of_fits (s := d) formed hr (by rw [cc, position]) found (by rw [at_.system.1, own])
      (by rw [cc, faces])
    have handled := State.ccConfirm_accepted (s := d) (by rw [cc, claim]) (by rw [cc, front]) (by rw [cc, prov]) accepts hr
      (by rw [cc, position])
    rw [cc] at handled
    refine ⟨_, (block d at_).trans handled, samePorts_of_port fun y => by simp [State.enterOperational], fun t ports kept =>
      ⟨?_, ?_, ?_, ?_, fun masked => kept.tells .consist (told_raise_self (by rw [State.modCc_hl, at_.hl]; exact masked)),
        sameSystem_delivered at_.start kept ⟨rfl, rfl⟩,
        sameHost_delivered at_.start kept (State.raiseIf_still _ true .consist), fun below => ?_, fun last => ?_⟩⟩
    · rw [kept.node.1]
      simp [State.enterOperational, cc, claim, table]
    · rw [kept.node.2.1, ← se]
      rfl
    · rw [kept.node.2.2.1, ← dcu]
      rfl
    · rw [kept.node.2.2.2, ← ha]
      rfl
    · rwa [if_pos (by simpa using below)] at ports
    · rwa [if_neg (by simpa using last)] at ports
  · subst current
    refine completes_block (f := { gen := s.cc.gen, body := .confirm n reason entries }) now rfl
      (PortOp.offer p p { gen := s.cc.gen, body := .call s.sys.serial x 3 0 }) fun d at_ => ?_
    obtain ⟨cc, se, dcu, ha⟩ := at_.node
    have refuses := State.acceptsConfirm_of_misfit (s := d) (reason := reason) (by rw [cc, position])
      (by rwa [at_.system.1])
    have handled := State.ccConfirm_refused (s := d) (by rw [cc, claim]) (by rw [cc, front]) (by rw [at_.st]; exact now.2.1)
      (by rw [cc, prov]) refuses (by rw [cc, position])
    rw [cc, at_.system.1] at handled
    refine ⟨_, (block d at_).trans handled, samePorts_of_port fun y => by simp, fun t ports kept =>
      ⟨?_, ?_, ?_, ?_, sameSystem_delivered at_.start kept ⟨rfl, rfl⟩, sameHost_delivered at_.start kept rfl, ports⟩⟩
    · rw [kept.node.1, State.modCc_cc, cc]
    · rw [kept.node.2.1, State.modCc_se, se]
    · rw [kept.node.2.2.1, State.modCc_dcu, dcu]
    · rw [kept.node.2.2.2, State.modCc_ha, ha]
  · refine completes_atPorts (f := { gen, body := .confirm n reason entries }) now rfl (PortOp.modLr p _) fun d at_ => ?_
    rw [block d at_, State.ccConfirm]
    exact if_pos (.inl (by rwa [at_.node.1]))
  · refine completes_atPorts (f := { gen, body := .confirm n reason entries }) now rfl (PortOp.id p) fun d at_ => ?_
    rw [block d at_, State.ccConfirm]
    dsimp only
    rw [at_.node.1, if_neg (by rcases away with h | h <;> simp [current, h]), if_pos (by rcases away with h | h <;> simp [h])]

end Sys2Proof.Machine
end

section
/-! A WALK at a node without a claim (05 R85 to R88, 04 R62). -/

namespace Sys2Proof.Machine

/-! ### Taking the position -/

/-- What leaving OPERATIONAL for a walk keeps and leaves. -/
structure LeftForWalk (s u : State) : Prop where
  cc : u.cc = { s.cc with
    node := if s.cc.node = .operational then .provisional else s.cc.node,
    lastExit := if s.cc.node = .operational then .walk else s.cc.lastExit,
    silenceTimer := if s.cc.node = .operational then none else s.cc.silenceTimer,
    table := if s.cc.node = .operational then Table.empty else s.cc.table }
  left : leftOperational s u
  settings : sameSettings s u
  ports : samePorts s u
  system : sameSystem s u
  host : sameHost s u

theorem State.leaveForWalk_se {s : State} (claim : s.cc.claim = none) : s.leaveForWalk.se = s.se := by
  unfold State.leaveForWalk
  split
  · simp [State.leaveOperational_se, claim]
  · rfl

theorem State.leaveForWalk_left (s : State) : LeftForWalk s s.leaveForWalk := by
  unfold State.leaveForWalk
  split
  · next op =>
    obtain ⟨h, still, hl⟩ := s.leaveOperational_hl .provisional .walk
    refine ⟨?_, State.leaveOperational_leftOperational op _ _, ?_, samePorts_of_port fun x => by simp, by simp [sameSystem], ?_⟩
    · simp [State.leaveOperational_cc, op]
    · cases lead : s.cc.claim <;>
        simp [sameSettings, State.leaveOperational_cc, State.leaveOperational_se, State.leaveOperational_dcu,
          State.leaveOperational_ha, SweepState.abandon, lead]
    · rw [sameHost, hl, HostLink.still_raise, still]
  · next notOp =>
    exact ⟨by simp [notOp], ⟨fun op => absurd op notOp, fun _ => ⟨rfl, rfl, rfl, rfl, rfl, rfl, rfl, rfl, rfl, rfl⟩⟩,
      ⟨rfl, rfl, rfl, rfl, rfl, rfl, rfl, rfl, rfl, rfl, rfl, rfl, rfl, rfl, rfl⟩, samePorts.refl s, ⟨rfl, rfl⟩, rfl⟩

/-- What a position taken leaves of the node (05 R86). -/
structure TookPosition (s u : State) (x : PortId) (gen pos : Nat) : Prop where
  cc : u.cc = { s.cc with
    node := .provisional, gen, position := some pos, front := some x, orientation := some (orientationOf x),
    table := Table.empty, confirmTimer := some 0, silenceTimer := none,
    lastExit := if s.cc.node = .operational then .walk else s.cc.lastExit }
  se : u.se = { s.se with lastSeen := none, gap := false, lastSent := none }
  fresh : u.dcu.lastDoor = none ∧ u.ha.lastTaken = none
  left : leftOperational s u
  settings : sameSettings s u
  ports : samePorts s u
  system : sameSystem s u
  host : sameHost s u

theorem State.takePosition_took {s : State} (claim : s.cc.claim = none) (x : PortId) (gen pos : Nat) :
    TookPosition s (s.takePosition x gen pos) x gen pos := by
  have left := s.leaveForWalk_left
  have se := State.leaveForWalk_se claim
  unfold State.takePosition
  generalize s.leaveForWalk = u at left se
  refine ⟨?_, ?_, ⟨rfl, rfl⟩, left.left, ?_, left.ports, left.system, left.host⟩
  · simp only [State.modCc_cc, State.startPosition, left.cc]
  · simp only [State.modCc_se, State.startPosition, se]
    rfl
  · exact left.settings

/-! ### The WALK, by what the node makes of it -/

/-- The entry that a node which takes a position sends in its NODE (05 R86). -/
def State.walkedEntry (s : State) (x : PortId) (next : Nat) : Entry :=
  { serial := s.sys.serial, position := next, orientation := orientationOf x, cls := s.cc.coach.cls,
    leaves1 := s.cc.coach.leaves1, leaves2 := s.cc.coach.leaves2, stepPower := s.cc.coach.stepPower, lead := false }

/-- A node that has taken its position sends its NODE, and the WALK onward or a TAIL (05 R87). -/
def State.walksOn (u : State) (x : PortId) (gen : Nat) (leader : Serial) (next : Nat) : State :=
  let named := u.offer x { gen, body := .node (plainEntry (u.ownEntry false)) }
  if named.hasNeighbour (other x) then named.offer (other x) { gen, body := .walk leader (next + 1) }
  else named.offer x { gen, body := .tail 0 next named.sys.serial }

section
variable {s : State} {p : PortId} {gen next : Nat} {leader : Serial} (claim : s.cc.claim = none) (node : s.cc.node ≠ .isolated)
  (foreign : leader ≠ s.sys.serial)
include claim node foreign

theorem State.ccWalk_malformed (bad : next ≤ 1 ∨ gen = 0) : s.ccWalk p gen leader next = s.countMalformed p := by
  rw [State.ccWalk, if_neg foreign, if_neg (by simp [claim]), if_neg node, if_pos bad]

theorem State.ccWalk_joined (good : ¬ (next ≤ 1 ∨ gen = 0)) (joined : s.cc.node = .provisional ∧ s.cc.gen = gen) :
    s.ccWalk p gen leader next = s := by
  rw [State.ccWalk, if_neg foreign, if_neg (by simp [claim]), if_neg node, if_neg good, if_pos joined]

theorem State.ccWalk_overlength (good : ¬ (next ≤ 1 ∨ gen = 0)) (apart : ¬ (s.cc.node = .provisional ∧ s.cc.gen = gen))
    (long : 33 ≤ next) : s.ccWalk p gen leader next = s.offer p { gen, body := .tail 1 32 s.sys.serial } := by
  rw [State.ccWalk, if_neg foreign, if_neg (by simp [claim]), if_neg node, if_neg good, if_neg apart, if_pos long]

theorem State.ccWalk_taken (good : ¬ (next ≤ 1 ∨ gen = 0)) (apart : ¬ (s.cc.node = .provisional ∧ s.cc.gen = gen))
    (short : ¬ 33 ≤ next) : s.ccWalk p gen leader next =
      if s.hasNeighbour (other p) then
        ((s.takePosition p gen next).offer p { gen, body := .node (plainEntry (s.walkedEntry p next)) }).offer (other p)
          { gen, body := .walk leader (next + 1) }
      else ((s.takePosition p gen next).offer p { gen, body := .node (plainEntry (s.walkedEntry p next)) }).offer p
        { gen, body := .tail 0 next s.sys.serial } := by
  have took := State.takePosition_took claim p gen next
  have walked : s.ccWalk p gen leader next = (s.takePosition p gen next).walksOn p gen leader next := by
    rw [State.ccWalk, if_neg foreign, if_neg (by simp [claim]), if_neg node, if_neg good, if_neg apart, if_neg short]
    rfl
  generalize s.takePosition p gen next = u at took walked ⊢
  have own : u.ownEntry false = s.walkedEntry p next := by
    rw [State.ownEntry, took.cc, took.system.1]
    rfl
  have present : (u.offer p { gen, body := .node (plainEntry (s.walkedEntry p next)) }).hasNeighbour (other p) =
      s.hasNeighbour (other p) := by
    rw [State.hasNeighbour, State.offer_nm]
    exact State.hasNeighbour_congr took.ports (other p)
  rw [walked, State.walksOn, own, present, State.offer_sys, took.system.1]

end

/-- Settles O28: one's own WALK, and that of another leader by what the node makes of it. -/
theorem walkGivesAMemberItsPosition : Obligations.WalkGivesAMemberItsPosition := by
  intro s p q seq gen next leader now facing own
  have facing_ : facing = orientationOf p := by cases p <;> rfl
  have own_ : own = { gen, body := .node (plainEntry (s.walkedEntry p next)) } := by
    rw [State.walkedEntry, ← facing_]
    rfl
  refine ⟨?_, fun claim node foreign => ?_⟩
  · refine completes_atPorts (f := { gen, body := .walk s.sys.serial next }) now rfl (PortOp.id p) fun d at_ => ?_
    exact if_pos (by rw [at_.system.1])
  have block (d : State) (at_ : DeliveredTo s d p seq) :
      d.handOn p { gen, body := .walk leader next } = d.ccWalk p gen leader next ∧
        d.cc.claim = none ∧ d.cc.node ≠ .isolated ∧ leader ≠ d.sys.serial := by
    rw [at_.node.1, at_.system.1]
    exact ⟨rfl, claim, node, foreign⟩
  by_cases bad : next ≤ 1 ∨ gen = 0
  · obtain ⟨t, run, ports, same, system, host⟩ := completes_atPorts (f := { gen, body := .walk leader next }) now rfl
      (PortOp.modLr p fun r => { r with malformed := inc16 r.malformed }) fun d at_ => by
        obtain ⟨handled, claim', node', foreign'⟩ := block d at_
        rw [handled, State.ccWalk_malformed claim' node' foreign' bad]
        rfl
    exact ⟨t, run, system, host, fun least _ real _ => absurd bad (by omega), fun _ => ⟨ports, same⟩,
      fun least real _ _ => absurd bad (by omega), fun long real _ => absurd bad (by omega)⟩
  by_cases joined : s.cc.node = .provisional ∧ s.cc.gen = gen
  · obtain ⟨t, run, ports, same, system, host⟩ := completes_atPorts (f := { gen, body := .walk leader next }) now rfl
      (PortOp.id p) fun d at_ => by
        obtain ⟨handled, claim', node', foreign'⟩ := block d at_
        rw [handled, State.ccWalk_joined claim' node' foreign' bad (by rw [at_.node.1]; exact joined)]
    exact ⟨t, run, system, host, fun _ _ _ apart => absurd joined apart, fun h => absurd h bad, fun _ _ _ _ => ⟨ports, same⟩,
      fun _ _ apart => absurd joined apart⟩
  by_cases long : 33 ≤ next
  · obtain ⟨t, run, ports, same, system, host⟩ := completes_atPorts (f := { gen, body := .walk leader next }) now rfl
      (PortOp.offer p p { gen, body := .tail 1 32 s.sys.serial }) fun d at_ => by
        obtain ⟨handled, claim', node', foreign'⟩ := block d at_
        rw [handled, State.ccWalk_overlength claim' node' foreign' bad (by rw [at_.node.1]; exact joined) long, at_.system.1]
    exact ⟨t, run, system, host, fun _ short _ _ => absurd long (by omega), fun h => absurd h bad,
      fun _ _ prov same => absurd ⟨prov, same⟩ joined, fun _ _ _ => ⟨ports, same⟩⟩
  · refine completes_block (f := { gen, body := .walk leader next }) now rfl
      (PortOp.ite (s.hasNeighbour (other p))
        ((PortOp.offer p p own).comp (PortOp.offer p (other p) { gen, body := .walk leader (next + 1) }))
        ((PortOp.offer p p own).comp (PortOp.offer p p { gen, body := .tail 0 next s.sys.serial }))) fun d at_ => ?_
    obtain ⟨handled, claim', node', foreign'⟩ := block d at_
    have took := State.takePosition_took claim' p gen next
    have entry : d.walkedEntry p next = s.walkedEntry p next := by
      rw [State.walkedEntry, at_.system.1, at_.node.1, State.walkedEntry]
    refine ⟨_, ?_, took.ports, fun t ports kept => ⟨sameSystem_delivered at_.start kept took.system,
      sameHost_delivered at_.start kept took.host, fun least most real _ => ⟨?_, ?_, ?_, ?_,
        leftOperational_delivered at_.start kept took.left, sameSettings_delivered at_.start kept took.settings,
        fun present => ?_, fun absent => ?_⟩, fun h => absurd h bad, fun _ _ prov same => absurd ⟨prov, same⟩ joined,
      fun h => absurd h long⟩⟩
    · rw [handled, State.ccWalk_taken claim' node' foreign' bad (by rw [at_.node.1]; exact joined) long, at_.hasNeighbour, entry,
        at_.system.1, own_]
    · rw [kept.node.1, took.cc, at_.node.1, facing_]
    · rw [kept.node.2.1, took.se, at_.node.2.1]
    · rw [kept.node.2.2.1, took.fresh.1]
    · rw [kept.node.2.2.2, took.fresh.2]
    · rwa [if_pos present] at ports
    · rwa [if_neg (by simp [absent])] at ports

end Sys2Proof.Machine
end

section
/-! A node's own element of a sweep, and a SWEEP at a member (06 R108, R109, R111 to R113). -/

namespace Sys2Proof.Machine

/-! ### The own element -/

/-- A node's record shows its node state, its doors, its demand, and whether a pair of its ports is DEGRADED. -/
theorem State.buildRecord_congr {s d : State} (node : sameNode s d) (degraded : ∀ p, (d.cp p).degradedPair = (s.cp p).degradedPair) :
    d.buildRecord = s.buildRecord := by
  obtain ⟨cc, se, dcu, ha⟩ := node
  have open_ : d.leafOpen = s.leafOpen := by
    funext i
    simp only [State.leafOpen, cc, dcu]
  have isolated : d.leafIsolated = s.leafIsolated := by
    funext i
    simp only [State.leafIsolated, cc, dcu]
  have one : d.port1.cp.degradedPair = s.port1.cp.degradedPair := degraded .p1
  have two : d.port2.cp.degradedPair = s.port2.cp.degradedPair := degraded .p2
  simp only [State.buildRecord, State.leftIsSide2, State.localClosed, State.anyLeafOpen, State.nodeDemand, open_, isolated, one, two,
    cc, se, dcu, ha]
  rfl

theorem State.sweptRecord_congr {s d : State} (node : sameNode s d) (degraded : ∀ p, (d.cp p).degradedPair = (s.cp p).degradedPair)
    (number : Nat) : d.sweptRecord number = s.sweptRecord number := by
  rw [State.sweptRecord, State.buildRecord_congr node degraded, node.2.1, State.sweptRecord]

theorem State.sweptElement_congr {s d : State} (node : sameNode s d) (r : Record) (refresh : Bool) :
    d.sweptElement r refresh = s.sweptElement r refresh := by
  rw [State.sweptElement, State.sendsNil, node.1, node.2.1, State.sweptElement, State.sendsNil]

theorem expectedNumber_eq (last : Option Nat) :
    expectedNumber last = (match last with
      | none => 0
      | some n => (n + 1) % 16) := by
  cases last <;> rfl

theorem State.gapCheck_buildRecord (s : State) (number : Nat) : (s.gapCheck number).buildRecord = s.sweptRecord number := by
  have built : (s.gapCheck number).buildRecord =
      { s.buildRecord with gap := s.se.gap || decide (number ≠ expectedNumber s.se.lastSeen) } := rfl
  rw [built, expectedNumber_eq]
  rfl

/-- A node's own record and element, after its gap check (06 R108, R109, R112). -/
theorem State.gapCheck_ownAppended (s : State) (number : Nat) (refresh : Bool) :
    (s.gapCheck number).ownAppended refresh =
      { record := s.sweptRecord number, element := s.sweptElement (s.sweptRecord number) refresh } := by
  have lastSent : (s.gapCheck number).se.lastSent = s.se.lastSent := rfl
  have node : (s.gapCheck number).cc.node = s.cc.node := rfl
  have nil : quiet (s.cc.node == .operational) (s.sweptRecord number) (if refresh then none else s.se.lastSent) =
      s.sendsNil (s.sweptRecord number) refresh := by
    cases refresh
    · simp [quiet, State.sendsNil]
    · simp [quiet, State.sendsNil]
  unfold State.ownAppended State.sweptElement
  rw [State.gapCheck_buildRecord, lastSent, node]
  dsimp only
  rw [nil]
  split <;> rfl

/-- The sweep state once the own element is appended. -/
theorem State.gapCheck_afterAppend (s : State) (number : Nat) (refresh : Bool) :
    (s.gapCheck number).afterAppend
        { record := s.sweptRecord number, element := s.sweptElement (s.sweptRecord number) refresh } =
      s.modSe fun e => e.answered number (s.sweptRecord number) (s.sweptElement (s.sweptRecord number) refresh) := by
  have ended : ((s.gapCheck number).se.gap && !(s.sweptRecord number).gap) = false := by
    rw [← State.gapCheck_buildRecord]
    exact Bool.and_not_self _
  unfold State.sweptElement
  cases s.sendsNil (s.sweptRecord number) refresh
  · change s.modSe (fun e => { e with
      lastSeen := some number, gap := (s.gapCheck number).se.gap && !(s.sweptRecord number).gap,
      lastSent := some (s.sweptRecord number) }) = _
    rw [ended]
    rfl
  · change s.modSe (fun e => { e with
      lastSeen := some number, gap := (s.gapCheck number).se.gap && !(s.sweptRecord number).gap }) = _
    rw [ended]
    rfl

/-- The sweep state of a node once its own element stands at the list's end. -/
def State.swept (s : State) (number : Nat) (refresh : Bool) : State :=
  s.modSe fun e => e.answered number (s.sweptRecord number) (s.sweptElement (s.sweptRecord number) refresh)

/-! ### The list -/

theorem all_runOk_iff (l : List Element) : l.all Element.runOk = true ↔ ∀ k, Element.nilRun k ∈ l → 2 ≤ k ∧ k ≤ 32 := by
  rw [List.all_eq_true]
  refine ⟨fun ok k mem => by simpa [Element.runOk] using ok _ mem, fun runs x mem => ?_⟩
  cases x with
  | full r => rfl
  | nil => rfl
  | nilRun k => simpa [Element.runOk] using runs k mem

/-- The list of a SWEEP that passes the check (06 R109). -/
theorem sweepList_iff (number n : Nat) (list : List Nat) (l : List Element) :
    sweepList number n list = some l ↔ decodeList list = some l ∧ number ≤ 15 ∧ 1 ≤ n ∧ n ≤ 32 ∧
      (∀ k, Element.nilRun k ∈ l → 2 ≤ k ∧ k ≤ 32) ∧ (l.map Element.covers).sum < 32 := by
  rw [← all_runOk_iff, sweepList]
  cases decodeList list with
  | none => simp
  | some l' =>
    dsimp only
    split
    · next fits =>
      constructor
      · rintro ⟨⟩
        exact ⟨rfl, fits⟩
      · rintro ⟨⟨⟩, _⟩
        rfl
    · next misfits =>
      constructor
      · rintro ⟨⟩
      · rintro ⟨⟨⟩, fits⟩
        exact absurd fits misfits

/-! ### A SWEEP at a member -/

theorem State.handOn_sweep {gen number flags n : Nat} {list : List Nat} (some_ : list ≠ []) (most : list.length ≤ 192)
    {s : State} {p : PortId} (claim : s.cc.claim = none) (front : s.cc.front = some p) :
    s.handOn p { gen, body := .sweep number flags n list } = s.seSweep p gen number flags n list := by
  have least : 1 ≤ list.length := List.length_pos_iff.mpr some_
  have routable : Body.routable (.sweep number flags n list) = true := by simp [Body.routable, Body.lengthOk, least, most]
  rw [State.handOn_of_routable routable, State.route, if_neg (by simp [routable])]
  exact State.rearward_consumed claim front _

/-- What a member's sweep-silence timer leaves, restarted or not (04 R65). -/
structure Heard (s u : State) : Prop where
  system : sameSystem s u
  ports : samePorts s u
  hl : u.hl = s.hl
  se : u.se = s.se
  dcu : u.dcu = s.dcu
  ha : u.ha = s.ha
  claim : u.cc.claim = s.cc.claim
  front : u.cc.front = s.cc.front
  pos : u.pos = s.pos
  cc : u.cc = if s.cc.node = .operational then { s.cc with silenceTimer := some 0 } else s.cc

theorem State.heardSweep_heard (s : State) : Heard s s.heardSweep := by
  unfold State.heardSweep
  split
  · next operational =>
    exact ⟨⟨rfl, rfl⟩, samePorts.refl s, rfl, rfl, rfl, rfl, rfl, rfl, rfl, by rw [if_pos operational]; rfl⟩
  · next otherwise =>
    exact ⟨⟨rfl, rfl⟩, samePorts.refl s, rfl, rfl, rfl, rfl, rfl, rfl, rfl, by rw [if_neg otherwise]⟩

theorem State.heardSweep_sweptRecord (s : State) (number : Nat) : s.heardSweep.sweptRecord number = s.sweptRecord number := by
  unfold State.heardSweep
  split <;> rfl

theorem State.heardSweep_sweptElement (s : State) (r : Record) (refresh : Bool) :
    s.heardSweep.sweptElement r refresh = s.sweptElement r refresh := by
  unfold State.heardSweep
  split <;> rfl

/-- A SWEEP at a member: its own element, and the sweep sent on or turned back (06 R111, R113). -/
theorem State.answerSweep_of_member {s : State} {p : PortId} (claim : s.cc.claim = none) (front : s.cc.front = some p)
    (gen number flags n : Nat) (list : List Nat) (l : List Element) :
    s.answerSweep gen number flags n list l =
      if decide (s.pos < n) && s.hasNeighbour (other p) then
        (s.swept number (refreshBit flags)).offer (other p)
          { gen, body := .sweep number (flagCode (refreshBit flags)) n
                    (appendBytes list l (s.sweptElement (s.sweptRecord number) (refreshBit flags))) }
      else (s.swept number (refreshBit flags)).offer p
        { gen, body := .ret number flags n
                (appendBytes list l (s.sweptElement (s.sweptRecord number) (refreshBit flags))) } := by
  have claim' : (s.swept number (refreshBit flags)).cc.claim = none := claim
  have front' : (s.swept number (refreshBit flags)).cc.front = some p := front
  unfold State.answerSweep
  simp only [State.gapCheck_ownAppended, State.gapCheck_afterAppend]
  rw [← State.swept, State.rearPresent_of_member claim' front', State.offerRear_of_member claim' front',
    State.offerFront_of_member claim' front']
  simp only [Bool.and_eq_true, decide_eq_true_eq]
  rfl

/-- Settles O35: the list's check, an accepted SWEEP, a malformed one, and one of another generation. -/
theorem nodesAnswerASweep : Obligations.NodesAnswerASweep := by
  intro s p q seq gen number flags n list l now claim front some_ most
  have block (d : State) (at_ : DeliveredTo s d p seq) : d.handOn p { gen, body := .sweep number flags n list } =
      d.seSweep p gen number flags n list :=
    State.handOn_sweep some_ most (by rw [at_.node.1, claim]) (by rw [at_.node.1, front])
  intro record refresh element heard
  have heardCc (d : State) (at_ : DeliveredTo s d p seq) : d.heardSweep.cc = heard := by
    rw [d.heardSweep_heard.cc, at_.node.1]
  have accepted (d : State) (at_ : DeliveredTo s d p seq) (current : gen = s.cc.gen) (real : gen ≠ 0)
      (inConsist : s.cc.node.inConsist = true) : d.seSweep p gen number flags n list =
        (match sweepList number n list with
        | none => d.heardSweep.countMalformed p
        | some l => d.heardSweep.answerSweep gen number flags n list l) := by
    rw [State.seSweep, State.ofGeneration_current (by rw [at_.node.1, current]) real, at_.node.1, inConsist]
    rfl
  refine ⟨?_, fun current real inConsist fits => ?_, fun current real inConsist misfit => ?_, fun stale => ?_⟩
  · exact sweepList_iff number n list l
  · refine completes_block (f := { gen, body := .sweep number flags n list }) now rfl
      (PortOp.ite (decide (s.pos < n) && s.hasNeighbour (other p))
        (PortOp.offer p (other p) { gen, body := .sweep number (if refresh then 1 else 0) n (appendBytes list l element) })
        (PortOp.offer p p { gen, body := .ret number flags n (appendBytes list l element) })) fun d at_ => ?_
    have heard_ := d.heardSweep_heard
    have pos : d.heardSweep.pos = s.pos := by rw [heard_.pos, State.pos, at_.node.1, State.pos]
    have claim' : d.heardSweep.cc.claim = none := by rw [heard_.claim, at_.node.1, claim]
    have front' : d.heardSweep.cc.front = some p := by rw [heard_.front, at_.node.1, front]
    have present : d.heardSweep.hasNeighbour (other p) = s.hasNeighbour (other p) := by
      rw [State.hasNeighbour_congr heard_.ports, at_.hasNeighbour]
    have degraded : ∀ x, (d.cp x).degradedPair = (s.cp x).degradedPair := fun x => by
      by_cases here : x = p
      · rw [here, at_.degraded]
      · rw [eq_other_of_ne here]
        exact congrArg (fun y : Port => y.cp.degradedPair) at_.other
    have record_ : d.heardSweep.sweptRecord number = record := by
      rw [State.heardSweep_sweptRecord, State.sweptRecord_congr at_.node degraded]
    have element_ : d.heardSweep.sweptElement record (refreshBit flags) = element := by
      rw [State.heardSweep_sweptElement, State.sweptElement_congr at_.node]
      rfl
    have se : (d.heardSweep.swept number (refreshBit flags)).se = s.se.answered number record element := by
      change d.heardSweep.se.answered _ _ _ = _
      rw [record_, element_, heard_.se, at_.node.2.1]
    refine ⟨d.heardSweep.swept number (refreshBit flags), ?_, heard_.ports, fun t ports kept => ⟨kept.node.2.1.trans se,
      kept.node.1.trans (heardCc d at_), kept.node.2.2.1.trans (heard_.dcu.trans at_.node.2.2.1),
      kept.node.2.2.2.trans (heard_.ha.trans at_.node.2.2.2), sameSystem_delivered at_.start kept heard_.system,
      sameHost_delivered at_.start kept (congrArg HostLink.still heard_.hl), fun onward => ?_, fun stays => ?_⟩⟩
    · rw [block d at_, accepted d at_ current real inConsist, fits]
      dsimp only
      rw [State.answerSweep_of_member claim' front', present, pos, record_, element_]
      rfl
    · rwa [if_pos (by simp [onward.1, onward.2])] at ports
    · rwa [if_neg (by rcases stays with h | h <;> simp [h])] at ports
  · refine completes_block (f := { gen, body := .sweep number flags n list }) (op := fun u => u.countMalformed p) now rfl
      (PortOp.modLr p _) fun d at_ => ?_
    have heard_ := d.heardSweep_heard
    refine ⟨d.heardSweep, ?_, heard_.ports, fun t ports kept => ⟨ports, kept.node.1.trans (heardCc d at_),
      kept.node.2.1.trans (heard_.se.trans at_.node.2.1), kept.node.2.2.1.trans (heard_.dcu.trans at_.node.2.2.1),
      kept.node.2.2.2.trans (heard_.ha.trans at_.node.2.2.2), sameSystem_delivered at_.start kept heard_.system,
      sameHost_delivered at_.start kept (congrArg HostLink.still heard_.hl)⟩⟩
    rw [block d at_, accepted d at_ current real inConsist, misfit]
  · refine completes_atPorts (f := { gen, body := .sweep number flags n list }) now rfl (PortOp.modLr p _) fun d at_ => ?_
    rw [block d at_, State.seSweep, State.ofGeneration_stale (by rwa [at_.node.1])]
    rfl

end Sys2Proof.Machine
end

section
/-! The launch of a sweep, and the interval timer (06 R104, R105, R101). -/

namespace Sys2Proof.Machine

/-! ### The launch -/

/-- The number of the sweep that a leader launches next (06 R105). -/
def State.nextNumber (s : State) : Nat := expectedNumber s.se.lastLaunched

/-- The leader's own element of the sweep that it launches (06 R109, R112). -/
def State.leadElement (s : State) : Element := s.sweptElement (s.sweptRecord s.nextNumber) s.se.refresh

theorem State.launching_eq (s : State) :
    s.launching = s.modSe fun e => e.launching.answered s.nextNumber (s.sweptRecord s.nextNumber) s.leadElement := by
  unfold State.launching
  rw [← State.nextNumber, State.gapCheck_ownAppended, State.gapCheck_afterAppend]
  rfl

/-- The SWEEP that a leader of a consist launches (06 R105). -/
def State.launchFrame (s : State) : Frame :=
  { gen := s.cc.gen, body := .sweep s.nextNumber (flagCode s.se.refresh) s.consistN (listBytes [s.leadElement]) }

theorem State.launchOnce_eq (s : State) :
    s.launchOnce =
      if s.consistN ≤ 1 then s.launching.completeCore s.nextNumber [s.sweptRecord s.nextNumber]
      else (s.launching.modSe fun e => { e with timeout := some 0 }).offerRear s.launchFrame := by
  have frame : s.launchFrame =
      { gen := s.cc.gen,
        body := .sweep s.nextNumber (flagCode s.se.refresh) s.consistN (listBytes (appendElement [] s.leadElement)) } := by
    unfold State.launchFrame
    cases s.leadElement <;> rfl
  have own : ((s.modSe SweepState.launching).gapCheck s.nextNumber).ownAppended s.se.refresh =
      { record := s.sweptRecord s.nextNumber, element := s.leadElement } := by
    rw [State.gapCheck_ownAppended]
    rfl
  have launched : s.launchOnce =
      let a := ((s.modSe SweepState.launching).gapCheck s.nextNumber).ownAppended s.se.refresh
      if s.consistN ≤ 1 then s.launching.completeCore s.nextNumber [a.record]
      else (s.launching.modSe fun e => { e with timeout := some 0 }).offerRear
        { gen := s.cc.gen,
          body := .sweep s.nextNumber (flagCode s.se.refresh) s.consistN (listBytes (appendElement [] a.element)) } := rfl
  rw [launched, own, frame]

theorem State.launch_alone {s : State} (alone : s.consistN ≤ 1) :
    s.launch = (s.launching.completeCore s.nextNumber [s.sweptRecord s.nextNumber]).relaunchIfDue := by
  rw [State.launch, if_pos alone, State.launchOnce_eq, if_pos alone]

/-! ### A claimant's ports -/

theorem State.rear_of_claim {s : State} {e : PortId} (claim : s.cc.claim = some e) : s.rear = some (other e) := by
  simp only [State.rear, State.front, claim, Option.map_some]

theorem State.offerRear_of_claim {s : State} {e : PortId} (claim : s.cc.claim = some e) (f : Frame) :
    s.offerRear f = s.offer (other e) f := by
  simp only [State.offerRear, State.rear_of_claim claim]

theorem State.rearPresent_of_claim {s : State} {e : PortId} (claim : s.cc.claim = some e) :
    s.rearPresent = s.hasNeighbour (other e) := by
  simp only [State.rearPresent, State.rear_of_claim claim]

theorem samePorts_modSe (s : State) (f : SweepState → SweepState) : samePorts s (s.modSe f) := ⟨rfl, rfl⟩

/-- What the launch of a sweep leaves at the leader of a consist of two or more (06 R105). -/
structure Launched (s t : State) (e : PortId) : Prop where
  system : sameSystem s t
  ports : samePorts (s.offer (other e) s.launchFrame) t
  cc : t.cc = s.cc
  dcu : t.dcu = s.dcu
  ha : t.ha = s.ha
  hl : t.hl = s.hl
  se : t.se = { s.se.answered s.nextNumber (s.sweptRecord s.nextNumber) s.leadElement with
    lastLaunched := some s.nextNumber, outstanding := some s.nextNumber, intervalTimer := some 0,
    intervalPeriod := s.se.interval, timeout := some 0 }

theorem State.launchOnce_launched {s : State} {e : PortId} (claim : s.cc.claim = some e) (many : 2 ≤ s.consistN) :
    Launched s s.launchOnce e := by
  rw [State.launchOnce_eq, if_neg (by omega), State.offerRear_of_claim (s := s.launching.modSe _) claim, State.launching_eq]
  exact ⟨by simp [sameSystem], samePorts_offer ((samePorts_modSe s _).trans (samePorts_modSe _ _)) _ _, by simp, by simp, by simp,
    by simp, by rw [State.offer_se]; rfl⟩

theorem State.launch_launched {s : State} {e : PortId} (claim : s.cc.claim = some e) (many : 2 ≤ s.consistN) :
    Launched s s.launch e := by
  rw [State.launch, if_neg (by omega)]
  exact State.launchOnce_launched claim many

/-- Settles O37: no leader, a sweep outstanding, and the launch. -/
theorem intervalTimerLaunchesOrWaits : Obligations.IntervalTimerLaunchesOrWaits := by
  intro s e ticks due
  have expires : exec .intervalTimerExpiry s = s.intervalExpires.done := by
    change (if s.expires s.se.intervalTimer s.se.intervalPeriod then s.intervalExpires else s).done = _
    rw [if_pos ((s.expires_iff _ _).mpr ⟨ticks, due⟩)]
  rw [expires]
  refine ⟨fun idle => ?_, fun leads waits => ?_, fun leads claim free many => ?_⟩
  · rw [State.intervalExpires, idle]
    rfl
  · rw [State.intervalExpires, leads, waits]
    rfl
  · intro number record element
    let u := s.modSe fun e => { e with intervalTimer := none }
    have launches : s.intervalExpires = u.launch := by
      rw [State.intervalExpires, leads, free]
      rfl
    have launched : Launched u u.launch e := State.launch_launched claim many
    have next : u.nextNumber = number := expectedNumber_eq _
    have own : u.leadElement = element := congrArg (fun k => u.sweptElement (u.sweptRecord k) u.se.refresh) next
    have record_ : u.sweptRecord u.nextNumber = record := congrArg u.sweptRecord next
    have frame : u.launchFrame =
        { gen := s.cc.gen, body := .sweep number (if s.se.refresh then 1 else 0) s.consistN (listBytes [element]) } := by
      rw [State.launchFrame, next, own]
      rfl
    have ports := launched.ports
    rw [frame] at ports
    rw [launches]
    refine completes_done ⟨?_, ((samePorts_offer (samePorts_modSe s _) _ _).trans ports).trans (samePorts_hostKick _), ?_, ?_, ?_,
      ?_, sameHost_hostKick (congrArg HostLink.still launched.hl)⟩
    · rw [State.hostKick_se, launched.se, next, own, ← next, record_, next]
      rfl
    · rw [State.hostKick_cc, launched.cc]
      rfl
    · rw [State.hostKick_dcu, launched.dcu]
      rfl
    · rw [State.hostKick_ha, launched.ha]
      rfl
    · exact launched.system.trans (sameSystem_hostKick _)

end Sys2Proof.Machine
end

section
/-! A leader's walk attempts, and the walk it confirms (05 R84, R91 to R93; 06 R103, R105; 08 R151). -/

namespace Sys2Proof.Machine

/-! ### An attempt -/

/-- A leader as its attempt starts, before its WALK goes out (05 R84). -/
def State.attempting (s : State) (which : WalkState) : State :=
  let s1 := (s.modCc fun c => { c with callHeld := false }).leaveForWalk.startPosition.modCc fun c =>
    { c with gen := nextGeneration c.gen, position := some 1, node := .provisional, table := Table.empty,
             walk := which, settleTimer := none, walkTimer := none }
  s1.modCc fun c => { c with records := [s1.ownEntry true] }

/-- What the start of an attempt leaves of the leader. -/
structure Attempting (s u : State) (which : WalkState) : Prop where
  cc : u.cc = { s.cc with
    gen := nextGeneration s.cc.gen, position := some 1, node := .provisional, table := Table.empty, walk := which,
    settleTimer := none, walkTimer := none, callHeld := false,
    records := [s.cc.leaderEntry s.sys.serial],
    lastExit := if s.cc.node = .operational then .walk else s.cc.lastExit,
    silenceTimer := if s.cc.node = .operational then none else s.cc.silenceTimer }
  fresh : u.se.lastSeen = none ∧ u.se.gap = false ∧ u.se.lastSent = none ∧ u.dcu.lastDoor = none ∧ u.ha.lastTaken = none
  left : leftOperational s u
  settings : sameSettings s u
  ports : samePorts s u
  system : sameSystem s u
  host : sameHost s u

theorem State.attempting_attempting (s : State) (which : WalkState) : Attempting s (s.attempting which) which := by
  have left := (s.modCc fun c => { c with callHeld := false }).leaveForWalk_left
  unfold State.attempting
  generalize (s.modCc fun c => { c with callHeld := false }).leaveForWalk = u at left
  refine ⟨?_, ⟨rfl, rfl, rfl, rfl, rfl⟩, left.left, left.settings, left.ports, left.system, left.host⟩
  simp only [State.modCc_cc, State.modCc_sys, State.startPosition, State.ownEntry, left.cc, left.system.1]
  rfl

theorem State.startAttempt_eq (s : State) (which : WalkState) :
    s.startAttempt which =
      if (s.attempting which).rearPresent then
        ((s.attempting which).modCc fun c => { c with walkTimer := some 0 }).offerRear
          { gen := (s.attempting which).cc.gen, body := .walk (s.attempting which).sys.serial 2 }
      else (s.attempting which).confirmWalk 1 .none := rfl

theorem samePorts_modCc (s : State) (f : Consist → Consist) : samePorts s (s.modCc f) := ⟨rfl, rfl⟩

/-- An attempt with a neighbour at the rear sends its WALK there (05 R84). -/
theorem State.startAttempt_of_present {s : State} {e : PortId} (claim : s.cc.claim = some e)
    (present : s.hasNeighbour (other e) = true) (which : WalkState) :
    attemptStarted s (s.startAttempt which) which ∧
      samePorts (s.offer (other e) { gen := s.cc.gen % 255 + 1, body := .walk s.sys.serial 2 }) (s.startAttempt which) := by
  have begun := s.attempting_attempting which
  have claim' : (s.attempting which).cc.claim = some e := by rw [begun.cc, claim]
  have sent : s.startAttempt which = ((s.attempting which).modCc fun c => { c with walkTimer := some 0 }).offer (other e)
      { gen := s.cc.gen % 255 + 1, body := .walk s.sys.serial 2 } := by
    rw [State.startAttempt_eq, State.rearPresent_of_claim claim', State.hasNeighbour_congr begun.ports, present, if_pos rfl,
      State.offerRear_of_claim (s := (s.attempting which).modCc fun c => { c with walkTimer := some 0 }) claim',
      begun.cc, begun.system.1]
    rfl
  rw [sent]
  obtain ⟨seen, gap, sent_, door, grant⟩ := begun.fresh
  refine ⟨⟨?_, ?_, ?_, ?_, ?_, ?_, ?_, ?_, ?_, ?_⟩, samePorts_offer (begun.ports.trans (samePorts_modCc _ _)) _ _⟩
  · simp only [State.offer_cc, State.modCc_cc, begun.cc]
    rfl
  · rw [State.offer_se, State.modCc_se, seen]
  · rw [State.offer_se, State.modCc_se, gap]
  · rw [State.offer_se, State.modCc_se, sent_]
  · rw [State.offer_dcu, State.modCc_dcu, door]
  · rw [State.offer_ha, State.modCc_ha, grant]
  · exact leftOperational_of_blocks begun.left (by simp) (by simp) (by simp) fun h => by simpa [told] using h
  · exact sameSettings_of_blocks begun.settings (by simp) (by simp) (by simp) (by simp)
  · exact begun.system.trans (by simp [sameSystem])
  · exact (congrArg HostLink.still (State.offer_hl _ _ _)).trans begun.host

/-! ### The confirmed walk -/

/-- A leader that has confirmed its walk, before it announces it (05 R93). -/
def State.confirming (s : State) (t : Table) : State :=
  let s1 := (s.modCc fun c => { c with walkTimer := none }).enterOperational t
  { s1 with se := s1.se.startGeneration, ha := s1.ha.startGeneration }.modCc fun c => { c with confirmCheck := true }

/-- The end of a walk at its leader, with the CALL it held (05 R92). -/
def State.walkEnded (s : State) : State :=
  let s' := s.modCc fun c => { c with walk := .idle, records := [], callHeld := false }
  if s.cc.callHeld then s'.walkTrigger else s'

/-- The CONFIRM of a table (05 R93). -/
def Table.confirmFrame (t : Table) : Frame :=
  { gen := t.gen, body := .confirm t.entries.length (reasonCode t.reason) (t.entries.map plainEntry) }

theorem State.confirmWalk_eq (s : State) (n : Nat) (reason : Reason) :
    s.confirmWalk n reason =
      let t := confirmedTable s.cc.records s.cc.gen n reason
      (if 1 < t.entries.length then (s.confirming t).offerRear t.confirmFrame else s.confirming t).launch.walkEnded := rfl

/-- What the confirmation of a walk leaves of the leader, before it announces it. -/
structure Confirming (s u : State) (t : Table) : Prop where
  cc : u.cc = { s.cc with
    table := t, walkTimer := none, confirmTimer := none, node := .operational, confirmCheck := true }
  se : u.se = s.se.startGeneration
  ha : u.ha = s.ha.startGeneration
  dcu : u.dcu = s.dcu
  ports : samePorts s u
  system : sameSystem s u
  host : sameHost s u
  tells : s.hl.masked .consist = true → told u .consist

theorem State.confirming_confirming {s : State} (claim : s.cc.claim.isSome = true) (t : Table) :
    Confirming s (s.confirming t) t where
  cc := by
    simp only [State.confirming, State.enterOperational, State.modCc_cc, State.raise_cc, claim]
    rfl
  se := by simp [State.confirming, State.enterOperational]
  ha := by simp [State.confirming, State.enterOperational]
  dcu := by simp [State.confirming, State.enterOperational]
  ports := ⟨rfl, rfl⟩
  system := by simp [State.confirming, State.enterOperational, sameSystem]
  host := State.raiseIf_still _ true .consist
  tells masked := told_raise_self masked

theorem State.walkEnded_eq {s : State} (claim : s.cc.claim.isSome = true) :
    s.walkEnded = s.modCc fun c =>
      { c with walk := if c.callHeld then .settling else .idle, settleTimer := if c.callHeld then some 0 else c.settleTimer,
               records := [], callHeld := false } := by
  cases held : s.cc.callHeld
  · simp [State.walkEnded, State.modCc, held]
  · simp [State.walkEnded, State.modCc, State.walkTrigger, claim, held]

theorem State.offer_degradedPair (s : State) (x : PortId) (f : Frame) (y : PortId) :
    ((s.offer x f).cp y).degradedPair = (s.cp y).degradedPair := by
  by_cases here : y = x
  · rw [here, Coupler.degradedPair, State.offer_cp_pairA, State.offer_cp_pairB, Coupler.degradedPair]
  · exact congrArg (fun z : Port => z.cp.degradedPair) (State.offer_port_of_ne s here f)

theorem State.launchFrame_congr {s d : State} (node : sameNode s d)
    (degraded : ∀ p, (d.cp p).degradedPair = (s.cp p).degradedPair) : d.launchFrame = s.launchFrame := by
  have next : d.nextNumber = s.nextNumber := by rw [State.nextNumber, node.2.1, State.nextNumber]
  have own : d.leadElement = s.leadElement := by
    rw [State.leadElement, next, node.2.1, State.sweptRecord_congr node degraded, State.sweptElement_congr node, State.leadElement]
  rw [State.launchFrame, next, own, node.1, node.2.1, State.consistN, node.1, State.launchFrame, State.consistN]

/-- What the confirmation of a walk leaves of a leader of two or more (05 R93, 06 R103, R105). -/
structure WalkConfirmed (s u : State) (e : PortId) (t : Table) : Prop where
  cc : u.cc = { s.cc with
    table := t, walkTimer := none, confirmTimer := none, node := .operational, confirmCheck := true,
    walk := if s.cc.callHeld then .settling else .idle, settleTimer := if s.cc.callHeld then some 0 else s.cc.settleTimer,
    records := [], callHeld := false }
  se : u.se = { s.se with
    outstanding := some 0, lastLaunched := some 0, launchDue := false, refresh := false, lostRow := 0,
    timeout := some 0, intervalTimer := some 0, intervalPeriod := s.se.interval, summary := none,
    lastFull := List.replicate 32 none, demand := List.replicate 32 0, lastSeen := some 0,
    gap := false, lastSent := u.se.lastSent }
  ha : u.ha = { s.ha with grants := List.replicate 32 0, rotation := 1 }
  dcu : u.dcu = s.dcu
  system : sameSystem s u
  host : sameHost s u
  tells : s.hl.masked .consist = true → told u .consist
  ports : samePorts ((s.offer (other e) t.confirmFrame).offer (other e) (s.confirming t).launchFrame) u

theorem State.confirmWalk_confirmed {s : State} {e : PortId} (claim : s.cc.claim = some e) (n : Nat) (reason : Reason)
    {t : Table} (table : confirmedTable s.cc.records s.cc.gen n reason = t) (many : 2 ≤ t.entries.length) :
    WalkConfirmed s (s.confirmWalk n reason) e t := by
  have confirming := State.confirming_confirming (s := s) (by rw [claim]; rfl) t
  have claim' : (s.confirming t).cc.claim = some e := by rw [confirming.cc, claim]
  let u := (s.confirming t).offer (other e) t.confirmFrame
  have cc : u.cc = (s.confirming t).cc := State.offer_cc _ _ _
  have se : u.se = (s.confirming t).se := State.offer_se _ _ _
  have launched : Launched u u.launch e :=
    State.launch_launched (by rw [cc, claim']) (by rw [State.consistN, cc, confirming.cc]; exact many)
  have walked : s.confirmWalk n reason = u.launch.walkEnded := by
    rw [State.confirmWalk_eq, table]
    dsimp only
    rw [if_pos (show 1 < t.entries.length from many), State.offerRear_of_claim claim']
  have next : u.nextNumber = 0 := by
    rw [State.nextNumber, se, confirming.se]
    rfl
  have frame : u.launchFrame = (s.confirming t).launchFrame := by
    exact State.launchFrame_congr ⟨cc, se, State.offer_dcu _ _ _, State.offer_ha _ _ _⟩ fun p => State.offer_degradedPair _ _ _ p
  rw [walked, State.walkEnded_eq (by rw [launched.cc, cc, claim']; rfl)]
  refine ⟨?_, ?_, ?_, ?_, ?_, ?_, ?_, ?_⟩
  · rw [State.modCc_cc, launched.cc, cc, confirming.cc]
  · rw [State.modCc_se, launched.se, next, se, confirming.se]
    rfl
  · rw [State.modCc_ha, launched.ha, State.offer_ha, confirming.ha]
    rfl
  · rw [State.modCc_dcu, launched.dcu, State.offer_dcu, confirming.dcu]
  · exact (confirming.system.trans (by simp [u, sameSystem])).trans launched.system
  · exact (congrArg HostLink.still (launched.hl.trans (State.offer_hl _ _ _))).trans confirming.host
  · intro masked
    exact told_of_hl (launched.hl.trans (State.offer_hl _ _ _)) (confirming.tells masked)
  · have ports := launched.ports
    rw [frame] at ports
    exact (samePorts_offer (samePorts_offer confirming.ports _ _) _ _).trans ports

end Sys2Proof.Machine
end

section
/-! A TAIL at a walking leader, and the walk timer of its second attempt (05 R91 to R93; 06 R103, R105; 08 R151). -/

namespace Sys2Proof.Machine

/-! ### The table of the held records -/

theorem cutDuplicates_of_nodup {seen : List Serial} {l : List Entry} (once : (l.map Entry.serial).Nodup)
    (new : ∀ e ∈ l, e.serial ∉ seen) : cutDuplicates seen l = l := by
  induction l generalizing seen with
  | nil => rfl
  | cons e rest ih =>
    obtain ⟨fresh, once⟩ := List.nodup_cons.mp once
    rw [cutDuplicates, if_neg (new e List.mem_cons_self), ih once fun e' mem => ?_]
    intro seen'
    rcases List.mem_cons.mp seen' with same | seen'
    · exact fresh (List.mem_map.mpr ⟨e', mem, same⟩)
    · exact new e' (List.mem_cons_of_mem _ mem) seen'

theorem length_heldEntries {s : State} {n : Nat} (held : heldUpTo s.cc.records n = true) : (heldEntries s n).length = n := by
  simpa [heldEntries] using congrArg List.length (positions_of_heldUpTo held)

/-- The table of a walk whose records are all held and name no serial twice (05 R93). -/
theorem confirmedTable_of_held {s : State} {n : Nat} (held : heldUpTo s.cc.records n = true)
    (once : ((heldEntries s n).map Entry.serial).Nodup) (reason : Reason) :
    confirmedTable s.cc.records s.cc.gen n reason = { gen := s.cc.gen, reason, entries := heldEntries s n } := by
  have entries : confirmedEntries s.cc.records n = heldEntries s n := cutDuplicates_of_nodup once fun _ _ => by simp
  rw [confirmedTable, entries, if_neg fun short => ?_]
  rw [length_heldEntries held] at short
  exact Nat.lt_irrefl _ short.1

theorem heldPrefix_eq {records : List Entry} {k : Nat} (most : k ≤ 32) (held : heldUpTo records k = true)
    (ends : k = 32 ∨ recordAt records (k + 1) = none) : heldPrefix records = k := by
  have split : List.range 32 = List.range k ++ (List.range (32 - k)).map (k + ·) := by
    rw [← List.range_add, Nat.add_sub_cancel' most]
  have stops : ((List.range (32 - k)).map (k + ·)).takeWhile (fun i => (recordAt records (i + 1)).isSome) = [] := by
    rcases ends with rfl | ends
    · rfl
    · cases rest : 32 - k with
      | zero => rfl
      | succ m => simp [List.range_succ_eq_map, ends]
  have first : ∀ i ∈ List.range k, (recordAt records (i + 1)).isSome = true := fun i mem =>
    (heldUpTo_iff _ _).mp held i (List.mem_range.mp mem)
  rw [heldPrefix, split, List.takeWhile_append_of_pos first, stops]
  simp

/-! ### Deliveries -/

theorem SameStart.refl (s : State) : SameStart s s := ⟨⟨rfl, rfl, rfl, rfl⟩, ⟨rfl, rfl⟩, rfl⟩

/-- A message that starts to the host keeps the node and the system. -/
theorem Kept.hostKick (t : State) : Kept t t.hostKick :=
  ⟨sameNode_hostKick t, sameSystem_hostKick t, sameHost_hostKick rfl, fun _ => told_hostKick⟩

section
variable {s d h t : State}

theorem walkConfirmed_delivered {n : Nat} {reason : Reason} (at_ : SameStart s d) (kept : Kept h t)
    (walk : walkConfirmed d h n reason) : walkConfirmed s t n reason := by
  obtain ⟨cc, se, ha, dcu, tells, system, host⟩ := walk
  obtain ⟨cc', se', dcu', ha'⟩ := at_.node
  have entries : heldEntries d n = heldEntries s n := by rw [heldEntries, cc', heldEntries]
  refine ⟨?_, ?_, ?_, ?_, told_delivered at_ kept tells, sameSystem_delivered at_ kept system,
    sameHost_delivered at_ kept host⟩
  · rw [kept.node.1, cc, cc', entries]
  · rw [kept.node.2.1, ← se']
    exact se
  · rw [kept.node.2.2.2, ha, ha']
  · rw [kept.node.2.2.1, dcu, dcu']

theorem attemptStarted_delivered {which : WalkState} (at_ : SameStart s d) (kept : Kept h t) (attempt : attemptStarted d h which) :
    attemptStarted s t which := by
  obtain ⟨cc, seen, gap, sent, door, grant, left, settings, system, host⟩ := attempt
  refine ⟨?_, ?_, ?_, ?_, ?_, ?_, leftOperational_delivered at_ kept left, sameSettings_delivered at_ kept settings,
    sameSystem_delivered at_ kept system, sameHost_delivered at_ kept host⟩
  · rw [kept.node.1, cc, at_.node.1, at_.system.1]
  · rw [kept.node.2.1, seen]
  · rw [kept.node.2.1, gap]
  · rw [kept.node.2.1, sent]
  · rw [kept.node.2.2.1, door]
  · rw [kept.node.2.2.2, grant]

end

theorem WalkConfirmed.walkConfirmed {s u : State} {e : PortId} {n : Nat} {reason : Reason}
    (h : WalkConfirmed s u e { gen := s.cc.gen, reason, entries := heldEntries s n }) : walkConfirmed s u n reason :=
  ⟨h.cc, h.se, h.ha, h.dcu, h.tells, h.system, h.host⟩

theorem DeliveredTo.degradedPair {s d : State} {p : PortId} {seq : Nat} (at_ : DeliveredTo s d p seq) (x : PortId) :
    (d.cp x).degradedPair = (s.cp x).degradedPair := by
  by_cases here : x = p
  · rw [here, at_.degraded]
  · rw [eq_other_of_ne here]
    exact congrArg (fun y : Port => y.cp.degradedPair) at_.other

/-! ### The first SWEEP -/

/-- The first SWEEP of a leader that has sent no element yet carries its record in full (06 R105, R112). -/
theorem State.launchFrame_first {s : State} (fresh : s.se.lastLaunched = none) (plain : s.se.refresh = false)
    (unseen : s.se.lastSeen = none) (unsent : s.se.lastSent = none) :
    s.launchFrame = { gen := s.cc.gen, body := .sweep 0 0 s.consistN s.buildRecord.bytes } := by
  have next : s.nextNumber = 0 := by rw [State.nextNumber, fresh, expectedNumber]
  have record : s.sweptRecord 0 = s.buildRecord := by
    simp [State.sweptRecord, unseen, State.buildRecord]
  have own : s.leadElement = .full s.buildRecord := by
    rw [State.leadElement, next, record, State.sweptElement, State.sendsNil, unsent, plain]
    rfl
  rw [State.launchFrame, next, own, plain]
  simp [flagCode, listBytes, Element.bytes]

/-- A node's record by its place, doors and heat level, its gap and its ports. -/
theorem State.buildRecord_of_blocks {s t : State} (position : t.cc.position = s.cc.position)
    (orientation : t.cc.orientation = s.cc.orientation) (node : t.cc.node = s.cc.node) (coach : t.cc.coach = s.cc.coach)
    (dcu : t.dcu = s.dcu) (level : t.ha.level = s.ha.level) :
    t.buildRecord = { s.buildRecord with gap := t.se.gap, degraded := t.port1.cp.degradedPair || t.port2.cp.degradedPair } := by
  have open_ : t.leafOpen = s.leafOpen := by
    funext i
    simp only [State.leafOpen, coach, dcu]
  have isolated : t.leafIsolated = s.leafIsolated := by
    funext i
    simp only [State.leafIsolated, coach, dcu]
  simp only [State.buildRecord, State.leftIsSide2, State.localClosed, State.anyLeafOpen, State.nodeDemand, open_, isolated,
    position, orientation, node, dcu, level]
  rfl

/-- A delivered frame that confirms the walk, and what its leader then sends (05 R93, 06 R105). -/
theorem completes_confirmWalk {s : State} {p : PortId} {q : PairId} {seq n : Nat} {reason : Reason} {f : Frame}
    (now : deliversNow s p q seq) (classed : f.body.cls.isSome = true) (claim : s.cc.claim = some (other p))
    (held : heldUpTo s.cc.records n = true) (once : ((heldEntries s n).map Entry.serial).Nodup) (many : 2 ≤ n)
    (block : ∀ d, DeliveredTo s d p seq → d.handOn p f = d.confirmWalk n reason) :
    let t0 : Table := { gen := s.cc.gen, reason, entries := heldEntries s n }
    completes (exec (f.command p q seq) s) fun t => walkConfirmed s t n reason ∧
      portsBut ((s.offer p t0.confirmFrame).offer p (s.confirming t0).launchFrame) t p := by
  intro t0
  refine completes_handled now classed
    ((PortOp.offer p p t0.confirmFrame).comp (PortOp.offer p p (s.confirming t0).launchFrame)) fun d at_ => ?_
  have entries : heldEntries d n = heldEntries s n := by rw [heldEntries, at_.node.1, heldEntries]
  have table : confirmedTable d.cc.records d.cc.gen n reason = t0 := by
    rw [confirmedTable_of_held (by rwa [at_.node.1]) (by rwa [entries]), entries, at_.node.1]
  have length : t0.entries.length = n := length_heldEntries held
  have walk : WalkConfirmed d (d.confirmWalk n reason) (other p) t0 :=
    State.confirmWalk_confirmed (by rw [at_.node.1, claim]) n reason table (by rwa [length])
  have frame : (d.confirming t0).launchFrame = (s.confirming t0).launchFrame := by
    have after := State.confirming_confirming (s := s) (by rw [claim]; rfl) t0
    have after' := State.confirming_confirming (s := d) (by rw [at_.node.1, claim]; rfl) t0
    refine State.launchFrame_congr ⟨?_, ?_, ?_, ?_⟩ fun x => at_.degradedPair x
    · rw [after.cc, after'.cc, at_.node.1]
    · rw [after.se, after'.se, at_.node.2.1]
    · rw [after.dcu, after'.dcu, at_.node.2.2.1]
    · rw [after.ha, after'.ha, at_.node.2.2.2]
  have ports := walk.ports
  rw [other_other, frame] at ports
  rw [block d at_]
  refine ⟨ports, fun t same kept => ⟨walkConfirmed_delivered at_.start kept ?_, same⟩⟩
  refine WalkConfirmed.walkConfirmed (e := other p) ?_
  rwa [entries, at_.node.1]

/-- Settles O32: a TAIL with its records held, with OVERLENGTH, with a record missing, out of range, and the walk timer. -/
theorem tailConfirmsTheWalk : Obligations.TailConfirmsTheWalk := by
  intro s p q seq flags last k serial now claim walking unseen noGap
  have block (d : State) (at_ : DeliveredTo s d p seq) : d.handOn p { gen := s.cc.gen, body := .tail flags last serial } =
      if overlengthBit flags then if heldUpTo s.cc.records 32 then d.confirmWalk 32 .overlength else d.attemptFails
      else if last ≤ 1 ∨ 32 < last then d.countMalformed p
      else if heldUpTo s.cc.records last then d.confirmWalk last .none
      else d.attemptFails := by
    change d.frontward p _ (fun u => u.ccTail p s.cc.gen (overlengthBit flags) last) = _
    rw [State.frontward_consumed (by rw [at_.node.1, claim]), State.ccTail, at_.node.1, if_neg (by simp), walking, if_neg (by simp)]
  refine ⟨fun plain least most held once unsent => ?_, fun long held once unsent => ?_,
    fun plain least most missing first present => ?_, fun plain bad => ?_, fun second free due least most held ends once unsent => ?_⟩
  · obtain ⟨t, run, walk, ports⟩ := completes_confirmWalk (f := { gen := s.cc.gen, body := .tail flags last serial }) now rfl claim
      held once least (reason := .none) fun d at_ => by
        rw [block d at_, if_neg (by simp [overlengthBit, plain]), if_neg (by omega), if_pos held]
    refine ⟨t, run, walk, ?_⟩
    obtain ⟨cc, se, ha, dcu, -⟩ := walk
    let t0 : Table := { gen := s.cc.gen, reason := .none, entries := heldEntries s last }
    have after := State.confirming_confirming (s := s) (by rw [claim]; rfl) t0
    have length : t0.entries.length = last := length_heldEntries held
    have confirm : t0.confirmFrame =
        { gen := s.cc.gen, body := .confirm last 0 ((heldEntries s last).map plainEntry) } := by
      rw [Table.confirmFrame, length]
      rfl
    have gap : t.se.gap = (s.confirming t0).se.gap := by
      rw [se, after.se]
      exact noGap.symm
    have record : { t.buildRecord with degraded := s.port1.cp.degradedPair || s.port2.cp.degradedPair } =
        (s.confirming t0).buildRecord := by
      rw [State.buildRecord_of_blocks (s := s.confirming t0) (by rw [cc, after.cc]) (by rw [cc, after.cc]) (by rw [cc, after.cc])
        (by rw [cc, after.cc]) (by rw [dcu, after.dcu]) (by rw [ha, after.ha]; rfl), gap]
      rfl
    have launch : (s.confirming t0).launchFrame =
        { gen := s.cc.gen, body := .sweep 0 0 last
            { t.buildRecord with degraded := s.port1.cp.degradedPair || s.port2.cp.degradedPair }.bytes } := by
      rw [State.launchFrame_first (by rw [after.se]; rfl) (by rw [after.se]; rfl) (by rw [after.se]; exact unseen)
        (by rw [after.se]; exact unsent), record, State.consistN, after.cc]
      dsimp only
      rw [length]
    rwa [confirm, launch] at ports
  · obtain ⟨t, run, walk, -⟩ := completes_confirmWalk (f := { gen := s.cc.gen, body := .tail flags last serial }) now rfl claim
      held once (by decide) (reason := .overlength) fun d at_ => by
        rw [block d at_, if_pos (by simp [overlengthBit, long]), if_pos held]
    exact ⟨t, run, walk⟩
  · refine completes_handled (f := { gen := s.cc.gen, body := .tail flags last serial }) now rfl
      (PortOp.offer p p { gen := s.cc.gen % 255 + 1, body := .walk s.sys.serial 2 }) fun d at_ => ?_
    have attempt := State.startAttempt_of_present (s := d) (e := other p) (by rw [at_.node.1, claim])
      (by rw [other_other, at_.hasNeighbour, present]) .walkSecond
    rw [other_other, at_.node.1, at_.system.1] at attempt
    obtain ⟨started, ports⟩ := attempt
    have fails : d.handOn p { gen := s.cc.gen, body := .tail flags last serial } = d.startAttempt .walkSecond := by
      rw [block d at_, if_neg (by simp [overlengthBit, plain]), if_neg (by omega), if_neg (by simp [missing]), State.attemptFails,
        at_.node.1, first]
    rw [fails]
    exact ⟨ports, fun t same kept => ⟨attemptStarted_delivered at_.start kept started, same⟩⟩
  · refine completes_atPorts (f := { gen := s.cc.gen, body := .tail flags last serial }) now rfl (PortOp.modLr p _) fun d at_ => ?_
    rw [block d at_, if_neg (by simp [overlengthBit, plain]), if_pos bad]
    rfl
  · have ticks : s.ticking = true := by rw [State.ticking, free, now.1]; rfl
    let u := s.modCc fun c => { c with walkTimer := none }
    have table := confirmedTable_of_held (s := u) held once .timeout
    have walk := State.confirmWalk_confirmed (s := u) claim k .timeout table (least.trans (length_heldEntries (s := u) held).ge)
    have fails : u.attemptFails = u.confirmWalk k .timeout := by
      rw [State.attemptFails, show u.cc.walk = .walkSecond from second, show u.cc.records = s.cc.records from rfl,
        heldPrefix_eq most held ends]
    change completes (if s.expires s.cc.walkTimer 500 then u.attemptFails else s).done _
    rw [if_pos ((s.expires_iff _ _).mpr ⟨ticks, due⟩), fails]
    exact completes_done (walkConfirmed_delivered (.refl s) (.hostKick _) walk.walkConfirmed)

end Sys2Proof.Machine
end

section
/-! A completed sweep (06 R116, 07 R142, 08 R154, R158, 05 R98). -/

namespace Sys2Proof.Machine

/-! ### A GRANT issued -/

/-- The GRANT of a leader's grants (08 R158). -/
def State.grantFrame (s : State) (cause : GrantCause) (number : Option Nat) : Frame :=
  { gen := s.cc.gen,
    body := .grant (grantCauseCode cause) (number.getD 0xFF) s.consistN (s.ha.grants.take s.consistN) }

/-- What a GRANT that its leader issues leaves: its own entry taken, and the GRANT sent rearward where the consist has two nodes
or more. -/
structure Issued (s u : State) (e : PortId) (cause : GrantCause) (number : Option Nat) : Prop where
  cc : u.cc = s.cc
  se : u.se = s.se
  dcu : u.dcu = s.dcu
  ha : u.ha = { s.ha with
    lastIssued := some (cause, number), held := s.ha.grants.getD 0 0, watchdog := some 0,
    lastTaken := some { gen := s.cc.gen, cause, number } }
  system : sameSystem s u
  host : sameHost s u
  tells : ∀ k, told s k → told u k
  ports : samePorts (if 2 ≤ s.consistN then s.offer (other e) (s.grantFrame cause number) else s) u

theorem State.issueGrant_eq (s : State) (cause : GrantCause) (number : Option Nat) :
    s.issueGrant cause number =
      let u := (s.modHa fun h => { h with lastIssued := some (cause, number) }).takeGrant (at1 s.ha.grants 1) s.cc.gen cause number
      if 2 ≤ s.consistN then u.offerRear (s.grantFrame cause number) else u := rfl

theorem State.issueGrant_issued {s : State} {e : PortId} (one : 2 ≤ s.consistN → s.cc.claim = some e) (cause : GrantCause)
    (number : Option Nat) : Issued s (s.issueGrant cause number) e cause number := by
  have taken := (s.modHa fun h => { h with lastIssued := some (cause, number) }).takeGrant_rest (at1 s.ha.grants 1) s.cc.gen
    cause number
  have keeps : ∀ k, told s k →
      told ((s.modHa fun h => { h with lastIssued := some (cause, number) }).takeGrant (at1 s.ha.grants 1) s.cc.gen cause number) k :=
    fun k h => told_raiseIf _ _ h
  rw [State.issueGrant_eq]
  dsimp only
  generalize State.takeGrant _ _ _ _ _ = u at taken keeps ⊢
  obtain ⟨system, ports, cc, se, dcu, ha, host⟩ := taken
  split
  · next many =>
    rw [State.offerRear_of_claim (s := u) (e := e) (by rw [cc]; exact one many)]
    exact ⟨by simp [cc], by simp [se], by simp [dcu], by rw [State.offer_ha, ha]; rfl, system.trans (by simp [sameSystem]),
      (congrArg HostLink.still (State.offer_hl _ _ _)).trans host, fun k h => told_of_hl (State.offer_hl _ _ _) (keeps k h),
      by rw [if_pos many]; exact samePorts_offer (u := s) ports _ _⟩
  · next few => exact ⟨cc, se, dcu, by rw [ha]; rfl, system, host, keeps, by rw [if_neg few]; exact ports⟩

/-! ### The sweep's tables -/

/-- TRAIN-CLOSED is told of as it changes (07 R142). -/
theorem State.told_setTrainClosed {s : State} {v : Bool} (changes : v ≠ s.dcu.trainClosed)
    (masked : s.hl.masked .closed = true) : told (s.setTrainClosed v) .closed := by
  have raises : (s.dcu.trainClosed != v) = true := by simpa using changes.symm
  rw [State.setTrainClosed, raises]
  exact told_raise_self (s := s.modDcu _) masked

/-- The cause of a completed sweep's GRANT (08 R154, R158). -/
def State.sweepCause (s : State) : GrantCause := if s.ha.barred then .held else .allocation

/-- The grants after a completed sweep that found a demand at each position (08 R154). -/
def State.sweepGrants (s : State) (demand : List Nat) : List Nat :=
  if s.ha.barred then List.replicate 32 0
  else grantTable (fullRun (s.ha.grants.take s.consistN) (demand.take s.consistN) s.powers s.ha.rotation s.ha.capacity s.ha.ramp)

/-- The rotation start after a completed sweep (08 R157). -/
def State.sweepRotation (s : State) : Nat :=
  if s.ha.barred then s.ha.rotation else if s.ha.rotation < s.consistN then s.ha.rotation + 1 else 1

/-- What a completed sweep makes of the tables, the doors and the grants, before its GRANT (06 R116, 07 R142, 08 R154). -/
structure Tabled (s u : State) (number : Nat) (records : List Record) : Prop where
  cc : u.cc = s.cc
  se : u.se = s.se.completed s.cc.gen number s.sys.freeCount records
  dcu : u.dcu = { s.dcu with
    trainClosed := (records.all fun r => r.operational && r.closed && !r.relLeft && !r.relRight) &&
      !s.dcu.releaseInFlight && !s.dcu.fence,
    fence := false }
  ha : u.ha = { s.ha with grants := s.sweepGrants u.se.demand, rotation := s.sweepRotation }
  sys : u.sys = { s.sys with freeCount := s.sys.freeCount + 1 }
  pending : u.pending = s.pending
  ports : samePorts s u
  host : sameHost s u
  tells : ∀ k, told s k → told u k
  closed : u.dcu.trainClosed ≠ s.dcu.trainClosed → s.hl.masked .closed = true → told u .closed

/-- A completed sweep before its allocation run (06 R116, 07 R142). -/
def State.summed (s : State) (number : Nat) (records : List Record) : State :=
  { s with
      se := s.se.completed s.cc.gen number s.sys.freeCount records,
      sys := { s.sys with freeCount := s.sys.freeCount + 1 } }.decideTrainClosed (records.map Record.summaryFlags)

theorem State.allocated_eq (s : State) :
    s.allocated = s.modHa fun h => { h with
      grants := if s.ha.barred then List.replicate 32 0 else s.fullResult,
      rotation := if s.ha.barred then s.ha.rotation else nextRotation s.ha.rotation s.consistN } := by
  unfold State.allocated
  cases s.ha.barred <;> rfl

theorem State.tabled_tabled (s : State) (number : Nat) (records : List Record) : Tabled s (s.tabled number records) number records := by
  have proven : (records.map Record.summaryFlags).all SummaryFlags.proven =
      records.all fun r => r.operational && r.closed && !r.relLeft && !r.relRight := List.all_map ..
  have summed : s.tabled number records = (s.summed number records).allocated := rfl
  have cc : (s.summed number records).cc = s.cc := State.decideTrainClosed_cc _ _
  have se : (s.summed number records).se = s.se.completed s.cc.gen number s.sys.freeCount records := State.decideTrainClosed_se _ _
  have ha : (s.summed number records).ha = s.ha := State.decideTrainClosed_ha _ _
  have powers : (s.summed number records).powers = s.powers := by rw [State.powers, cc, State.powers]
  have consistN : (s.summed number records).consistN = s.consistN := by rw [State.consistN, cc, State.consistN]
  rw [summed, State.allocated_eq]
  refine ⟨cc, se, ?_, ?_, ?_, ?_, ?_, ?_, ?_, ?_⟩
  · simp only [State.modHa_dcu, State.summed, State.decideTrainClosed, State.modDcu_dcu, State.setTrainClosed, State.raiseIf_dcu,
      proven]
  · rw [State.modHa_ha, State.modHa_se, ha, State.fullResult, ha, powers, consistN]
    rfl
  · exact State.decideTrainClosed_sys _ _
  · exact State.decideTrainClosed_pending _ _
  · exact samePorts_of_port fun x => State.decideTrainClosed_port _ _ x
  · exact State.setTrainClosed_still _ _
  · exact fun k h => told_raiseIf _ _ h
  · intro changes masked
    refine told_of_hl rfl (State.told_setTrainClosed (s := { s with
      se := s.se.completed s.cc.gen number s.sys.freeCount records,
      sys := { s.sys with freeCount := s.sys.freeCount + 1 } }) ?_ masked)
    simpa [State.summed, State.decideTrainClosed, State.setTrainClosed] using changes

/-! ### The sweep completed -/

theorem State.checkConfirm_eq {s : State} (claim : s.cc.claim.isSome = true) (flags : List SummaryFlags) :
    s.checkConfirm flags = s.modCc fun c =>
      if c.confirmCheck = true ∧ (flags.drop 1).any (fun f => !f.operational) = true ∧ c.walk = .idle then
        { c with confirmCheck := false, walk := .settling, settleTimer := some 0 }
      else { c with confirmCheck := false } := by
  unfold State.checkConfirm
  generalize (flags.drop 1).any (fun f => !f.operational) = failed
  cases checks : s.cc.confirmCheck
  · have same : ({ s.cc with confirmCheck := false } : Consist) = s.cc := by rw [← checks]
    simp [State.modCc, checks, same]
  · cases failed
    · simp [State.modCc]
    · by_cases idle : s.cc.walk = .idle <;> simp [State.walkTrigger, State.modCc, claim, checks, idle]

/-- What a completed sweep leaves of its leader (06 R116, 07 R142, 08 R154, R158, 05 R98). -/
structure Completed (s u : State) (e : PortId) (number : Nat) (records : List Record) : Prop where
  cc : u.cc =
    if s.cc.confirmCheck = true ∧ (records.drop 1).any (fun r => !r.operational) = true ∧ s.cc.walk = .idle then
      { s.cc with confirmCheck := false, walk := .settling, settleTimer := some 0 }
    else { s.cc with confirmCheck := false }
  se : u.se = s.se.completed s.cc.gen number s.sys.freeCount records
  dcu : u.dcu = { s.dcu with
    trainClosed := (records.all fun r => r.operational && r.closed && !r.relLeft && !r.relRight) &&
      !s.dcu.releaseInFlight && !s.dcu.fence,
    fence := false }
  ha : u.ha = { s.ha with
    grants := s.sweepGrants u.se.demand, rotation := s.sweepRotation, held := (s.sweepGrants u.se.demand).getD 0 0,
    watchdog := some 0, lastIssued := some (s.sweepCause, some number),
    lastTaken := some { gen := s.cc.gen, cause := s.sweepCause, number := some number } }
  sys : u.sys = { s.sys with freeCount := s.sys.freeCount + 1 }
  pending : u.pending = s.pending
  host : sameHost s u
  tells : ∀ k, told s k → told u k
  closed : u.dcu.trainClosed ≠ s.dcu.trainClosed → s.hl.masked .closed = true → told u .closed
  ports : samePorts (if 2 ≤ s.consistN then
    s.offer (other e)
      { gen := s.cc.gen,
        body := .grant (grantCauseCode s.sweepCause) number s.consistN ((s.sweepGrants u.se.demand).take s.consistN) }
    else s) u

theorem State.completeCore_completed {s : State} {e : PortId} (claim : s.cc.claim = some e) (number : Nat) (records : List Record) :
    Completed s (s.completeCore number records) e number records := by
  have tabled := s.tabled_tabled number records
  have issued := State.issueGrant_issued (s := s.tabled number records) (e := e) (fun _ => by rw [tabled.cc, claim])
    s.sweepCause (some number)
  have core : s.completeCore number records =
      ((s.tabled number records).issueGrant s.sweepCause (some number)).checkConfirm (records.map Record.summaryFlags) :=
    State.completeCore_eq s number records
  rw [core]
  generalize State.issueGrant _ _ _ = v at issued
  generalize s.tabled number records = w at tabled issued
  have cc : v.cc = s.cc := issued.cc.trans tabled.cc
  have demand : v.se.demand = w.se.demand := congrArg SweepState.demand issued.se
  have consistN : w.consistN = s.consistN := by rw [State.consistN, tabled.cc, State.consistN]
  have frame : w.grantFrame s.sweepCause (some number) =
      { gen := s.cc.gen,
        body := .grant (grantCauseCode s.sweepCause) number s.consistN ((s.sweepGrants w.se.demand).take s.consistN) } := by
    rw [State.grantFrame, tabled.cc, consistN, tabled.ha]
    rfl
  have flags : ((records.map Record.summaryFlags).drop 1).any (fun f => !f.operational) =
      (records.drop 1).any (fun r => !r.operational) := by
    rw [← List.map_drop, List.any_map]
    rfl
  rw [State.checkConfirm_eq (by rw [cc, claim]; rfl), flags]
  refine ⟨?_, ?_, ?_, ?_, ?_, ?_, ?_, ?_, ?_, ?_⟩
  · rw [State.modCc_cc, cc]
  · rw [State.modCc_se, issued.se, tabled.se]
  · rw [State.modCc_dcu, issued.dcu, tabled.dcu]
  · rw [State.modCc_ha, issued.ha, State.modCc_se, demand, tabled.ha, tabled.cc]
  · exact issued.system.1.trans tabled.sys
  · exact issued.system.2.trans tabled.pending
  · exact issued.host.trans tabled.host
  · exact fun k h => issued.tells k (tabled.tells k h)
  · intro changes masked
    rw [State.modCc_dcu, issued.dcu] at changes
    exact issued.tells _ (tabled.closed changes masked)
  · have ports := issued.ports
    rw [consistN, frame] at ports
    rw [State.modCc_se, demand]
    refine samePorts.trans (samePorts.trans ?_ ports) (samePorts_modCc v _)
    split
    · exact samePorts_offer tabled.ports _ _
    · exact tabled.ports

end Sys2Proof.Machine
end

section
/-! What covers a consist, a RETURN that completes its sweep, and a lost sweep (06 R114 to R118, 07 R142, R143). -/

namespace Sys2Proof.Machine

/-! ### Coverage (06 R115) -/

theorem map_some_filterMap_id {l : List (Option Record)} (all : l.all Option.isSome = true) : (l.filterMap id).map some = l := by
  induction l with
  | nil => rfl
  | cons x l ih =>
    cases x with
    | none => simp at all
    | some r =>
      have rest : l.all Option.isSome = true := by simpa using all
      exact congrArg (some r :: ·) (ih rest)

theorem heldRun_iff (held : List (Option Record)) (p k : Nat) (part : List Record) :
    heldRun held p k = some part ↔ part.length = k ∧ part.map some = (held.drop (p - 1)).take k := by
  unfold heldRun
  dsimp only
  generalize (held.drop (p - 1)).take k = l
  split
  · next full =>
    obtain ⟨length, all⟩ := full
    rw [Option.some.injEq]
    refine ⟨?_, fun ⟨_, same⟩ => by simp [← same]⟩
    rintro rfl
    exact ⟨by rw [← length, ← congrArg List.length (map_some_filterMap_id all), List.length_map], map_some_filterMap_id all⟩
  · next short =>
    refine ⟨fun h => by simp at h, fun ⟨length, same⟩ => absurd ⟨?_, ?_⟩ short⟩
    · rw [← same, List.length_map, length]
    · simp [← same]

/-- One element covers its records, and the rest of the list what follows them. -/
theorem coverFrom_cons_iff (held : List (Option Record)) (n p : Nat) (x : Element) (l : List Element) (records : List Record) :
    coverFrom held n p (x :: l) = some records ↔ ∃ part rest, records = part ++ rest ∧ elementStands held p x part ∧
      p + part.length ≤ n + 1 ∧ coverFrom held n (p + part.length) l = some rest := by
  cases x with
  | full r =>
    simp only [coverFrom, elementStands, Option.ite_none_right_eq_some, Option.map_eq_some_iff]
    constructor
    · rintro ⟨⟨position, within⟩, rest, covers, rfl⟩
      exact ⟨[r], rest, rfl, ⟨rfl, position⟩, Nat.succ_le_succ within, covers⟩
    · rintro ⟨part, rest, rfl, ⟨rfl, position⟩, within, covers⟩
      exact ⟨⟨position, Nat.le_of_succ_le_succ within⟩, rest, covers, rfl⟩
  | nil =>
    simp only [coverFrom, elementStands, ← heldRun_iff]
    cases run : heldRun held p 1 with
    | none => simp
    | some rs =>
      have length := heldRun_length run
      simp only [Option.ite_none_right_eq_some, Option.map_eq_some_iff, Option.some.injEq]
      constructor
      · rintro ⟨within, rest, covers, rfl⟩
        exact ⟨rs, rest, rfl, rfl, by omega, by rwa [length]⟩
      · rintro ⟨part, rest, rfl, rfl, within, covers⟩
        exact ⟨by omega, rest, by rwa [← length], rfl⟩
  | nilRun k =>
    simp only [coverFrom, elementStands, ← heldRun_iff]
    cases run : heldRun held p k with
    | none => simp
    | some rs =>
      have length := heldRun_length run
      simp only [Option.ite_none_right_eq_some, Option.map_eq_some_iff, Option.some.injEq]
      constructor
      · rintro ⟨⟨least, most, within⟩, rest, covers, rfl⟩
        exact ⟨rs, rest, rfl, ⟨least, most, rfl⟩, by omega, by rwa [length]⟩
      · rintro ⟨part, rest, rfl, ⟨least, most, rfl⟩, within, covers⟩
        exact ⟨⟨least, most, by omega⟩, rest, by rwa [← length], rfl⟩

theorem coverFrom_iff (held : List (Option Record)) (n p : Nat) (l : List Element) (records : List Record) :
    coverFrom held n p l = some records ↔ p + records.length = n + 1 ∧ listStands held p l records := by
  induction l generalizing p records with
  | nil =>
    simp only [coverFrom, listStands, Option.ite_none_right_eq_some, Option.some.injEq]
    constructor
    · rintro ⟨ends, rfl⟩
      exact ⟨ends, rfl⟩
    · rintro ⟨ends, rfl⟩
      exact ⟨ends, rfl⟩
  | cons x l ih =>
    rw [coverFrom_cons_iff, listStands]
    constructor
    · rintro ⟨part, rest, rfl, stands, within, covers⟩
      obtain ⟨ends, follows⟩ := (ih _ _).mp covers
      exact ⟨by rw [List.length_append]; omega, part, rest, rfl, stands, follows⟩
    · rintro ⟨ends, part, rest, rfl, stands, follows⟩
      rw [List.length_append] at ends
      exact ⟨part, rest, rfl, stands, by omega, (ih _ _).mpr ⟨by omega, follows⟩⟩

/-- What a RETURN must hold to complete its sweep (06 R115). -/
theorem State.covered_iff (s : State) (n : Nat) (list : List Nat) (records : List Record) :
    s.covered n list = some records ↔ n = s.consistN ∧ records.length = n ∧
      ∃ l, decodeList list = some l ∧ listStands s.se.lastFull 1 l records := by
  unfold State.covered
  cases decodeList list with
  | none => simp
  | some l =>
    simp only [Option.ite_none_right_eq_some, coverFrom_iff, Option.some.injEq, exists_eq_left']
    refine and_congr_right fun _ => and_congr_left fun _ => ?_
    omega

/-! ### A RETURN at the leader -/

theorem State.handOn_return {gen number flags n : Nat} {list : List Nat} (some_ : list ≠ []) (most : list.length ≤ 192)
    {s : State} {p : PortId} (claim : s.cc.claim = some (other p)) :
    s.handOn p { gen, body := .ret number flags n list } = s.seReturn p gen number n list := by
  have least : 1 ≤ list.length := List.length_pos_iff.mpr some_
  have routable : Body.routable (.ret number flags n list) = true := by simp [Body.routable, Body.lengthOk, least, most]
  rw [State.handOn_of_routable routable, State.route, if_neg (by simp [routable])]
  exact State.frontward_consumed claim _ _

theorem State.covered_congr {s d : State} (node : sameNode s d) (n : Nat) (list : List Nat) :
    d.covered n list = s.covered n list := by
  rw [State.covered, State.consistN, node.1, node.2.1, State.covered, State.consistN]

theorem takenDemand_of_le {count : Nat} {r : Record} (inRange : r.demand ≤ 7) :
    takenDemand count r = if r.operational then r.demand else 0 := by
  rw [takenDemand, if_pos inRange]

/-- Settles O38: what covers, the completed sweep, and the RETURN of another sweep or generation. -/
theorem returnCompletesTheSweep : Obligations.ReturnCompletesTheSweep := by
  intro s p q seq gen number flags n list records now claim some_ most
  have block (d : State) (at_ : DeliveredTo s d p seq) : d.handOn p { gen, body := .ret number flags n list } =
      d.seReturn p gen number n list :=
    State.handOn_return some_ most (by rw [at_.node.1, claim])
  refine ⟨s.covered_iff n list records, fun current op out many covers due => ?_, fun r _ inRange => takenDemand_of_le inRange,
    fun current other_ => ?_, fun stale => ?_⟩
  · let demand := (s.se.completed gen number s.sys.freeCount records).demand
    refine completes_handled (f := { gen, body := .ret number flags n list }) now rfl
      (PortOp.offer p p
        { gen, body := .grant (grantCauseCode s.sweepCause) number s.consistN ((s.sweepGrants demand).take s.consistN) })
      fun d at_ => ?_
    have completed := State.completeCore_completed (s := d) (e := other p) (by rw [at_.node.1, claim]) number records
    have handled : d.handOn p { gen, body := .ret number flags n list } = d.completeCore number records := by
      rw [block d at_, State.seReturn, if_neg (by rw [at_.node.1]; simp [current]),
        if_neg (by rw [at_.node.1, at_.node.2.1]; simp [op, out]), State.covered_congr at_.node, covers]
      have stays : (d.completeCore number records).se.launchDue = false := by
        rw [completed.se, at_.node.2.1]
        exact due
      dsimp only
      rw [State.completeSweep, State.relaunchIfDue, if_neg (by simp [stays])]
    rw [handled]
    generalize d.completeCore number records = u at completed
    have se : u.se = s.se.completed gen number s.sys.freeCount records := by
      rw [completed.se, at_.node.1, at_.node.2.1, at_.system.1, current]
    have cause : d.sweepCause = s.sweepCause := by rw [State.sweepCause, at_.node.2.2.2, State.sweepCause]
    have consistN : d.consistN = s.consistN := by rw [State.consistN, at_.node.1, State.consistN]
    have grants : d.sweepGrants u.se.demand = s.sweepGrants demand := by
      rw [State.sweepGrants, at_.node.2.2.2, consistN, State.powers, at_.node.1, se, State.sweepGrants, State.powers]
    have rotation : d.sweepRotation = s.sweepRotation := by
      rw [State.sweepRotation, at_.node.2.2.2, consistN, State.sweepRotation]
    refine ⟨?_, fun t ports kept => ?_⟩
    · have ports := completed.ports
      rwa [consistN, if_pos many, other_other, cause, grants, at_.node.1, ← current] at ports
    · have swept : t.se = s.se.completed gen number s.sys.freeCount records := kept.node.2.1.trans se
      intro grants_ cause_
      have same : grants_ = s.sweepGrants demand := congrArg (fun e : SweepState => s.sweepGrants e.demand) swept
      refine ⟨swept, ?_, fun changes masked => ?_, ?_, ?_, ?_, ?_, ?_, sameHost_delivered at_.start kept completed.host⟩
      · rw [kept.node.2.2.1, completed.dcu, at_.node.2.2.1]
      · refine kept.tells .closed (completed.closed ?_ (by rwa [at_.hl]))
        rwa [← kept.node.2.2.1, at_.node.2.2.1]
      · rw [kept.node.2.2.2, completed.ha, grants, rotation, cause, at_.node.2.2.2, at_.node.1, ← current, same]
        rfl
      · rwa [same]
      · rw [kept.node.1, completed.cc, at_.node.1]
      · rw [kept.system.1, completed.sys, at_.system.1]
      · rw [kept.system.2, completed.pending, at_.system.2]
  · refine completes_block (f := { gen, body := .ret number flags n list }) now rfl (PortOp.id p) fun d at_ => ?_
    refine ⟨d.modSe fun e => { e with staleReturns := inc16 e.staleReturns }, ?_, samePorts_modSe _ _, fun t ports kept =>
      ⟨?_, kept.node.1.trans at_.node.1, kept.node.2.2.1.trans at_.node.2.2.1, kept.node.2.2.2.trans at_.node.2.2.2, ports,
        sameSystem_delivered at_.start kept ⟨rfl, rfl⟩, sameHost_delivered at_.start kept rfl⟩⟩
    · rw [block d at_, State.seReturn, if_neg (by rw [at_.node.1]; simp [current]),
        if_pos (by rw [at_.node.1, at_.node.2.1]; exact other_)]
    · rw [kept.node.2.1, State.modSe_se, at_.node.2.1]
      rfl
  · refine completes_atPorts (f := { gen, body := .ret number flags n list }) now rfl (PortOp.modLr p _) fun d at_ => ?_
    rw [block d at_, State.seReturn, if_pos (by rw [at_.node.1]; exact stale)]
    rfl

/-! ### A lost sweep -/

theorem State.told_loseClosedProof {s : State} (closed : s.dcu.trainClosed = true) (masked : s.hl.masked .closed = true) :
    told s.loseClosedProof .closed :=
  told_of_hl (s := s.setTrainClosed false) rfl (State.told_setTrainClosed (by simp [closed]) masked)

theorem State.loseClosedProof_sameHost (s : State) : sameHost s s.loseClosedProof := s.setTrainClosed_still false

/-- The leader as a sweep is lost, before it may walk (06 R118, 07 R143). -/
def State.sweepMissed (s : State) (cause : LossCause) : State :=
  (s.modSe fun e =>
    { e with outstanding := none, timeout := none, lostRow := inc8 e.lostRow, lostSweeps := inc16 e.lostSweeps,
             refresh := true,
             lastLost := s.se.outstanding.map fun n => { gen := s.cc.gen, number := n, cause } }).loseClosedProof.raise .sweepLost

/-- The leader as a sweep is lost, before a launch that is due (06 R118). -/
def State.sweepGone (s : State) (cause : LossCause) : State :=
  if 2 ≤ (s.sweepMissed cause).se.lostRow then (s.sweepMissed cause).walkTrigger else s.sweepMissed cause

theorem State.loseSweep_eq (s : State) (cause : LossCause) : s.loseSweep cause = (s.sweepGone cause).relaunchIfDue := rfl

theorem State.walkTrigger_eq {s : State} (claim : s.cc.claim.isSome = true) :
    s.walkTrigger = s.modCc fun c => if c.walk = .idle then { c with walk := .settling, settleTimer := some 0 } else c := by
  by_cases idle : s.cc.walk = .idle <;> simp [State.walkTrigger, State.modCc, claim, idle]

/-- What a sweep lost leaves of its leader, whatever its count of coverage failures (06 R118). -/
theorem State.sweepGone_lost {s : State} (claim : s.cc.claim.isSome = true) (cause : LossCause) (failures : Nat) :
    sweepLost s ((s.modSe fun e => { e with coverageFailures := failures }).sweepGone cause) cause failures ∧
      samePorts s ((s.modSe fun e => { e with coverageFailures := failures }).sweepGone cause) := by
  let u := (s.modSe fun e => { e with coverageFailures := failures }).sweepMissed cause
  have se : u.se = { s.se with
      outstanding := none, timeout := none, lostRow := min 255 (s.se.lostRow + 1),
      lostSweeps := min 65535 (s.se.lostSweeps + 1), refresh := true, coverageFailures := failures,
      lastLost := s.se.outstanding.map fun n => { gen := s.cc.gen, number := n, cause } } := by
    simp [u, State.sweepMissed, State.loseClosedProof, inc8, inc16]
  have dcu : u.dcu = { s.dcu with trainClosed := false, fence := false } := by
    simp [u, State.sweepMissed, State.loseClosedProof, State.setTrainClosed]
  have second : 2 ≤ u.se.lostRow ↔ 1 ≤ s.se.lostRow := by
    rw [se]
    dsimp only
    omega
  have gone : (s.modSe fun e => { e with coverageFailures := failures }).sweepGone cause = u.modCc fun c =>
      if 1 ≤ s.se.lostRow ∧ c.walk = .idle then { c with walk := .settling, settleTimer := some 0 } else c := by
    change (if 2 ≤ u.se.lostRow then u.walkTrigger else u) = _
    by_cases twice : 1 ≤ s.se.lostRow
    · rw [if_pos (second.mpr twice), State.walkTrigger_eq (s := u) (by simpa [u, State.sweepMissed, State.loseClosedProof])]
      simp only [twice, true_and]
    · rw [if_neg (mt second.mp twice)]
      simp [twice, State.modCc]
  rw [gone]
  refine ⟨⟨se, dcu, fun closed masked => ?_, fun masked => told_raise_self ?_, ?_, ?_, ?_, ?_⟩, ?_⟩
  · exact told_raise .sweepLost (State.told_loseClosedProof closed masked)
  · exact (HostLink.masked_of_still (State.loseClosedProof_sameHost _) _).trans masked
  · simp [u, State.sweepMissed, State.loseClosedProof]
  · simp [u, State.sweepMissed, State.loseClosedProof]
  · simp [u, State.sweepMissed, State.loseClosedProof, sameSystem]
  · exact (State.raiseIf_still _ true .sweepLost).trans (State.loseClosedProof_sameHost _)
  · exact samePorts_of_port fun x => by simp [u, State.sweepMissed, State.loseClosedProof]

theorem sweepLost_delivered {s d h t : State} {cause : LossCause} {failures : Nat} (at_ : SameStart s d) (kept : Kept h t)
    (lost : sweepLost d h cause failures) : sweepLost s t cause failures := by
  obtain ⟨se, dcu, closed, tells, ha, cc, system, host⟩ := lost
  refine ⟨?_, ?_, fun was => told_delivered at_ kept (closed (by rwa [at_.node.2.2.1])), told_delivered at_ kept tells, ?_, ?_,
    sameSystem_delivered at_ kept system, sameHost_delivered at_ kept host⟩
  · rw [kept.node.2.1, se, at_.node.2.1, at_.node.1]
  · rw [kept.node.2.2.1, dcu, at_.node.2.2.1]
  · rw [kept.node.2.2.2, ha, at_.node.2.2.2]
  · rw [kept.node.1, cc, at_.node.1, at_.node.2.1]

/-- Settles O39: the timeout, a coverage failure, and the launch that is due. -/
theorem lostSweepsAreCountedAndMayWalk : Obligations.LostSweepsAreCountedAndMayWalk := by
  intro s p q seq number flags n list leads
  have claimed := State.claim_of_operationalLeader leads
  have op := State.node_of_operationalLeader leads
  have timed (ticks : s.ticking = true) (due : timerDue s.se.timeout 150 = true) :
      exec .sweepTimeout s = (s.sweepGone .timeout).relaunchIfDue.done := by
    change (if s.expires s.se.timeout 150 then s.loseSweep .timeout else s).done = _
    rw [if_pos ((s.expires_iff _ _).mpr ⟨ticks, due⟩), State.loseSweep_eq]
  obtain ⟨lost, ports⟩ : sweepLost s (s.sweepGone .timeout) .timeout s.se.coverageFailures ∧
      samePorts s (s.sweepGone .timeout) := State.sweepGone_lost claimed .timeout s.se.coverageFailures
  refine ⟨fun ticks due rests => ?_, fun now claim out misses some_ most rests => ?_, fun ticks due launch many => ?_⟩
  · have stays : (s.sweepGone .timeout).se.launchDue = false := by
      rw [lost.1]
      exact rests
    rw [timed ticks due, State.relaunchIfDue, if_neg (by simp [stays])]
    exact completes_done ⟨sweepLost_delivered (.refl s) (.hostKick _) lost, ports.trans (samePorts_hostKick _)⟩
  · refine completes_handled (f := { gen := s.cc.gen, body := .ret number flags n list }) now rfl (PortOp.id p) fun d at_ => ?_
    obtain ⟨lost, ports⟩ := State.sweepGone_lost (s := d) (by rw [at_.node.1]; exact claimed) .coverage
      (min 65535 (s.se.coverageFailures + 1))
    have handled : d.handOn p { gen := s.cc.gen, body := .ret number flags n list } =
        (d.modSe fun e => { e with coverageFailures := min 65535 (s.se.coverageFailures + 1) }).sweepGone .coverage := by
      have counted : (d.modSe fun e => { e with coverageFailures := inc16 e.coverageFailures }) =
          d.modSe fun e => { e with coverageFailures := min 65535 (s.se.coverageFailures + 1) } := by
        rw [← at_.node.2.1]
        rfl
      have stays : ((d.modSe fun e =>
          { e with coverageFailures := min 65535 (s.se.coverageFailures + 1) }).sweepGone .coverage).se.launchDue = false := by
        rw [lost.1, at_.node.2.1]
        exact rests
      rw [State.handOn_return some_ most (by rw [at_.node.1, claim]), State.seReturn, if_neg (by rw [at_.node.1]; simp),
        if_neg (by rw [at_.node.1, at_.node.2.1]; simp [op, out]), State.covered_congr at_.node, misses]
      dsimp only
      rw [counted, State.loseSweep_eq, State.relaunchIfDue, if_neg (by simp [stays])]
    rw [handled]
    exact ⟨ports, fun t same kept => ⟨sweepLost_delivered at_.start kept lost, same⟩⟩
  · obtain ⟨e, claim⟩ := Option.isSome_iff_exists.mp claimed
    rw [timed ticks due]
    generalize s.sweepGone .timeout = u at lost
    obtain ⟨se, -, -, -, -, cc, -⟩ := lost
    have held : u.cc.claim = s.cc.claim ∧ u.cc.table = s.cc.table := by
      rw [cc]
      split <;> exact ⟨rfl, rfl⟩
    have launched := State.launchOnce_launched (s := u.modSe fun e => { e with launchDue := false }) (e := e)
      (held.1.trans claim) (by rw [State.consistN, State.modSe_cc, held.2]; exact many)
    have due_ : u.se.launchDue = true := by
      rw [se]
      exact launch
    rw [State.relaunchIfDue, if_pos due_]
    refine completes_done ?_
    rw [State.hostKick_se, launched.se, State.modSe_se, se]
    have next : (u.modSe fun e => { e with launchDue := false }).nextNumber = expectedNumber s.se.lastLaunched := by
      rw [State.nextNumber, State.modSe_se, se]
    exact ⟨rfl, rfl, rfl, rfl, rfl, rfl, congrArg some (next.trans (expectedNumber_eq _))⟩

end Sys2Proof.Machine
end

section
/-! The walk attempts of a leader: with a neighbour at the rear, and alone (05 R84, R92, R93; 06 R105). -/

namespace Sys2Proof.Machine

/-- What the confirmation of a walk leaves of a leader that is alone: its first sweep is complete (05 R93, 06 R105). -/
structure ConfirmedAlone (s u : State) (t : Table) : Prop where
  cc : u.cc = { s.cc with
    table := t, walkTimer := none, confirmTimer := none, node := .operational, confirmCheck := false, walk := .idle,
    records := [], callHeld := false }
  sweep : u.se.outstanding = none ∧ u.se.lastLaunched = some 0 ∧ u.se.timeout = none ∧ u.se.intervalTimer = some 0
  summary : (u.se.summary.map fun m => (m.gen, m.number, m.flags.length)) = some (s.cc.gen, 0, 1)
  grant : u.ha.lastIssued = some (s.sweepCause, some 0) ∧ u.ha.watchdog = some 0
  queue : u.dcu.queue = s.dcu.queue
  tells : s.hl.masked .consist = true → told u .consist
  ports : samePorts s u
  host : sameHost s u

theorem State.confirmWalk_alone {s : State} {e : PortId} (claim : s.cc.claim = some e) (noCall : s.cc.callHeld = false) (n : Nat)
    (reason : Reason) {t : Table} (table : confirmedTable s.cc.records s.cc.gen n reason = t) (alone : t.entries.length = 1) :
    ConfirmedAlone s (s.confirmWalk n reason) t := by
  have confirming := State.confirming_confirming (s := s) (by rw [claim]; rfl) t
  have walked : s.confirmWalk n reason = (s.confirming t).launch.walkEnded := by
    rw [State.confirmWalk_eq, table]
    dsimp only
    rw [if_neg (by omega)]
  rw [walked]
  generalize s.confirming t = u at confirming ⊢
  have consistN : u.consistN = 1 := by
    rw [State.consistN, confirming.cc]
    exact alone
  have next : u.nextNumber = 0 := by
    rw [State.nextNumber, confirming.se]
    rfl
  rw [State.launch_alone (by omega), next]
  have completed := State.completeCore_completed (s := u.launching) (e := e) (by rw [State.launching_cc, confirming.cc]; exact claim)
    0 [u.sweptRecord 0]
  rw [State.launching_eq, next] at completed ⊢
  generalize State.completeCore _ _ _ = c at completed ⊢
  have due : c.se.launchDue = false := by
    rw [completed.se, State.modSe_se, confirming.se]
    rfl
  have cc : c.cc = { u.cc with confirmCheck := false } := completed.cc.trans (if_neg fun h => by simp at h)
  have ports := completed.ports
  rw [if_neg (by rw [State.consistN, State.modSe_cc]; change ¬ 2 ≤ u.consistN; omega)] at ports
  rw [State.relaunchIfDue, if_neg (by simp [due]), State.walkEnded_eq (by rw [cc, confirming.cc]; simp [claim])]
  refine ⟨?_, ⟨?_, ?_, ?_, ?_⟩, ?_, ⟨?_, ?_⟩, ?_, fun masked => completed.tells .consist (confirming.tells masked),
    (confirming.ports.trans (samePorts_modSe _ _)).trans ports, completed.host.trans confirming.host⟩
  · rw [State.modCc_cc, cc, confirming.cc]
    simp only [noCall]
    rfl
  · rw [State.modCc_se, completed.se]
    rfl
  · rw [State.modCc_se, completed.se, State.modSe_se]
    exact congrArg some next
  · rw [State.modCc_se, completed.se]
    rfl
  · rw [State.modCc_se, completed.se]
    rfl
  · rw [State.modCc_se, completed.se, State.modSe_cc, confirming.cc]
    rfl
  · rw [State.modCc_ha, completed.ha, State.sweepCause, State.modSe_ha, confirming.ha]
    rfl
  · rw [State.modCc_ha, completed.ha]
  · rw [State.modCc_dcu, completed.dcu, State.modSe_dcu, confirming.dcu]

/-- Settles O31: an attempt with a neighbour at the rear, by each timer, and a leader that is alone. -/
theorem walkAttemptsStartOrConfirmAlone : Obligations.WalkAttemptsStartOrConfirmAlone := by
  intro s e ticks inv claim
  have settles (due : timerDue s.cc.settleTimer 100 = true) : exec .settleTimerExpiry s = (s.startAttempt .walkFirst).done := by
    change (if s.expires s.cc.settleTimer 100 then s.startAttempt .walkFirst else s).done = _
    rw [if_pos ((s.expires_iff _ _).mpr ⟨ticks, due⟩)]
  refine ⟨fun due settling present => ?_, fun due first present => ?_, fun due settling alone => ?_⟩
  · obtain ⟨started, ports⟩ := State.startAttempt_of_present claim present .walkFirst
    rw [settles due]
    exact completes_done ⟨attemptStarted_delivered (.refl s) (.hostKick _) started, ports.trans (samePorts_hostKick _)⟩
  · let u := s.modCc fun c => { c with walkTimer := none }
    have fails : u.attemptFails = u.startAttempt .walkSecond := by
      rw [State.attemptFails, show u.cc.walk = .walkFirst from first]
    obtain ⟨started, ports⟩ := State.startAttempt_of_present (s := u) claim present .walkSecond
    change completes (if s.expires s.cc.walkTimer 500 then u.attemptFails else s).done _
    rw [if_pos ((s.expires_iff _ _).mpr ⟨ticks, due⟩), fails]
    refine completes_done ⟨attemptStarted_delivered (.refl s) (.hostKick _) started, ?_⟩
    exact ((samePorts_offer (samePorts_modCc s _) _ _).trans ports).trans (samePorts_hostKick _)
  · have begun := s.attempting_attempting .walkFirst
    have claim' : (s.attempting .walkFirst).cc.claim = some e := by rw [begun.cc, claim]
    have starts : s.startAttempt .walkFirst = (s.attempting .walkFirst).confirmWalk 1 .none := by
      rw [State.startAttempt_eq, State.rearPresent_of_claim claim', State.hasNeighbour_congr begun.ports, alone,
        if_neg (by simp)]
    have table : confirmedTable (s.attempting .walkFirst).cc.records (s.attempting .walkFirst).cc.gen 1 .none =
        { gen := s.cc.gen % 255 + 1, reason := .none, entries := [s.cc.leaderEntry s.sys.serial] } := by
      rw [begun.cc]
      rfl
    have confirmed := State.confirmWalk_alone claim' (by rw [begun.cc]) 1 .none table rfl
    rw [settles due, starts]
    generalize s.attempting .walkFirst = a at begun confirmed claim' ⊢
    obtain ⟨cc, ⟨out, launched, timeout, interval⟩, summary, ⟨issued, watchdog⟩, queue, tells, ports, host⟩ := confirmed
    obtain ⟨-, -, -, -, -, -, -, -, -, -, holdOff, lockout, -⟩ := begun.settings
    have cause : a.sweepCause = if s.ha.barred then .held else .allocation := by
      rw [State.sweepCause, Heating.barred, holdOff, lockout, Heating.barred]
    have kept : (s.hl.masked .consist = true) → a.hl.masked .consist = true :=
      (HostLink.masked_of_still begun.host _).trans
    have doors : a.dcu.queue = if s.cc.node = .operational then [] else s.dcu.queue := by
      obtain ⟨left, stayed⟩ := begun.left
      split
      · next op =>
        obtain ⟨-, -, -, -, -, leads, -⟩ := left op
        exact (leads (by rw [claim]; rfl)).1
      · next notOp =>
        obtain ⟨-, -, -, -, queue, -⟩ := stayed notOp
        exact queue
    refine completes_done ?_
    rw [State.hostKick_cc, State.hostKick_se, State.hostKick_ha, State.hostKick_dcu, cc, summary, issued, cause, queue, doors,
      begun.cc]
    exact ⟨rfl, rfl, rfl, rfl, claim, rfl, rfl, out, launched, timeout, interval, rfl, rfl, watchdog, rfl,
      fun masked => told_hostKick (tells (kept masked)), (begun.ports.trans ports).trans (samePorts_hostKick _),
      sameHost_hostKick (host.trans begun.host)⟩

end Sys2Proof.Machine
end

section
/-! Door commands at the leader: dispatch, and the end of the command in flight (07 R130, R135 to R138). -/

namespace Sys2Proof.Machine

theorem samePorts_modDcu (s : State) (f : Doors → Doors) : samePorts s (s.modDcu f) := ⟨rfl, rfl⟩

/-! ### A command's end -/

/-- What the head's end leaves of the leader (07 R138). -/
structure HeadEnded (s u : State) (c : DoorCmd) (rest : List DoorCmd) (ending : Ending) (range : Option (Nat × Nat))
    (applied : Option PosSet) : Prop where
  cc : u.cc = s.cc
  se : u.se = s.se
  ha : u.ha = s.ha
  dcu : u.dcu = { s.dcu with
    queue := rest, inFlight := none, echoTimer := none,
    results := joinResults s.dcu.results [{ cmd := c, range, ending, applied }] }
  system : sameSystem s u
  host : sameHost s u
  ports : samePorts s u
  tells : s.hl.masked .doorResult = true → told u .doorResult

theorem State.endHead_ended {s : State} {c : DoorCmd} {rest : List DoorCmd} (queue : s.dcu.queue = c :: rest) (ending : Ending)
    (range : Option (Nat × Nat)) (applied : Option PosSet) :
    HeadEnded s (s.endHead ending range applied) c rest ending range applied := by
  rw [State.endHead_of_cons queue]
  exact ⟨by simp, by simp, by simp, by simp [State.addResults], by simp [sameSystem], State.addResults_still _ _,
    samePorts_of_port fun x => by simp, fun masked => told_raise_self (s := State.modDcu _ _) masked⟩

theorem State.dispatchQueue_nil {s : State} (empty : s.dcu.queue = []) : s.dispatchQueue = s := by
  simp only [State.dispatchQueue, empty, List.length_nil, State.dispatch]

/-! ### Dispatch -/

/-- What the preparation of a command leaves of the leader: with a RELEASE the closed proof is lost (07 R130, R142). -/
structure Prepared (s u : State) (c : DoorCmd) (first : Nat) : Prop where
  cc : u.cc = s.cc
  se : u.se = s.se
  ha : u.ha = s.ha
  dcu : u.dcu = { s.dcu with
    trainClosed := if c.action = .release then false else s.dcu.trainClosed,
    fence := if c.action = .release then s.dcu.fence || s.se.outstanding.isSome else s.dcu.fence,
    lastDoor := some { gen := s.cc.gen, id := c.id, applied := decide (first = 1) },
    release1 := u.dcu.release1, release2 := u.dcu.release2 }
  system : sameSystem s u
  host : sameHost s u
  ports : samePorts s u
  tells : ∀ k, told s k → told u k

theorem State.lowered_prepared (s : State) (c : DoorCmd) (first : Nat) :
    Prepared s ((s.lowered c.action).modDcu fun d =>
      { d with lastDoor := some { gen := s.cc.gen, id := c.id, applied := decide (first = 1) } }) c first := by
  cases action : c.action with
  | close => exact ⟨rfl, rfl, rfl, by simp [State.lowered, action], ⟨rfl, rfl⟩, rfl, samePorts.refl s, fun _ h => h⟩
  | release =>
    refine ⟨by simp [State.lowered], by simp [State.lowered], by simp [State.lowered], ?_, by simp [State.lowered, sameSystem],
      s.setTrainClosed_still false, samePorts_of_port fun x => by simp [State.lowered], fun k h => told_raiseIf _ _ h⟩
    simp [State.lowered, State.setTrainClosed, action]

theorem State.dispatchPrepare_prepared (s : State) (c : DoorCmd) (first : Nat) :
    Prepared s (s.dispatchPrepare c first) c first := by
  have lowered := s.lowered_prepared c first
  rw [State.dispatchPrepare_eq]
  generalize State.modDcu _ _ = u at lowered ⊢
  split
  · cases faces : u.cc.orientation with
    | none =>
      simp only [State.applyDoor, faces]
      exact lowered
    | some o =>
      rw [State.applyDoor_eq faces]
      generalize (if (mapSides o c.side).1 then _ else _) = a
      generalize (if (mapSides o c.side).2 then _ else _) = b
      refine ⟨by simpa [State.setReleases] using lowered.cc, by simpa [State.setReleases] using lowered.se,
        by simpa [State.setReleases] using lowered.ha, ?_,
        lowered.system.trans (by simp [State.setReleases, sameSystem]), (State.setReleases_still _ _ _).trans lowered.host,
        lowered.ports.trans (samePorts_of_port fun x => by simp [State.setReleases]), fun k h => ?_⟩
      · have set : (u.setReleases a b).dcu = { u.dcu with release1 := a, release2 := b } := by simp [State.setReleases]
        rw [set, lowered.dcu]
      · exact told_raiseIf _ _ (lowered.tells k h)
  · exact lowered

/-- What the dispatch of the head over the whole train leaves of the leader of two or more (07 R130). -/
structure Dispatched (s u : State) (e : PortId) (c : DoorCmd) : Prop where
  cc : u.cc = s.cc
  se : u.se = s.se
  ha : u.ha = s.ha
  dcu : u.dcu = { s.dcu with
    trainClosed := if c.action = .release then false else s.dcu.trainClosed,
    fence := if c.action = .release then s.dcu.fence || s.se.outstanding.isSome else s.dcu.fence,
    lastDoor := some { gen := s.cc.gen, id := c.id, applied := true },
    inFlight := some { first := 1, last := s.consistN, expected := s.expectedSet 1 s.consistN, applied := posBit 1 },
    echoTimer := some 0, release1 := u.dcu.release1, release2 := u.dcu.release2 }
  system : sameSystem s u
  host : sameHost s u
  tells : ∀ k, told s k → told u k
  ports : samePorts (s.offer (other e)
    { gen := s.cc.gen, body := .door c.id (actionCode c.action) (trainSideCode c.side) 1 s.consistN }) u

theorem State.dispatchQueue_dispatched {s : State} {e : PortId} {c : DoorCmd} {rest : List DoorCmd}
    (queue : s.dcu.queue = c :: rest) (whole : c.window = 0) (claim : s.cc.claim = some e) (many : 2 ≤ s.consistN) :
    Dispatched s s.dispatchQueue e c := by
  have prepared := s.dispatchPrepare_prepared c 1
  have sent : s.dispatchQueue = (s.dispatchPrepare c 1).sendDoor c 1 s.consistN (s.expectedSet 1 s.consistN) := by
    have range : s.resolve c.window = (1, s.consistN) := by rw [whole]; rfl
    have length : s.dcu.queue.length = rest.length + 1 := by rw [queue]; rfl
    rw [State.dispatchQueue, length, State.dispatch, queue]
    dsimp only
    rw [range]
    dsimp only
    rw [if_neg (by omega), if_neg (by omega)]
  rw [sent]
  generalize s.dispatchPrepare c 1 = u at prepared ⊢
  rw [State.sendDoor, State.offerRear_of_claim (s := u.modDcu _) (by rw [State.modDcu_cc, prepared.cc, claim])]
  refine ⟨?_, ?_, ?_, ?_, prepared.system.trans (by simp [sameSystem]), ?_, fun k h => ?_, ?_⟩
  · rw [State.offer_cc, State.modDcu_cc, prepared.cc]
  · rw [State.offer_se, State.modDcu_se, prepared.se]
  · rw [State.offer_ha, State.modDcu_ha, prepared.ha]
  · rw [State.offer_dcu, State.modDcu_dcu, prepared.dcu]
    rfl
  · exact (congrArg HostLink.still (State.offer_hl _ _ _)).trans prepared.host
  · exact told_of_hl (State.offer_hl _ _ _) (prepared.tells k h)
  · rw [prepared.cc]
    exact samePorts_offer (prepared.ports.trans (samePorts_modDcu _ _)) _ _

/-- The end of the command in flight: its result, and the next head (07 R138). -/
theorem State.endInFlight_eq {s : State} {f : InFlight} (flies : s.dcu.inFlight = some f) (ending : Ending) (applied : Option PosSet) :
    s.endInFlight ending applied = (s.endHead ending (some (f.first, f.last)) applied).dispatchQueue := by
  rw [State.endInFlight, flies]
  rfl

/-- Settles O42: the ECHO that ends the command in flight, a late and a stale one, and the echo timer. -/
theorem echoesEndTheCommandInFlight : Obligations.EchoesEndTheCommandInFlight := by
  intro s p q seq gen id applied c d rest f leads claim marked
  have block (x : State) (at_ : DeliveredTo s x p seq) : x.handOn p { gen, body := .echo id applied } =
      x.dcuEcho p gen id applied := by
    change x.frontward p _ (fun u => u.dcuEcho p gen id applied) = _
    rw [State.frontward_consumed (by rw [at_.node.1, claim])]
  have ends (x : State) (at_ : DeliveredTo s x p seq) (current : gen = s.cc.gen) (flies : s.dcu.inFlight = some f)
      (l : List DoorCmd) (queue : s.dcu.queue = c :: l) (own : c.id = id) : x.dcuEcho p gen id applied =
        (x.endHead (if f.expected &&& ~~~marked = 0 then .complete else .partialEnd) (some (f.first, f.last))
          (some marked)).dispatchQueue := by
    have own_ : applied ||| x.ownMark gen id 1 = marked := by
      rw [State.ownMark, at_.node.2.2.1]
      simp only [marked]
      split
      · rfl
      · exact BitVec.or_zero
    have flies' : x.dcu.inFlight = some f := by rw [at_.node.2.2.1, flies]
    rw [State.dcuEcho, if_neg (by rw [at_.node.1]; simp [current]), flies', at_.node.2.2.1, queue]
    dsimp only
    rw [if_pos own, own_, State.endInFlight_eq flies', decideEnding]
  refine ⟨fun now current flies own => ⟨fun queue => ?_, fun queue whole many => ?_⟩, fun now current late => ?_,
    fun now stale => ?_, fun ticks due flies queue => ?_⟩
  · refine completes_handled (f := { gen, body := .echo id applied }) now rfl (PortOp.id p) fun x at_ => ?_
    have ended := State.endHead_ended (s := x) (by rw [at_.node.2.2.1, queue])
      (if f.expected &&& ~~~marked = 0 then .complete else .partialEnd) (some (f.first, f.last)) (some marked)
    rw [block x at_, ends x at_ current flies [] queue own, State.dispatchQueue_nil (by rw [ended.dcu])]
    generalize State.endHead _ _ _ _ = u at ended ⊢
    refine ⟨ended.ports, fun t ports kept => ⟨?_, told_delivered at_.start kept ended.tells, ?_, ?_, ?_, ports,
      sameSystem_delivered at_.start kept ended.system, sameHost_delivered at_.start kept ended.host⟩⟩
    · rw [kept.node.2.2.1, ended.dcu, at_.node.2.2.1]
    · rw [kept.node.1, ended.cc, at_.node.1]
    · rw [kept.node.2.1, ended.se, at_.node.2.1]
    · rw [kept.node.2.2.2, ended.ha, at_.node.2.2.2]
  · refine completes_handled (f := { gen, body := .echo id applied }) now rfl
      (PortOp.offer p p { gen, body := .door d.id (actionCode d.action) (trainSideCode d.side) 1 s.consistN }) fun x at_ => ?_
    have ended := State.endHead_ended (s := x) (by rw [at_.node.2.2.1, queue])
      (if f.expected &&& ~~~marked = 0 then .complete else .partialEnd) (some (f.first, f.last)) (some marked)
    rw [block x at_, ends x at_ current flies (d :: rest) queue own]
    generalize State.endHead _ _ _ _ = u at ended ⊢
    have cc : u.cc = s.cc := ended.cc.trans at_.node.1
    have se : u.se = s.se := ended.se.trans at_.node.2.1
    have consistN : u.consistN = s.consistN := by rw [State.consistN, cc, State.consistN]
    have expected : u.expectedSet 1 s.consistN = s.expectedSet 1 s.consistN := by rw [State.expectedSet, se, State.expectedSet]
    have dispatched := State.dispatchQueue_dispatched (s := u) (e := other p) (c := d) (rest := rest) (by rw [ended.dcu]) whole
      (by rw [cc, claim]) (by rw [consistN]; exact many)
    generalize u.dispatchQueue = v at dispatched ⊢
    have sent := dispatched.ports
    rw [other_other, cc, consistN, ← current] at sent
    refine ⟨(samePorts_offer ended.ports _ _).trans sent, fun t ports kept => ?_⟩
    rw [kept.node.2.2.1, dispatched.dcu, ended.dcu, consistN, expected, cc, se, ← current, at_.node.2.2.1]
    exact ⟨rfl, rfl, rfl, rfl, fun release => ⟨if_pos release, if_pos release⟩, ports⟩
  · refine completes_block (f := { gen, body := .echo id applied }) now rfl (PortOp.id p) fun x at_ => ?_
    refine ⟨x.modDcu fun d => { d with lateEchoes := inc16 d.lateEchoes }, ?_, samePorts_modDcu _ _, fun t ports kept =>
      ⟨?_, kept.node.1.trans at_.node.1, kept.node.2.1.trans at_.node.2.1, kept.node.2.2.2.trans at_.node.2.2.2, ports,
        sameSystem_delivered at_.start kept ⟨rfl, rfl⟩, sameHost_delivered at_.start kept rfl⟩⟩
    · rw [block x at_, State.dcuEcho, if_neg (by rw [at_.node.1]; simp [current])]
      split
      · next f' c' rest' flies queue =>
        rw [at_.node.2.2.1] at flies queue
        refine if_neg fun own => ?_
        rcases late with grounded | another
        · rw [grounded] at flies
          cases flies
        · exact another (by rw [queue, ← own]; rfl)
      · rfl
    · rw [kept.node.2.2.1, State.modDcu_dcu, at_.node.2.2.1]
      rfl
  · refine completes_atPorts (f := { gen, body := .echo id applied }) now rfl (PortOp.modLr p _) fun x at_ => ?_
    rw [block x at_, State.dcuEcho, if_pos (by rw [at_.node.1]; exact stale)]
    rfl
  · have ended := State.endHead_ended queue .timeout (some (f.first, f.last)) none
    change completes (if s.expires s.dcu.echoTimer 300 then s.endInFlight .timeout none else s).done _
    rw [if_pos ((s.expires_iff _ _).mpr ⟨ticks, due⟩), State.endInFlight_eq flies, State.dispatchQueue_nil (by rw [ended.dcu])]
    generalize State.endHead _ _ _ _ = u at ended ⊢
    refine completes_done ?_
    rw [State.hostKick_dcu, State.hostKick_cc, State.hostKick_se, State.hostKick_ha]
    exact ⟨ended.dcu, fun masked => told_hostKick (ended.tells masked), ended.cc, ended.se, ended.ha,
      ended.ports.trans (samePorts_hostKick _), ended.system.trans (sameSystem_hostKick _), sameHost_hostKick ended.host⟩

end Sys2Proof.Machine
end

section
/-! Door Command, and the withdrawal of standstill (07 R128, R130, R138, R141). -/

namespace Sys2Proof.Machine

/-! ### Dispatch at a leader that is alone -/

theorem posRange_one (keep : Nat → Bool) : posRange 1 1 keep = if keep 1 then posBit 1 else 0 := by
  unfold posRange
  rw [List.range_succ_eq_map, List.foldl_cons, List.foldl_map, List.foldl_fixed']
  · cases keep 1 <;> rfl
  · intro i
    exact if_neg fun h => absurd h.2.1 (by omega)

/-- The leader that is alone has all it expects of a command applied (07 R136). -/
theorem decideEnding_alone (s : State) : decideEnding (s.expectedSet 1 1) (posBit 1) = .complete := by
  have only (keep : Nat → Bool) : decideEnding (posRange 1 1 keep) (posBit 1) = .complete := by
    rw [posRange_one]
    cases keep 1 <;> rfl
  unfold State.expectedSet
  split <;> exact only _

/-- A command to the whole train at a leader that is alone is carried out at once and COMPLETE (07 R130, R136). -/
theorem State.dispatchQueue_alone {s : State} {c : DoorCmd} (queue : s.dcu.queue = [c]) (whole : c.window = 0)
    (alone : s.consistN = 1) :
    s.dispatchQueue = (s.dispatchPrepare c 1).endHead .complete (some (1, 1)) (some (posBit 1)) := by
  have range : s.resolve c.window = (1, 1) := by
    rw [whole]
    exact congrArg (Prod.mk 1) alone
  rw [State.dispatchQueue, queue, List.length_singleton, State.dispatch, queue]
  dsimp only
  rw [range]
  dsimp only
  rw [if_neg (by decide), if_pos rfl, leaderApplied, if_pos rfl, decideEnding_alone, State.dispatch]

/-! ### Door Command -/

section
variable {s : State} {x y w : Nat} {a : Action} {side : TrainSide}

theorem State.reqDoorCommand_range (leads : s.operationalLeader = true)
    (bad : 1 < x ∨ 2 < y ∨ x = 0 ∧ y = 2 ∨ s.dcu.windowUsable w = false) : s.reqDoorCommand x y w = s.refuse .range := by
  rw [State.reqDoorCommand, leads, if_neg (by decide)]
  split
  · next a t action sides =>
    refine if_pos ?_
    rcases bad with h | h | ⟨rfl, rfl⟩ | h
    · simp [actionOfCode_eq_none h] at action
    · simp [trainSideOfCode_eq_none h] at sides
    · cases action
      cases sides
      exact .inl ⟨rfl, rfl⟩
    · exact .inr h
  · rfl

theorem releaseAllowed {standstill : Bool} (allowed : a = .close ∨ standstill = true) :
    ¬ (a = .release ∧ standstill = false) := by
  rintro ⟨rfl, moves⟩
  rcases allowed with h | h
  · cases h
  · simp [moves] at h

variable (leads : s.operationalLeader = true) (action : actionOfCode x = some a) (sides : trainSideOfCode y = some side)
  (pair : ¬ (a = .release ∧ side = .both)) (usable : s.dcu.windowUsable w = true)
include leads action sides pair usable

theorem State.reqDoorCommand_eq :
    s.reqDoorCommand x y w =
      if a = .release ∧ s.dcu.standstill = false then s.refuse .notStandstill
      else if 4 ≤ s.dcu.queue.length then s.refuse .queueFull
      else (s.queueDoor a side w).accept fun _ => byte1 ((s.dcu.lastId + 1) % 16) := by
  rw [State.reqDoorCommand, leads, action, sides, if_neg (by decide)]
  exact if_neg fun h => h.elim pair (by simp [usable])

theorem State.reqDoorCommand_notStandstill (release : a = .release) (moves : s.dcu.standstill = false) :
    s.reqDoorCommand x y w = s.refuse .notStandstill := by
  rw [State.reqDoorCommand_eq leads action sides pair usable, if_pos ⟨release, moves⟩]

theorem State.reqDoorCommand_queueFull (allowed : a = .close ∨ s.dcu.standstill = true) (full : 4 ≤ s.dcu.queue.length) :
    s.reqDoorCommand x y w = s.refuse .queueFull := by
  rw [State.reqDoorCommand_eq leads action sides pair usable, if_neg (releaseAllowed allowed), if_pos full]

theorem State.reqDoorCommand_accepted (allowed : a = .close ∨ s.dcu.standstill = true) (room : s.dcu.queue.length < 4) :
    s.reqDoorCommand x y w = (s.queueDoor a side w).accept fun _ => [(s.dcu.lastId + 1) % 16] := by
  rw [State.reqDoorCommand_eq leads action sides pair usable, if_neg (releaseAllowed allowed), if_neg (by omega), byte1,
    Nat.mod_eq_of_lt (by omega : (s.dcu.lastId + 1) % 16 < 256)]

end

theorem State.answered_ports (u : State) (fields : State → List Nat) (kind tag : Nat) : samePorts u (u.answered fields kind tag) :=
  samePorts_of_port fun x => by simp [State.answered, Answer.queued, State.accept]

theorem exec_doorCommand {s : State} (slot : takesSlot s) (tag x y w : Nat) :
    exec (.doorCommand tag [x, y, w]) s =
      .next (((s.holding 0x09 tag [x, y, w]).reqDoorCommand x y w).queued 0x09 tag).hostKick :=
  State.request_done slot rfl tag _

/-- Settles O51: each refusal, a command queued behind others, and one dispatched at once by the length of the consist. -/
theorem doorCommandsQueueOrAreRefused : Obligations.DoorCommandsQueueOrAreRefused := by
  intro s tag x y w a side e slot id refused
  let h := s.holding 0x09 tag [x, y, w]
  have run := exec_doorCommand slot tag x y w
  have refuses {status : Status} (answer : h.reqDoorCommand x y w = h.refuse status) : refused status := by
    change exec _ s = _
    rw [run, answer, State.refuse_queued]
  refine ⟨fun idle => refuses ?_, fun leads bad => refuses (State.reqDoorCommand_range leads bad),
    fun leads action sides pair usable => ⟨fun release moves => refuses ?_, fun allowed full => refuses ?_,
      fun allowed waits room => ?_, fun allowed empty whole claim many => ?_, fun allowed empty whole alone => ?_⟩⟩
  · rw [State.reqDoorCommand, if_pos (by change (!s.operationalLeader) = true; simp [idle])]
  · exact State.reqDoorCommand_notStandstill leads action sides pair usable release moves
  · exact State.reqDoorCommand_queueFull leads action sides pair usable allowed full
  · have queued : h.queueDoor a side w = h.modDcu fun d =>
        { d with lastId := id, queue := d.queue ++ [{ id, action := a, side, window := w, automatic := false }] } := if_neg waits
    rw [run, State.reqDoorCommand_accepted (s := h) leads action sides pair usable allowed room, queued]
    rfl
  all_goals
    let c : DoorCmd := { id, action := a, side, window := w, automatic := false }
    let q := h.modDcu fun d => { d with lastId := id, queue := [c] }
    have before : samePorts s q := samePorts_of_port (s.holding_port 0x09 tag [x, y, w])
    have empty_ : h.dcu.queue = [] := empty
    have queued : h.queueDoor a side w = q.dispatchQueue := by
      have alone : (h.modDcu fun d => { d with lastId := id, queue := d.queue ++ [c] }) = q := by
        simp only [q, State.modDcu, empty_, List.nil_append]
      rw [← alone]
      exact if_pos empty
    rw [run, State.reqDoorCommand_accepted (s := h) leads action sides pair usable allowed (by rw [empty_]; decide), queued]
  · have dispatched := State.dispatchQueue_dispatched (s := q) (e := e) (c := c) (rest := []) rfl whole claim many
    generalize q.dispatchQueue = u at dispatched ⊢
    let fields : State → List Nat := fun _ => [id]
    change completes (.next (u.answered fields 0x09 tag)) _
    obtain ⟨cc, se, dcu, ha⟩ := u.answered_node fields 0x09 tag
    refine ⟨_, rfl, ?_⟩
    beta_reduce
    rw [cc, se, dcu, ha, u.answered_replies, HostLink.replies_of_still dispatched.host, dispatched.dcu]
    refine ⟨rfl, rfl, rfl, rfl, rfl, fun release => ⟨if_pos release, if_pos release⟩, ?_, rfl, dispatched.cc, dispatched.se,
      dispatched.ha, sameSystem.trans dispatched.system (u.answered_system fields 0x09 tag)⟩
    exact ((samePorts_offer before _ _).trans dispatched.ports).trans (u.answered_ports fields 0x09 tag)
  · rw [State.dispatchQueue_alone (s := q) (c := c) rfl whole alone]
    have prepared := q.dispatchPrepare_prepared c 1
    generalize q.dispatchPrepare c 1 = v at prepared ⊢
    have ended := State.endHead_ended (s := v) (c := c) (rest := []) (by rw [prepared.dcu]; rfl) .complete (some (1, 1))
      (some (posBit 1))
    generalize v.endHead _ _ _ = u at ended ⊢
    let fields : State → List Nat := fun _ => [id]
    change completes (.next (u.answered fields 0x09 tag)) _
    obtain ⟨-, -, dcu, -⟩ := u.answered_node fields 0x09 tag
    refine ⟨_, rfl, ?_⟩
    beta_reduce
    rw [dcu, ended.dcu, prepared.dcu]
    refine ⟨rfl, rfl, rfl, rfl, rfl, ?_, fun masked => u.told_answered fields 0x09 tag (ended.tells ?_)⟩
    · exact (before.trans (prepared.ports.trans ended.ports)).trans (u.answered_ports fields 0x09 tag)
    · exact (HostLink.masked_of_still prepared.host _).trans masked

end Sys2Proof.Machine
end

section
/-! The withdrawal of standstill (07 R138, R141). -/

namespace Sys2Proof.Machine

/-- With a reply in its queue the transmitter starts no notice (09 R172). -/
theorem State.hostKick_flagged_of_replies {s : State} (replies : s.hl.replies ≠ []) (k : Notice) :
    s.hostKick.hl.flagged k = s.hl.flagged k := by
  unfold State.hostKick
  rw [if_pos replies]
  split
  · split <;> rfl
  · rfl

theorem State.flagged_answered (u : State) (fields : State → List Nat) (kind tag : Nat) (k : Notice) :
    (u.answered fields kind tag).hl.flagged k = u.hl.flagged k :=
  State.hostKick_flagged_of_replies (by simp [Answer.queued]) k

/-! ### What the withdrawal makes of the queue -/

/-- The commands of a kind that wait behind the head. -/
def ofAction (a : Action) (l : List DoorCmd) : List DoorCmd := l.filter fun c => c.action == a

theorem filter_not_release (l : List DoorCmd) : l.filter (fun c => c.action != .release) = ofAction .close l := by
  refine List.filter_congr fun c _ => ?_
  cases c.action <;> rfl

section
variable {s : State} {head : DoorCmd} {rest : List DoorCmd} (flies : s.dcu.inFlight.isSome = true)
  (queue : s.dcu.queue = head :: rest)
include flies queue

theorem Doors.waitingPart_of_cons : s.dcu.waitingPart = rest := by
  rw [Doors.waitingPart, if_pos flies, queue]
  rfl

theorem Doors.flightPart_of_cons : s.dcu.flightPart = [head] := by
  rw [Doors.flightPart, if_pos flies, queue]
  rfl

/-- The withdrawal behind a command in flight: which waiting commands stay, and which end ABORTED (07 R141). -/
theorem State.withdrawStandstill_eq :
    s.withdrawStandstill =
      let closes := ofAction .close rest
      (s.modDcu fun d => { d with
        queue := head :: { id := (s.dcu.lastId + 1) % 16, action := .close, side := .both, window := 0, automatic := true } ::
          (if closes.length = 3 then closes.take 2 else closes),
        lastId := (s.dcu.lastId + 1) % 16 }).addResults
          ((ofAction .release rest).map abortedResult ++
            (if closes.length = 3 then (closes.drop 2).map abortedResult else [])) := by
  have full : ([head] ++ ofAction .close rest).length = 4 ↔ (ofAction .close rest).length = 3 := by simp
  unfold State.withdrawStandstill
  rw [Doors.waitingPart_of_cons flies queue, Doors.flightPart_of_cons flies queue]
  dsimp only
  rw [if_pos flies, filter_not_release]
  by_cases three : (ofAction .close rest).length = 3
  · simp only [if_pos (full.mpr three), List.dropLast_eq_take, three, List.map_append]
    rfl
  · simp only [if_neg three, if_neg (mt full.mp three), List.map_append]
    rfl

end

/-- Settles O48: standstill withdrawn behind a command in flight. -/
theorem standstillWithdrawalClosesTheTrain : Obligations.StandstillWithdrawalClosesTheTrain := by
  intro s tag head rest slot stands leads flies queue short known closes kept aborted results
  let h := s.holding 0x0B tag [1]
  let u := (h.modDcu fun d => { d with standstill := false }).withdrawStandstill
  have released : s.releaseKnown = true := by
    rcases known with one | two | ⟨c, mem, action⟩
    · simp [State.releaseKnown, one]
    · simp [State.releaseKnown, two]
    · have queued : s.dcu.queue.any (fun c => c.action == .release) = true :=
        List.any_eq_true.mpr ⟨c, mem, by rw [action]; rfl⟩
      rw [State.releaseKnown, queued, Bool.or_true]
  have run : exec (.setStandstill tag [1]) s = .next (u.answered noFields 0x0B tag) := by
    have owner : h.reqSetStandstill 1 = u.accept noFields :=
      congrArg (State.accept · noFields) (if_pos (by
        change (s.dcu.standstill && s.operationalLeader && s.releaseKnown) = true
        simp [stands, leads, released]))
    rw [exec_setStandstill slot, owner]
    rfl
  have withdrawn := State.withdrawStandstill_eq (s := h.modDcu fun d => { d with standstill := false }) flies queue
  rw [run]
  refine ⟨_, rfl, ?_⟩
  obtain ⟨cc, se, dcu, ha⟩ := u.answered_node noFields 0x0B tag
  rw [cc, se, dcu, ha, u.flagged_answered]
  change u = State.addResults _ results at withdrawn
  rw [withdrawn]
  refine ⟨?_, fun some_ masked => ?_, fun none_ => ?_, ?_, ?_, ?_, ?_, ?_⟩
  · rw [State.addResults, State.raiseIf_dcu]
    rfl
  · refine State.told_answered _ _ _ _ ?_
    have raises : (!results.isEmpty) = true := by simpa using some_
    rw [State.addResults, raises]
    exact told_raise_self (s := State.modDcu _ _) masked
  · rw [none_]
    rfl
  · exact (samePorts_of_port fun x => by simp [h, State.holding_port]).trans (State.answered_ports _ _ _ _)
  · simp [h, State.holding]
  · simp [h, State.holding]
  · simp [h, State.holding]
  · exact sameSystem.trans (by simp [sameSystem, h, State.holding]) (State.answered_system _ _ _ _)

end Sys2Proof.Machine
end

section
/-! Set Supply and Supply Trip (08 R151, R152, R158, R159, R161, R162). -/

namespace Sys2Proof.Machine

theorem exec_setSupply {s : State} (slot : takesSlot s) (tag c1 c0 r1 r0 clear : Nat) :
    exec (.setSupply tag [c1, c0, r1, r0, clear]) s =
      .next (((s.holding 0x0D tag [c1, c0, r1, r0, clear]).reqSetSupply (c1 * 256 + c0) (r1 * 256 + r0) clear).queued 0x0D
        tag).hostKick :=
  State.request_done slot rfl tag _

theorem exec_supplyTrip {s : State} (slot : takesSlot s) (tag : Nat) :
    exec (.supplyTrip tag []) s = .next (((s.holding 0x0E tag []).reqSupplyTrip).queued 0x0E tag).hostKick :=
  State.request_done slot rfl tag _

/-! ### The settings -/

/-- The heating state once a supply is set, before its shed run (08 R152, R162). -/
def Heating.supplied (h : Heating) (cap ramp clear : Nat) : Heating :=
  { h with
    capacity := min 4000 cap, ramp := max 1 (min 400 ramp), lockout := h.lockout && !(h.lockout && clear == 1),
    trips := if h.lockout && clear == 1 then [] else h.trips }

/-- The leader once a supply is set, before its shed run (08 R152, R162). -/
def State.supplied (s : State) (cap ramp clear : Nat) : State :=
  let s1 := s.modHa fun h => { h with capacity := min 4000 cap, ramp := max 1 (min 400 ramp) }
  if clear = 1 then s1.clearLockout else s1

/-- What the settings of a supply leave. -/
structure Supplied (s u : State) (cap ramp clear : Nat) : Prop where
  cc : u.cc = s.cc
  se : u.se = s.se
  dcu : u.dcu = s.dcu
  ha : u.ha = s.ha.supplied cap ramp clear
  system : sameSystem s u
  host : sameHost s u
  ports : samePorts s u
  tells : (s.ha.lockout && clear == 1) = true → s.hl.masked .supply = true → told u .supply

theorem State.supplied_supplied {s : State} {clear : Nat} (allowed : clear = 1 ∨ s.ha.lockout = false) (cap ramp : Nat) :
    Supplied s (s.supplied cap ramp clear) cap ramp clear := by
  cases locked : s.ha.lockout
  · have plain : s.supplied cap ramp clear =
        s.modHa fun h => { h with capacity := min 4000 cap, ramp := max 1 (min 400 ramp) } := by
      unfold State.supplied State.clearLockout
      simp [locked]
    rw [plain]
    exact ⟨rfl, rfl, rfl, by simp [Heating.supplied, locked], ⟨rfl, rfl⟩, rfl, ⟨rfl, rfl⟩, fun lifted => by simp [locked] at lifted⟩
  · have clears : clear = 1 := allowed.resolve_right (by simp [locked])
    have cleared : s.supplied cap ramp clear =
        (s.modHa fun h => { h with
          capacity := min 4000 cap, ramp := max 1 (min 400 ramp), lockout := false, trips := [] }).raise .supply := by
      rw [State.supplied, if_pos clears, State.clearLockout, if_pos (by exact locked)]
      rfl
    rw [cleared]
    exact ⟨rfl, rfl, rfl, by simp [Heating.supplied, locked, clears], ⟨rfl, rfl⟩, State.raiseIf_still _ true .supply, ⟨rfl, rfl⟩,
      fun _ masked => told_raise_self masked⟩

theorem State.reqSetSupply_range {s : State} {clear : Nat} (cap ramp : Nat) (bad : 1 < clear) :
    s.reqSetSupply cap ramp clear = s.refuse .range := by
  simp only [State.reqSetSupply, flagOfCode_eq_none bad]

theorem State.reqSetSupply_locked {s : State} (cap ramp : Nat) (locked : s.ha.lockout = true) :
    s.reqSetSupply cap ramp 0 = s.refuse .lockedOut := by
  simp only [State.reqSetSupply, flagOfCode_of_le (Nat.zero_le 1)]
  exact if_pos (by rw [locked]; rfl)

theorem State.reqSetSupply_accepted {s : State} {clear : Nat} (least : clear ≤ 1) (allowed : clear = 1 ∨ s.ha.lockout = false)
    (cap ramp : Nat) :
    s.reqSetSupply cap ramp clear =
      (s.supplied cap ramp clear).shedAtSupply.accept fun t => byte2 t.ha.capacity ++ byte2 t.ha.ramp := by
  have free : (s.ha.lockout && !(clear == 1)) = false := by
    rcases allowed with h | h <;> simp [h]
  simp only [State.reqSetSupply, flagOfCode_of_le least, free, State.supplied, beq_iff_eq]
  rfl

/-! ### The shed run -/

section
variable {s : State}

theorem State.shedAtSupply_rests (rests : s.operationalLeader = false ∨ s.ha.holdOff.isSome = true) : s.shedAtSupply = s := by
  refine if_neg ?_
  rcases rests with h | h <;> simp [h, Heating.barred]

variable (leads : s.operationalLeader = true) (supply : s.ha.holdOff = none) (free : s.ha.lockout = false)
include leads supply free

theorem State.shedAtSupply_same (same : s.shedResult = s.ha.grants) : s.shedAtSupply = s := by
  rw [State.shedAtSupply, if_pos (by simp [leads, Heating.barred, supply, free]), same]
  exact if_pos rfl

theorem State.shedAtSupply_sheds (changed : s.shedResult ≠ s.ha.grants) :
    s.shedAtSupply = (s.modHa fun h => { h with grants := s.shedResult }).issueGrant .shed s.lastSweepNumber := by
  rw [State.shedAtSupply, if_pos (by simp [leads, Heating.barred, supply, free])]
  exact if_neg changed

end

/-- What a shed run keeps, made or not (08 R159). -/
structure ShedKept (s u : State) : Prop where
  cc : u.cc = s.cc
  se : u.se = s.se
  dcu : u.dcu = s.dcu
  system : sameSystem s u
  host : sameHost s u
  tells : ∀ k, told s k → told u k
  settings : u.ha.capacity = s.ha.capacity ∧ u.ha.ramp = s.ha.ramp

theorem State.shedAtSupply_keeps (s : State) : ShedKept s s.shedAtSupply := by
  unfold State.shedAtSupply
  split
  · next runs =>
    obtain ⟨e, claim⟩ := Option.isSome_iff_exists.mp (State.claim_of_operationalLeader (Bool.and_eq_true_iff.mp runs).1)
    dsimp only
    split
    · exact ⟨rfl, rfl, rfl, ⟨rfl, rfl⟩, rfl, fun _ h => h, rfl, rfl⟩
    · have issued := State.issueGrant_issued (s := s.modHa fun h => { h with grants := s.shedResult }) (e := e)
        (fun _ => claim) .shed s.lastSweepNumber
      exact ⟨issued.cc, issued.se, issued.dcu, issued.system, issued.host, issued.tells, by rw [issued.ha]; exact ⟨rfl, rfl⟩⟩
  · exact ⟨rfl, rfl, rfl, ⟨rfl, rfl⟩, rfl, fun _ h => h, rfl, rfl⟩

/-! ### Supply Trip -/

theorem samePorts_modHa (s : State) (f : Heating → Heating) : samePorts s (s.modHa f) := ⟨rfl, rfl⟩

/-- The leader in hold-off, its trip in the history (08 R161, R162). -/
def State.tripped (s : State) : State := (s.modHa fun h => { h with holdOff := some 0 }).recordTrip.raise .supply

/-- What a trip leaves once the grants stand at 0. -/
structure Tripped (s u : State) : Prop where
  cc : u.cc = s.cc
  se : u.se = s.se
  dcu : u.dcu = s.dcu
  ha : u.ha = { s.ha with
    holdOff := some 0, trips := joinTrip s.ha.trips s.sys.ticks,
    lockout := s.ha.lockout || decide (3 ≤ (joinTrip s.ha.trips s.sys.ticks).length) }
  system : sameSystem s u
  host : sameHost s u
  ports : samePorts s u
  tells : s.hl.masked .supply = true → told u .supply

theorem State.tripped_tripped (s : State) : Tripped s s.tripped := by
  have still : sameHost s (s.modHa fun h => { h with holdOff := some 0 }).recordTrip := State.raiseIf_still _ _ .supply
  exact ⟨by simp [State.tripped, State.recordTrip], by simp [State.tripped, State.recordTrip],
    by simp [State.tripped, State.recordTrip],
    by
      rw [State.tripped, State.raise_ha, State.recordTrip, State.raiseIf_ha]
      rfl,
    by simp [State.tripped, State.recordTrip, sameSystem], (State.raiseIf_still _ true .supply).trans still,
    samePorts_of_port fun x => by simp [State.tripped, State.recordTrip],
    fun masked => told_raise_self ((HostLink.masked_of_still still _).trans masked)⟩

/-- The leader as its grants fall to 0, with the GRANT of an OPERATIONAL one (08 R161). -/
def State.tripZeroed (s : State) : State :=
  if s.cc.node = .operational then s.zeroGrants.issueGrant .trip s.lastSweepNumber else s.zeroGrants

/-- What the grants' fall to 0 leaves of a leader. -/
structure TripZeroed (s u : State) (e : PortId) : Prop where
  cc : u.cc = s.cc
  se : u.se = s.se
  dcu : u.dcu = s.dcu
  zero : u.ha.grants = List.replicate 32 0
  settings : u.ha.lockout = s.ha.lockout ∧ u.ha.trips = s.ha.trips ∧ u.ha.rotation = s.ha.rotation ∧
    u.ha.capacity = s.ha.capacity ∧ u.ha.ramp = s.ha.ramp
  system : sameSystem s u
  host : sameHost s u
  apart : s.cc.node ≠ .operational → u.ha.held = s.ha.held ∧ u.ha.lastIssued = s.ha.lastIssued ∧ samePorts s u
  issued : s.cc.node = .operational → u.ha.held = 0 ∧ u.ha.watchdog = some 0 ∧
    u.ha.lastIssued = some (.trip, s.lastSweepNumber)
  sent : s.cc.node = .operational → 2 ≤ s.consistN → samePorts (s.offer (other e)
    { gen := s.cc.gen,
      body := .grant 3 (s.lastSweepNumber.getD 0xFF) s.consistN (List.replicate (min s.consistN 32) 0) }) u

theorem State.tripZeroed_zeroed {s : State} {e : PortId} (claim : s.cc.claim = some e) : TripZeroed s s.tripZeroed e := by
  unfold State.tripZeroed
  split
  · next op =>
    have issued := State.issueGrant_issued (s := s.zeroGrants) (e := e) (fun _ => claim) .trip s.lastSweepNumber
    generalize s.zeroGrants.issueGrant .trip s.lastSweepNumber = u at issued ⊢
    refine ⟨issued.cc, issued.se, issued.dcu, by rw [issued.ha]; rfl, by rw [issued.ha]; exact ⟨rfl, rfl, rfl, rfl, rfl⟩,
      issued.system, issued.host, fun apart => absurd op apart, fun _ => by rw [issued.ha]; exact ⟨rfl, rfl, rfl⟩,
      fun _ many => ?_⟩
    have ports := issued.ports
    rw [if_pos (by exact many)] at ports
    have frame : s.zeroGrants.grantFrame .trip s.lastSweepNumber =
        { gen := s.cc.gen,
          body := .grant 3 (s.lastSweepNumber.getD 0xFF) s.consistN (List.replicate (min s.consistN 32) 0) } := by
      rw [← List.take_replicate]
      rfl
    rw [frame] at ports
    exact (samePorts_offer (samePorts_modHa s _) _ _).trans ports
  · next apart =>
    exact ⟨rfl, rfl, rfl, rfl, ⟨rfl, rfl, rfl, rfl, rfl⟩, ⟨rfl, rfl⟩, rfl, fun _ => ⟨rfl, rfl, ⟨rfl, rfl⟩⟩,
      fun op => absurd op apart, fun op => absurd op apart⟩

theorem State.reqSupplyTrip_accepted {s : State} (claim : s.cc.claim.isSome = true) :
    s.reqSupplyTrip = s.tripZeroed.tripped.accept noFields := if_pos claim

/-- Settles O52: Set Supply by its refusals and its shed run, and Supply Trip by the node state. -/
theorem supplyRequestsShedAndTrip : Obligations.SupplyRequestsShedAndTrip := by
  intro s tag c1 c0 r1 r0 clear e slot payload number cap ramp lifted ha grants trips
  let h := s.holding 0x0D tag payload
  have run := exec_setSupply slot tag c1 c0 r1 r0 clear
  refine ⟨fun bad => ?_, fun zero locked => ?_, fun least allowed => ?_, fun free => ?_, fun claim => ?_⟩
  · rw [run, State.reqSetSupply_range _ _ bad, State.refuse_queued]
  · rw [run, zero, State.reqSetSupply_locked _ _ (by exact locked), State.refuse_queued]
    rw [← zero]
  · have supplied := State.supplied_supplied (s := h) allowed (c1 * 256 + c0) (r1 * 256 + r0)
    have accepted := State.reqSetSupply_accepted (s := h) least allowed (c1 * 256 + c0) (r1 * 256 + r0)
    rw [run, accepted]
    generalize h.supplied _ _ _ = v at supplied ⊢
    have kept := v.shedAtSupply_keeps
    have vha : v.ha = ha := supplied.ha
    have vcc : v.cc = s.cc := supplied.cc
    have before : samePorts s v := (samePorts_of_port (s.holding_port 0x0D tag payload)).trans supplied.ports
    have leader : v.operationalLeader = s.operationalLeader := State.operationalLeader_of_cc vcc
    have free : ha.lockout = false := by
      change (s.ha.lockout && !(s.ha.lockout && clear == 1)) = false
      rcases allowed with h | h <;> simp [h]
    have shed : v.shedResult = grants := by
      rw [State.shedResult, State.consistN, State.powers, vcc, vha, supplied.se]
      rfl
    have summary : v.lastSweepNumber = number := by rw [State.lastSweepNumber, supplied.se]; rfl
    let fields : State → List Nat := fun t => byte2 t.ha.capacity ++ byte2 t.ha.ramp
    change completes (.next (v.shedAtSupply.answered fields 0x0D tag)) _
    obtain ⟨cc, se, dcu, ha'⟩ := v.shedAtSupply.answered_node fields 0x0D tag
    have after := v.shedAtSupply.answered_ports fields 0x0D tag
    have bytes : fields v.shedAtSupply = [cap / 256, cap % 256, ramp / 256, ramp % 256] := by
      change byte2 _ ++ byte2 _ = _
      rw [kept.settings.1, kept.settings.2, vha]
      change byte2 cap ++ byte2 ramp = _
      rw [byte2_of_lt (by omega), byte2_of_lt (by omega)]
      rfl
    refine ⟨_, rfl, ?_⟩
    beta_reduce
    rw [v.shedAtSupply.answered_replies, cc, se, dcu, ha', kept.cc, kept.se, kept.dcu, bytes]
    refine ⟨?_, fun lifts masked => State.told_answered _ _ _ _ (kept.tells _ (supplied.tells lifts masked)), vcc, supplied.se,
      supplied.dcu, sameSystem.trans (supplied.system.trans kept.system) (State.answered_system _ _ _ _), fun rests => ?_,
      fun leads holdOff same => ?_, fun leads holdOff changed claim many => ?_⟩
    · rw [HostLink.replies_of_still (kept.host.trans supplied.host)]
      rfl
    · have stays := State.shedAtSupply_rests (s := v) (by rw [leader, vha]; exact rests)
      rw [stays] at after ⊢
      exact ⟨vha, before.trans after⟩
    · have stays := State.shedAtSupply_same (s := v) (by rw [leader, leads]) (by rw [vha]; exact holdOff) (by rw [vha, free])
        (by rw [shed, same, vha])
      rw [stays] at after ⊢
      exact ⟨vha, before.trans after⟩
    · have sheds := State.shedAtSupply_sheds (s := v) (by rw [leader, leads]) (by rw [vha]; exact holdOff) (by rw [vha, free])
        (by rw [shed, vha]; exact changed)
      have issued := State.issueGrant_issued (s := v.modHa fun h => { h with grants := v.shedResult }) (e := e)
        (fun _ => by rw [State.modHa_cc, vcc, claim]) .shed v.lastSweepNumber
      have consistN : (v.modHa fun h => { h with grants := v.shedResult }).consistN = s.consistN := by
        rw [State.consistN, State.modHa_cc, vcc, State.consistN]
      have frame : (v.modHa fun h => { h with grants := v.shedResult }).grantFrame .shed v.lastSweepNumber =
          { gen := s.cc.gen, body := .grant 2 (number.getD 0xFF) s.consistN (grants.take s.consistN) } := by
        rw [State.grantFrame, consistN, State.modHa_cc, vcc, State.modHa_ha, shed, summary]
        rfl
      have sent := issued.ports
      rw [consistN, if_pos many, frame] at sent
      rw [sheds] at after ⊢
      refine ⟨?_, ((samePorts_offer (before.trans (samePorts_modHa v _)) _ _).trans sent).trans after⟩
      rw [issued.ha, State.modHa_ha, State.modHa_cc, vcc, vha, shed, summary]
  · rw [exec_supplyTrip slot, State.reqSupplyTrip, if_neg (by simp [State.holding, free]), State.refuse_queued]
  · let g := s.holding 0x0E tag []
    have claimed : g.cc.claim.isSome = true := by
      change s.cc.claim.isSome = true
      rw [claim]
      rfl
    have zeroed := State.tripZeroed_zeroed (s := g) claim
    rw [exec_supplyTrip slot, State.reqSupplyTrip_accepted (s := g) claimed]
    generalize g.tripZeroed = w at zeroed ⊢
    have tripped := w.tripped_tripped
    generalize w.tripped = u at tripped ⊢
    have before : samePorts s g := samePorts_of_port (s.holding_port 0x0E tag [])
    have after := tripped.ports.trans (u.answered_ports noFields 0x0E tag)
    obtain ⟨cc, se, dcu, ha'⟩ := u.answered_node noFields 0x0E tag
    obtain ⟨lockout, history, rotation, capacity, ramp_⟩ := zeroed.settings
    have off : (u.answered noFields 0x0E tag).supplyEnable = false := by
      rw [State.supplyEnable, ha', tripped.ha]
      simp
    have joined : joinTrip w.ha.trips w.sys.ticks = trips := by
      rw [history, zeroed.system.1]
      rfl
    change completes (.next (u.answered noFields 0x0E tag)) _
    refine ⟨_, rfl, ?_⟩
    beta_reduce
    rw [off, u.answered_replies, cc, se, dcu, ha', tripped.cc, tripped.se, tripped.dcu, tripped.ha, joined,
      HostLink.replies_of_still (tripped.host.trans zeroed.host)]
    dsimp only
    refine ⟨zeroed.zero, rfl, rfl, rfl, by rw [lockout]; rfl, rotation, capacity, ramp_,
      fun masked => u.told_answered _ _ _ (tripped.tells ((HostLink.masked_of_still zeroed.host _).trans masked)), rfl, zeroed.cc,
      zeroed.se, zeroed.dcu,
      sameSystem.trans (zeroed.system.trans tripped.system) (u.answered_system noFields 0x0E tag), fun apart => ?_, zeroed.issued,
      fun op many => ?_⟩
    · obtain ⟨held, issued, ports⟩ := zeroed.apart apart
      exact ⟨held, issued, (before.trans ports).trans after⟩
    · exact ((samePorts_offer before _ _).trans (zeroed.sent op many)).trans after

end Sys2Proof.Machine
end

section
/-! Set Coach (04 R74, R75; 05 R83; 07 R123). -/

namespace Sys2Proof.Machine

/-- What a changed coach record leaves of the node, before its open timer is examined (04 R75, 05 R83). -/
structure CoachTaken (s u : State) : Prop where
  coach : u.cc.coach = s.cc.coach
  claim : u.cc.claim = s.cc.claim
  system : sameSystem s u
  raised : s.hl.raisedFrom u.hl
  open_ : u.dcu.openTimer = s.dcu.openTimer ∧ u.dcu.boost = s.dcu.boost
  apart : s.cc.node = .detached ∨ s.cc.node = .suspended ∨ s.cc.node = .isolated → u = s
  left : s.cc.node = .operational ∨ s.cc.node = .provisional →
    u.cc.node = .suspended ∧ u.cc.lastExit = .coach ∧ u.cc.table = s.cc.table ∧ leftOperational s u
  calls : s.cc.node = .operational ∨ s.cc.node = .provisional → s.cc.claim = none → ∀ f, s.cc.front = some f →
    (s.cp f).st = .linked → samePorts (s.offer f
      { gen := s.cc.gen, body := .call s.sys.serial (s.cc.position.getD 0xFF) 2 0 }) u
  walks : s.cc.node = .operational → s.cc.claim.isSome = true → samePorts s u ∧ (s.cc.walk = .idle →
    u.cc.walk = .settling ∧ u.cc.settleTimer = some 0)
  renews : s.cc.node = .provisional → s.cc.claim.isSome = true → u.cc.walk = .settling ∧ u.cc.settleTimer = some 0 ∧
    u.cc.records = [] ∧ u.cc.walkTimer = none ∧ samePorts s u

/-- A departure for the coach record leaves the coach's settings as they are, whatever the Consist Controller then does. -/
theorem suspended_for_coach {s u : State} (inConsist : s.cc.node = .operational ∨ s.cc.node = .provisional)
    (node : u.cc.node = (s.suspend .coach).cc.node) (lastExit : u.cc.lastExit = (s.suspend .coach).cc.lastExit)
    (table : u.cc.table = (s.suspend .coach).cc.table) (se : u.se = (s.suspend .coach).se)
    (dcu : u.dcu = (s.suspend .coach).dcu) (ha : u.ha = (s.suspend .coach).ha) (hl : u.hl = (s.suspend .coach).hl) :
    (u.dcu.openTimer = s.dcu.openTimer ∧ u.dcu.boost = s.dcu.boost) ∧
      u.cc.node = .suspended ∧ u.cc.lastExit = .coach ∧ u.cc.table = s.cc.table ∧ leftOperational s u := by
  obtain ⟨-, -, -, -, -, openTimer, boost, -⟩ := s.suspend_sameSettings .coach
  refine ⟨⟨by rw [dcu, openTimer], by rw [dcu, boost]⟩, ?_, ?_, ?_, leftOperational_of_blocks (s.suspend_leftOperational .coach) se
    dcu ha (told_of_hl hl)⟩
  · rw [node, State.suspend_cc_fields]
    exact if_pos inConsist
  · rw [lastExit, State.suspend_cc_fields]
    exact if_pos inConsist
  · rw [table, State.suspend_cc_fields]

/-- A member's departure for its coach record, with its CALL (04 R75). -/
theorem coachTaken_member {s : State} (free : s.cc.claim = none)
    (inConsist : s.cc.node = .operational ∨ s.cc.node = .provisional) :
    CoachTaken s ((s.suspend .coach).emitCall callCoach 0) := by
  have fields := s.suspend_cc_fields .coach
  obtain ⟨open_, left⟩ := suspended_for_coach (u := (s.suspend .coach).emitCall callCoach 0) inConsist (by simp) (by simp) (by simp)
    (by simp) (by simp) (by simp) (by simp)
  refine ⟨by simp [fields], by simp [fields], by simp [sameSystem], by simpa using HostLink.raisedFrom_suspend s .coach, open_,
    fun apart => ?_, fun _ => left, fun _ _ f front linked => ?_, fun _ claimed => by simp [free] at claimed,
    fun _ claimed => by simp [free] at claimed⟩
  · rcases inConsist with h | h <;> simp [h] at apart
  · have before : samePorts s (s.suspend .coach) := samePorts_of_port fun x => s.suspend_port _ x
    rw [State.emitCall_of_member (p := f) (by rw [fields, free]) (by rw [fields, front]) (by simpa using linked)]
    rw [fields, State.suspend_sys]
    exact samePorts_offer before _ _

/-- A leader's departure for its coach record, with its walk trigger (05 R83). -/
theorem coachTaken_leader {s : State} (claimed : s.cc.claim.isSome = true) (op : s.cc.node = .operational) :
    CoachTaken s (s.suspend .coach).walkTrigger := by
  have fields := s.suspend_cc_fields .coach
  have triggered := Consist.triggered_of_claim (c := (s.suspend .coach).cc) (by rw [fields]; exact claimed)
  rw [State.walkTrigger_eq_modCc]
  have cc : ((s.suspend .coach).modCc Consist.triggered).cc = _ := triggered
  obtain ⟨open_, left⟩ := suspended_for_coach (u := (s.suspend .coach).modCc Consist.triggered) (.inl op) (by rw [cc]) (by rw [cc])
    (by rw [cc]) rfl rfl rfl rfl
  have before : samePorts s (s.suspend .coach) := samePorts_of_port fun x => s.suspend_port _ x
  refine ⟨by rw [cc, fields], by rw [cc, fields], ⟨s.suspend_sys _, s.suspend_pending _⟩, HostLink.raisedFrom_suspend s .coach,
    open_, fun apart => by simp [op] at apart, fun _ => left, fun _ free => by simp [free] at claimed, fun _ _ => ⟨before, ?_⟩,
    fun prov => by simp [op] at prov⟩
  intro idle
  rw [cc, fields]
  exact ⟨if_pos idle, if_pos idle⟩

/-- A leader that is walking starts its walk anew for its coach record (05 R83). -/
theorem coachTaken_walker {s : State} (claimed : s.cc.claim.isSome = true) (prov : s.cc.node = .provisional) :
    CoachTaken s ((s.modCc Consist.abandonWalk).suspend .coach).walkTrigger := by
  let a := s.modCc Consist.abandonWalk
  have fields := a.suspend_cc_fields .coach
  have triggered := Consist.triggered_of_claim (c := (a.suspend .coach).cc) (by rw [fields]; exact claimed)
  rw [State.walkTrigger_eq_modCc]
  have cc : ((a.suspend .coach).modCc Consist.triggered).cc = _ := triggered
  obtain ⟨open_, node, lastExit, table, left⟩ := suspended_for_coach (s := a) (u := (a.suspend .coach).modCc Consist.triggered)
    (.inr prov) (by rw [cc]) (by rw [cc]) (by rw [cc]) rfl rfl rfl rfl
  have before : samePorts a (a.suspend .coach) := samePorts_of_port fun x => a.suspend_port _ x
  refine ⟨by rw [cc, fields]; rfl, by rw [cc, fields]; rfl, ⟨a.suspend_sys _, a.suspend_pending _⟩,
    HostLink.raisedFrom_suspend a .coach, open_, fun apart => by simp [prov] at apart,
    fun _ => ⟨node, lastExit, table, left⟩, fun _ free => by simp [free] at claimed, fun op => by simp [prov] at op,
    fun _ _ => ?_⟩
  rw [cc, fields]
  exact ⟨rfl, rfl, rfl, rfl, before⟩

theorem coachTaken_apart {s : State} (notOp : s.cc.node ≠ .operational) (notProv : s.cc.node ≠ .provisional) : CoachTaken s s :=
  ⟨rfl, rfl, ⟨rfl, rfl⟩, HostLink.raisedFrom_refl _, ⟨rfl, rfl⟩, fun _ => rfl, fun h => (h.elim notOp notProv).elim,
    fun h => (h.elim notOp notProv).elim, fun h => absurd h notOp, fun h => absurd h notProv⟩

/-- A changed coach record, by claim and node state (04 R75, 05 R83). -/
theorem State.coachChanged_taken (s : State) : CoachTaken s s.coachChanged := by
  unfold State.coachChanged
  split
  · next free prov => exact coachTaken_member free (.inr prov)
  · next free op => exact coachTaken_member free (.inl op)
  · next claim prov => exact coachTaken_walker (by rw [claim]; rfl) prov
  · next claim op => exact coachTaken_leader (by rw [claim]; rfl) op
  all_goals
    next node => exact coachTaken_apart (by simp [node]) (by simp [node])

/-! ### The request -/

theorem exec_setCoach {s : State} (slot : takesSlot s) (tag cls l1 l2 w : Nat) :
    exec (.setCoach tag [cls, l1, l2, w]) s =
      .next (((s.holding 0x02 tag [cls, l1, l2, w]).reqSetCoach cls l1 l2 w).queued 0x02 tag).hostKick :=
  State.request_done slot rfl tag _

/-- Settles O47: a field out of its range, an unchanged record, and a changed one by node state and claim. -/
theorem coachChangesSuspendTheNode : Obligations.CoachChangesSuspendTheNode := by
  intro s tag cls l1 l2 w f slot
  let h := s.holding 0x02 tag [cls, l1, l2, w]
  have run := exec_setCoach slot tag cls l1 l2 w
  refine ⟨fun bad => ?_, fun class_ first second least most => ?_⟩
  · rw [run, State.reqSetCoach, if_pos bad, State.refuse_queued]
  intro coach
  have fits : ¬ (15 < cls ∨ 4 < l1 ∨ 4 < l2 ∨ w = 0 ∨ 40 < w) := by omega
  refine ⟨fun same => ?_, fun changed => ?_⟩
  · have owner : h.reqSetCoach cls l1 l2 w = h.accept noFields := (if_neg fits).trans (if_pos same)
    rw [run, owner]
    rfl
  · let k := h.modCc fun c => { c with coach }
    have owner : h.reqSetCoach cls l1 l2 w = k.coachChanged.examineOpen.accept noFields :=
      (if_neg fits).trans (if_neg changed)
    have taken := k.coachChanged_taken
    rw [run, owner]
    generalize k.coachChanged = u at taken ⊢
    change completes (.next (u.examineOpen.answered noFields 0x02 tag)) _
    obtain ⟨cc, se, dcu, ha⟩ := u.examineOpen.answered_node noFields 0x02 tag
    rw [State.examineOpen_cc] at cc
    rw [State.examineOpen_se] at se
    rw [State.examineOpen_dcu] at dcu
    rw [State.examineOpen_ha] at ha
    have before : samePorts s k := samePorts_of_port (s.holding_port 0x02 tag [cls, l1, l2, w])
    have after : samePorts u (u.examineOpen.answered noFields 0x02 tag) :=
      u.examineOpen_ports.trans (u.examineOpen.answered_ports noFields 0x02 tag)
    have raised := HostLink.raisedFrom_trans taken.raised (HostLink.raisedFrom_examineOpen u)
    have leaves : (u.examineOpen.answered noFields 0x02 tag).anyLeafOpen = u.anyLeafOpen :=
      State.anyLeafOpen_of_settings (by rw [dcu]) (by rw [dcu]) (by rw [cc])
    have system : sameSystem k u.examineOpen := taken.system.trans (by simp [sameSystem])
    have replies := u.examineOpen.answered_replies noFields 0x02 tag
    rw [HostLink.replies_of_raisedFrom raised] at replies
    have tells : told u .consist → told (u.examineOpen.answered noFields 0x02 tag) .consist := fun h =>
      u.examineOpen.told_answered noFields 0x02 tag (told_of_raisedFrom (HostLink.raisedFrom_examineOpen u) h)
    have answered := u.examineOpen.answered_system noFields 0x02 tag
    generalize u.examineOpen.answered noFields 0x02 tag = t at *
    refine ⟨t, rfl, replies, ?_⟩
    refine ⟨system.trans answered, by rw [cc, taken.coach]; rfl, by rw [cc, taken.claim]; rfl, ?_, ?_, fun apart => ?_,
      fun inConsist => ?_, fun inConsist free front linked => ?_, fun op claimed idle => ?_, fun prov claimed => ?_⟩
    · rw [leaves, dcu, taken.open_.1]
      rfl
    · rw [leaves, dcu, taken.open_.2]
      rfl
    · have stays := taken.apart apart
      rw [cc, se, ha, stays]
      exact ⟨rfl, before.trans (stays ▸ after), rfl, rfl⟩
    · obtain ⟨node, lastExit, table, left⟩ := taken.left inConsist
      rw [cc]
      exact ⟨node, lastExit, table, leftOperational_of_blocks (t := u.modDcu fun d => { d with
        boost := u.anyLeafOpen && d.boost,
        openTimer := if u.anyLeafOpen then (if d.openTimer.isSome then d.openTimer else some 0) else none })
        left se dcu ha tells⟩
    · exact ((samePorts_offer before _ _).trans (taken.calls inConsist free f front linked)).trans after
    · obtain ⟨ports, walks⟩ := taken.walks op claimed
      rw [cc]
      exact ⟨(walks idle).1, (walks idle).2, (before.trans ports).trans after⟩
    · obtain ⟨walk, settle, records, walkTimer, ports⟩ := taken.renews prov claimed
      rw [cc]
      exact ⟨walk, settle, records, walkTimer, (before.trans ports).trans after⟩

end Sys2Proof.Machine
end

section
/-! What the node makes of a neighbour at a LINKED port, its appearance and its loss (04 R67, R68; 05 R82, R83). -/

namespace Sys2Proof.Machine

/-! ### A frame offered at a LINKED port -/

/-- A relay that takes a frame in at a LINKED port, and the frame that its transmitter then starts (02 R36, R41). -/
def Relay.offered (r : Relay) (c : Cls) (f : Frame) (cp : Coupler) : Relay :=
  let q := r.enqueue c f
  if q.tx.isSome then q
  else if cp.patternDue then { q with tx := some (.pattern cp.patternReady cp.rate) }
  else
    match q.choice with
    | none => q
    | some c =>
      match q.takeHead c with
      | none => q
      | some (f, r) => { r with tx := some (.frame c cp.txSeq f cp.stepPending) }

theorem State.offer_lr_of_linked {s : State} {p : PortId} (linked : (s.cp p).st = .linked) {f : Frame} {c : Cls}
    (classed : f.body.cls = some c) : (s.offer p f).lr p = (s.lr p).offered c f (s.cp p) := by
  let u := s.modLr p fun r => r.enqueue c f
  have lr : u.lr p = (s.lr p).enqueue c f := State.modLr_lr _ _ _
  have cp : u.cp p = s.cp p := State.modLr_cp _ _ _
  have may : (s.cp p).maySendPattern = true := by simp [Coupler.maySendPattern, linked]
  have sent : s.offer p f = u.kickLine p := by
    rw [State.offer, classed]
    exact if_pos (by simp [Coupler.takesFrames, linked])
  rw [sent]
  unfold State.kickLine Relay.offered
  rw [cp, lr, may, linked]
  dsimp only
  split
  · exact lr
  · rw [Bool.and_true]
    split
    · rw [State.startPattern, State.modCp_lr, State.modLr_lr, lr, cp]
    · rw [if_pos (by rfl)]
      cases (s.lr p |>.enqueue c f).choice with
      | none => exact lr
      | some best =>
        dsimp only
        rw [State.startFrame, lr]
        cases ((s.lr p).enqueue c f).takeHead best with
        | none => exact lr
        | some taken =>
          dsimp only
          rw [State.modCp_lr, State.modLr_lr, cp]

/-- A coupler port but for its pairs and what a BEAT settles. -/
def Coupler.bare (c : Coupler) : Coupler := { c.settled with rateSettled := false }

theorem Relay.offered_bare (r : Relay) (c : Cls) (f : Frame) (cp : Coupler) : r.offered c f cp.bare = r.offered c f cp := rfl

/-- Two states that a LINKED port's frames do not tell apart: of the state only port p has changed, and there not its queues. -/
structure AlikeAt (s k : State) (p : PortId) : Prop extends OnlyPort s k p where
  lr : k.lr p = s.lr p
  bare : (k.cp p).bare = (s.cp p).bare

theorem AlikeAt.called {s k t : State} {p x : PortId} {cause port : Nat} (alike : AlikeAt s k p) (h : called k t x cause port) :
    called s t x cause port := by
  have cc := alike.node.1
  by_cases here : x = p
  · subst here
    have bare := congrArg Coupler.st alike.bare
    have st : (k.cp x).st = (s.cp x).st := bare
    unfold Machine.called at h ⊢
    rw [h, cc, st, alike.system.1, alike.lr]
    split
    · next calls =>
      obtain ⟨-, -, linked⟩ := calls
      rw [State.offer_lr_of_linked (st.trans linked) rfl, State.offer_lr_of_linked linked rfl, alike.lr, ← Relay.offered_bare,
        alike.bare, Relay.offered_bare]
    · rfl
  · have same : k.port x = s.port x := by
      rw [eq_other_of_ne here]
      exact alike.other
    exact called_of_same (by rw [cc]) (by rw [cc]) (by rw [cc]) (by rw [cc]) (by rw [alike.system.1]) same h

/-! ### The node's answer -/

/-- What the node's answer to a neighbour leaves of the ports, and of the system and the host link. -/
structure PortsKept (k h : State) : Prop where
  st : ∀ x, (h.cp x).st = (k.cp x).st
  step : ∀ x, (h.cp x).step = (k.cp x).step
  rateSettled : ∀ x, (h.cp x).rateSettled = (k.cp x).rateSettled
  held : ∀ x, (h.cp x).held = (k.cp x).held
  nm : ∀ x, h.nm x = k.nm x
  system : sameSystem k h
  raised : k.hl.raisedFrom h.hl

theorem PortsKept.of_port {k h : State} (port : ∀ x, h.port x = k.port x) (system : sameSystem k h)
    (raised : k.hl.raisedFrom h.hl) : PortsKept k h where
  st x := congrArg (fun y : Port => y.cp.st) (port x)
  step x := congrArg (fun y : Port => y.cp.step) (port x)
  rateSettled x := congrArg (fun y : Port => y.cp.rateSettled) (port x)
  held x := congrArg (fun y : Port => y.cp.held) (port x)
  nm x := congrArg Port.nm (port x)
  system := system
  raised := raised

theorem PortsKept.trans {k h t : State} (a : PortsKept k h) (b : PortsKept h t) : PortsKept k t :=
  ⟨fun x => (b.st x).trans (a.st x), fun x => (b.step x).trans (a.step x), fun x => (b.rateSettled x).trans (a.rateSettled x),
    fun x => (b.held x).trans (a.held x), fun x => (b.nm x).trans (a.nm x), a.system.trans b.system,
    HostLink.raisedFrom_trans a.raised b.raised⟩

/-- What an offer keeps of its own port's coupler it keeps of both. -/
theorem State.offer_cp_field {α : Type} (read : Coupler → α) {s : State} {p : PortId} {f : Frame}
    (here : read ((s.offer p f).cp p) = read (s.cp p)) (x : PortId) : read ((s.offer p f).cp x) = read (s.cp x) := by
  by_cases e : x = p
  · rw [e, here]
  · exact congrArg (fun y : Port => read y.cp) (State.offer_port_of_ne s e f)

theorem State.offer_kept (s : State) (p : PortId) (f : Frame) : PortsKept s (s.offer p f) where
  st := State.offer_cp_field Coupler.st (s.offer_cp_st p f)
  step := State.offer_cp_field Coupler.step (s.offer_cp_step p f)
  rateSettled := State.offer_cp_field Coupler.rateSettled (s.offer_cp_rateSettled p f)
  held := State.offer_cp_field Coupler.held (s.offer_cp_held p f)
  nm x := by simp
  system := by simp [sameSystem]
  raised := by simpa using HostLink.raisedFrom_refl _

theorem State.emitCall_kept (s : State) (cause port : Nat) : PortsKept s (s.emitCall cause port) := by
  unfold State.emitCall
  split
  · split
    · exact s.offer_kept _ _
    · exact .of_port (fun _ => rfl) ⟨rfl, rfl⟩ (HostLink.raisedFrom_refl _)
  · exact .of_port (fun _ => rfl) ⟨rfl, rfl⟩ (HostLink.raisedFrom_refl _)

theorem State.suspend_kept (s : State) (c : ExitCause) : PortsKept s (s.suspend c) :=
  .of_port (fun x => s.suspend_port c x) ⟨s.suspend_sys c, s.suspend_pending c⟩ (HostLink.raisedFrom_suspend s c)

theorem State.walkTrigger_kept (s : State) : PortsKept s s.walkTrigger := by
  rw [State.walkTrigger_eq_modCc]
  exact .of_port (fun x => by simp) ⟨rfl, rfl⟩ (HostLink.raisedFrom_refl _)

theorem State.raise_kept (s : State) (k : Notice) : PortsKept s (s.raise k) :=
  .of_port (fun x => by simp) (by simp [sameSystem]) (HostLink.raisedFrom_raiseIf s true k)

theorem State.cabEndLoss_port (s : State) (x : PortId) : s.cabEndLoss.port x = s.port x := by
  simp [State.cabEndLoss, State.endClaim]

theorem State.cabEndLoss_kept (s : State) : PortsKept s s.cabEndLoss := by
  refine .of_port s.cabEndLoss_port (by simp [sameSystem, State.cabEndLoss, State.endClaim]) ?_
  exact HostLink.raisedFrom_trans (HostLink.raisedFrom_suspend s .claim) (HostLink.raisedFrom_raise _ _)

/-! ### The loss -/

/-- What the node makes of the loss or the change of the neighbour at a port (04 R67). -/
structure LossSeen (k h : State) (p : PortId) : Prop extends PortsKept k h where
  gone : neighbourGone k h p
  calls : k.cc.node = .operational ∨ k.cc.node = .provisional → ∀ x, called k h x 0 (portNumber p)
  silent : k.cc.node ≠ .operational → k.cc.node ≠ .provisional → ∀ x, h.lr x = k.lr x

theorem lossSeen_member {s : State} (p : PortId) (free : s.cc.claim = none)
    (inConsist : s.cc.node = .operational ∨ s.cc.node = .provisional) :
    LossSeen s ((s.suspend .neighbour).emitCall callNeighbour (portNumber p)) p where
  toPortsKept := (s.suspend_kept .neighbour).trans (State.emitCall_kept _ _ _)
  gone := by
    refine ⟨fun _ => ?_, fun claimed => by simp [free] at claimed, fun _ => ?_⟩
    · rw [State.emitCall_cc, State.suspend_cc_fields]
    · exact leftOperational_of_blocks (s.suspend_leftOperational .neighbour) (by simp) (by simp) (by simp)
        (fun h => by simpa [told] using h)
  calls _ x := called_suspend_emitCall s x _ _ _
  silent notOp notProv := (inConsist.elim notOp notProv).elim

theorem State.ccGone_seen (s : State) (p : PortId) : LossSeen s (s.ccGone p) p := by
  have still {u : State} {q : PortId} (kept : PortsKept s u) (gone : Machine.neighbourGone s u q) (claimed : s.cc.claim ≠ none)
      (lr : ∀ x, u.lr x = s.lr x) : LossSeen s u q :=
    ⟨kept, gone, fun _ x => called_of_claim claimed (lr x), fun _ _ => lr⟩
  unfold State.ccGone
  split
  · next e claim =>
    split
    · next at_ =>
      exact still (.of_port (fun _ => rfl) ⟨rfl, rfl⟩ (HostLink.raisedFrom_refl _)) (gone_cabEnd (at_ ▸ claim)).gone
        (by simp [claim]) fun _ => rfl
    · next away =>
      have rear : s.cc.claim = some (other p) := claim.trans (congrArg some (eq_other_of_ne fun h => away h.symm))
      have gone := gone_leader rear
      have port (x : PortId) : ((if s.cc.node = .operational then s.suspend .neighbour else s).walkTrigger).port x = s.port x :=
        (State.walkTrigger_port _ x).trans (s.suspendIfOperational_port x)
      exact still (.of_port port gone.system gone.raised) gone.gone (by simp [claim]) fun x => congrArg Port.lr (port x)
  · next free =>
    split
    · next prov => exact lossSeen_member p free (.inr prov)
    · next op => exact lossSeen_member p free (.inl op)
    all_goals
      next node =>
        have apart := gone_apart (p := p) free (by simp [node]) (by simp [node])
        exact ⟨.of_port (fun _ => rfl) ⟨rfl, rfl⟩ (HostLink.raisedFrom_refl _), apart.gone,
          fun inConsist => by simp [node] at inConsist, fun _ _ _ => rfl⟩

/-! ### The appearance -/

/-- What the node makes of the neighbour that has become PRESENT at a port (04 R67, R68; 05 R82, R83). -/
structure Appeared (k h : State) (p : PortId) : Prop extends PortsKept k h where
  member : k.cc.claim = none → k.cc.node ≠ .provisional → h.cc = k.cc
  provisional : k.cc.claim = none → k.cc.node = .provisional → neighbourGone k h p ∧ ∀ x, called k h x 0 (portNumber p)
  operational : k.cc.node = .operational → ∀ x, called k h x 1 (portNumber p)
  silent : k.cc.node ≠ .operational → k.cc.node ≠ .provisional → ∀ x, h.lr x = k.lr x
  cabEnd : k.cc.claim = some p → h.cc.claim = none ∧ h.cc.leadCause = .cabEnd ∧ h.cc.node = .suspended
  rear : k.cc.claim = some (other p) → h.cc.node = k.cc.node ∧ h.cc.claim = k.cc.claim ∧
    (k.cc.walk = .idle → h.cc.walk = .settling ∧ h.cc.settleTimer = some 0)

theorem State.ccPresent_appeared (s : State) (p : PortId) : Appeared s (s.ccPresent p) p := by
  unfold State.ccPresent
  split
  · next e claim =>
    have claimed : s.cc.claim ≠ none := by simp [claim]
    split
    · next at_ =>
      have lr (x : PortId) : s.cabEndLoss.lr x = s.lr x := congrArg Port.lr (s.cabEndLoss_port x)
      refine ⟨s.cabEndLoss_kept, fun free => absurd free claimed, fun free => absurd free claimed,
        fun _ x => called_of_claim claimed (lr x), fun _ _ => lr, fun _ => ?_, fun rear => ?_⟩
      · exact ⟨rfl, rfl, rfl⟩
      · rw [claim, ← at_] at rear
        exact absurd (Option.some.inj rear).symm (other_ne p)
    · next away =>
      have lr (x : PortId) : s.walkTrigger.lr x = s.lr x := congrArg Port.lr (s.walkTrigger_port x)
      refine ⟨s.walkTrigger_kept, fun free => absurd free claimed, fun free => absurd free claimed,
        fun _ x => called_of_claim claimed (lr x), fun _ _ => lr, fun cab => ?_, fun _ => ?_⟩
      · rw [claim] at cab
        exact absurd (Option.some.inj cab).symm away
      · rw [State.walkTrigger_eq (by simp [claim])]
        dsimp only [State.modCc]
        split
        · exact ⟨rfl, rfl, fun _ => ⟨rfl, rfl⟩⟩
        · next busy => exact ⟨rfl, rfl, fun idle => absurd idle busy⟩
  · next free =>
    have notClaimed {q : PortId} : s.cc.claim ≠ some q := by simp [free]
    split
    · next prov =>
      have seen := lossSeen_member p free (.inr prov)
      exact ⟨seen.toPortsKept, fun _ node => absurd prov node, fun _ _ => ⟨seen.gone, seen.calls (.inr prov)⟩,
        fun op => by simp [prov] at op, fun _ node => absurd prov node, fun h => absurd h notClaimed, fun h => absurd h notClaimed⟩
    · next op =>
      exact ⟨s.emitCall_kept _ _, fun _ _ => State.emitCall_cc _ _ _, fun _ prov => by simp [op] at prov,
        fun _ x => s.called_emitCall x _ _, fun node => absurd op node, fun h => absurd h notClaimed, fun h => absurd h notClaimed⟩
    all_goals
      next node =>
        exact ⟨.of_port (fun _ => rfl) ⟨rfl, rfl⟩ (HostLink.raisedFrom_refl _), fun _ _ => rfl, fun _ prov => by simp [node] at prov,
          fun op => by simp [node] at op, fun _ _ _ => rfl, fun h => absurd h notClaimed, fun h => absurd h notClaimed⟩

end Sys2Proof.Machine
end

section
/-! A delivered BEAT (03 R50 to R53, R55; 01 R14; 04 R67, R68). -/

namespace Sys2Proof.Machine

/-! ### What a BEAT says -/

theorem portOfNumber_isNone_iff (a : Nat) : (portOfNumber a).isNone = true ↔ a = 0 ∨ 2 < a := by
  match a with
  | 0 | 1 | 2 => simp [portOfNumber]
  | _ + 3 => simp [portOfNumber]

theorem nodeStateOfCode_isNone_iff (a : Nat) : (nodeStateOfCode a).isNone = true ↔ 4 < a := by
  match a with
  | 0 | 1 | 2 | 3 | 4 => simp [nodeStateOfCode]
  | _ + 5 => simp [nodeStateOfCode]

theorem beatInvalid_iff (b : BeatBody) :
    beatInvalid b = true ↔ b.serial = 0 ∨ b.port = 0 ∨ 2 < b.port ∨ 4 < b.node ∨ 2 < b.maxRate ∨ 2 < b.rate := by
  simp only [beatInvalid, Bool.or_eq_true, beq_iff_eq, portOfNumber_isNone_iff, nodeStateOfCode_isNone_iff, decide_eq_true_eq]
  tauto

/-! ### The rate decision (01 R14, R16) -/

section
variable {c : Coupler} {farMax : Nat} (linked : c.st = .linked) (idle : c.step = .none)
include linked idle

theorem Coupler.rateDecision_steps (unsettled : c.rateSettled = false) (base : c.rate = 0)
    (above : c.rate < min c.advertised farMax) :
    c.rateDecision farMax = { c with step := .pending (min c.advertised farMax) } := by
  rw [Coupler.rateDecision, if_pos ⟨linked, idle, unsettled⟩, if_pos ⟨by simp [Coupler.stepped, base], above⟩]

theorem Coupler.rateDecision_settles
    (settles : c.rateSettled = true ∨ c.rate ≠ 0 ∨ min c.advertised farMax ≤ c.rate) :
    c.rateDecision farMax = { c with rateSettled := true } := by
  unfold Coupler.rateDecision
  split
  · next unsettled =>
    refine if_neg fun ⟨base, above⟩ => ?_
    rcases settles with h | h | h
    · simp [h] at unsettled
    · simp [Coupler.stepped, h] at base
    · omega
  · next settled =>
    have settled : c.rateSettled = true := by
      by_contra unsettled
      exact settled ⟨linked, idle, by simpa using unsettled⟩
    rw [← settled]

end

/-! ### The notice to the host -/

theorem LossSeen.taken {k h : State} {p : PortId} (seen : LossSeen k h p) : LossTaken k h p :=
  ⟨seen.gone, fun inConsist => seen.calls inConsist (other p), fun notOp notProv => seen.silent notOp notProv (other p)⟩

theorem called_raise {k h : State} {x : PortId} {cause port : Nat} (calls : called k h x cause port) (n : Notice) :
    called k (h.raise n) x cause port := by
  have lr : (h.raise n).lr x = h.lr x := by simp
  unfold called at calls ⊢
  rw [lr, calls]

theorem neighbourGone_raise {k h : State} {p : PortId} (taken : LossTaken k h p) (n : Notice) : neighbourGone k (h.raise n) p :=
  (taken.of_same (OnlyPort.refl k p) (OnlyPort.raise h p n).node (by simp) fun _ => told_raise n).gone

theorem LossSeen.raise {k h : State} {p : PortId} (seen : LossSeen k h p) (n : Notice) : LossSeen k (h.raise n) p where
  toPortsKept := seen.toPortsKept.trans (h.raise_kept n)
  gone := neighbourGone_raise seen.taken n
  calls inConsist x := called_raise (seen.calls inConsist x) n
  silent notOp notProv x := (congrArg Port.lr (by simp : (h.raise n).port x = h.port x)).trans (seen.silent notOp notProv x)

/-- The loss that a PROVISIONAL member makes of the neighbour that appears (04 R67). -/
theorem Appeared.taken {k h : State} {p : PortId} (seen : Appeared k h p) (free : k.cc.claim = none)
    (prov : k.cc.node = .provisional) : LossTaken k h p := by
  obtain ⟨gone, calls⟩ := seen.provisional free prov
  exact ⟨gone, fun _ => calls _, fun _ notProv => absurd prov notProv⟩

/-- The neighbour that has become PRESENT, with the notice of it. -/
theorem Appeared.raise {k h : State} {p : PortId} (seen : Appeared k h p) (n : Notice) : Appeared k (h.raise n) p where
  toPortsKept := seen.toPortsKept.trans (h.raise_kept n)
  member := seen.member
  provisional free prov := by
    obtain ⟨-, calls⟩ := seen.provisional free prov
    exact ⟨neighbourGone_raise (seen.taken free prov) n, fun x => called_raise (calls x) n⟩
  operational op x := called_raise (seen.operational op x) n
  silent notOp notProv x := (congrArg Port.lr (by simp : (h.raise n).port x = h.port x)).trans (seen.silent notOp notProv x)
  cabEnd := seen.cabEnd
  rear := seen.rear

/-! ### The states of a BEAT -/

theorem DeliveredTo.alike {s d : State} {p : PortId} {seq : Nat} (at_ : DeliveredTo s d p seq) : AlikeAt s d p where
  other := at_.other
  node := at_.node
  system := at_.system
  raised := at_.hl ▸ HostLink.raisedFrom_refl _
  lr := at_.lr
  bare := congrArg (fun c : Coupler => ({ c with rateSettled := false } : Coupler)) at_.settled

theorem AlikeAt.trans {s k m : State} {p : PortId} (a : AlikeAt s k p) (b : AlikeAt k m p) : AlikeAt s m p :=
  ⟨a.toOnlyPort.trans b.toOnlyPort, b.lr.trans a.lr, b.bare.trans a.bare⟩

theorem AlikeAt.modNm (s : State) (p : PortId) (f : Nbr → Nbr) : AlikeAt s (s.modNm p f) p :=
  ⟨OnlyPort.modNm s p f, by simp, by simp⟩

theorem AlikeAt.raise (s : State) (p : PortId) (k : Notice) : AlikeAt s (s.raise k) p :=
  ⟨OnlyPort.raise s p k, by simp, by simp⟩

/-- A state that a delivered BEAT leads to before its node answers, its port settled (01 R16). -/
structure BeatAt (s k : State) (p : PortId) : Prop extends AlikeAt s k p where
  st : (k.cp p).st = .linked
  step : (k.cp p).step = .none
  rateSettled : (k.cp p).rateSettled = true
  held : (k.cp p).held = none

theorem BeatAt.of_cp {s k m : State} {p : PortId} (at_ : BeatAt s k p) (alike : AlikeAt k m p) (cp : m.cp p = k.cp p) :
    BeatAt s m p :=
  ⟨at_.toAlikeAt.trans alike, by rw [cp, at_.st], by rw [cp, at_.step], by rw [cp, at_.rateSettled], by rw [cp, at_.held]⟩

theorem BeatAt.modNm {s k : State} {p : PortId} (at_ : BeatAt s k p) (f : Nbr → Nbr) : BeatAt s (k.modNm p f) p :=
  at_.of_cp (.modNm k p f) (by simp)

theorem BeatAt.raise {s k : State} {p : PortId} (at_ : BeatAt s k p) (n : Notice) : BeatAt s (k.raise n) p :=
  at_.of_cp (.raise k p n) (by simp)

theorem DeliveredTo.cp_field {s d : State} {p : PortId} {seq : Nat} (at_ : DeliveredTo s d p seq) {α : Type}
    (read : Coupler → α) : read (d.cp p).settled = read (s.cp p).settled := congrArg read at_.settled

section
variable {s d : State} {p : PortId} {q : PairId} {seq farMax : Nat} (at_ : DeliveredTo s d p seq) (now : deliversNow s p q seq)
  (idle : (s.cp p).step = .none)
include at_ now idle

/-- The port of a delivered BEAT that makes a rate step pending (01 R14). -/
theorem DeliveredTo.stepping (unsettled : (s.cp p).rateSettled = false) (base : (s.cp p).rate = 0)
    (above : (s.cp p).rate < min (s.cp p).advertised farMax) :
    (d.modCp p fun c => c.rateDecision farMax).cp p = { d.cp p with step := .pending (min (s.cp p).advertised farMax) } ∧
      (d.cp p).st = .linked ∧ (d.cp p).rateSettled = false := by
  obtain ⟨-, linked, -⟩ := now
  have st : (d.cp p).st = .linked := (at_.cp_field Coupler.st).trans linked
  have step : (d.cp p).step = .none := (at_.cp_field Coupler.step).trans idle
  have rate : (d.cp p).rate = (s.cp p).rate := at_.cp_field Coupler.rate
  have advertised : (d.cp p).advertised = (s.cp p).advertised := at_.cp_field Coupler.advertised
  have was : (d.cp p).rateSettled = false := (at_.cp_field Coupler.rateSettled).trans unsettled
  have decision := Coupler.rateDecision_steps st step was (by rwa [rate]) (by rwa [rate, advertised])
  rw [advertised] at decision
  exact ⟨by rw [State.modCp_cp, decision], st, was⟩

/-- The port of a delivered BEAT that does not begin a rate step. -/
theorem DeliveredTo.beatAt
    (settles : (s.cp p).rateSettled = true ∨ (s.cp p).rate ≠ 0 ∨ min (s.cp p).advertised farMax ≤ (s.cp p).rate) :
    BeatAt s (d.modCp p fun c => c.rateDecision farMax) p := by
  obtain ⟨-, linked, -⟩ := now
  have st : (d.cp p).st = .linked := (at_.cp_field Coupler.st).trans linked
  have step : (d.cp p).step = .none := (at_.cp_field Coupler.step).trans idle
  have rate : (d.cp p).rate = (s.cp p).rate := at_.cp_field Coupler.rate
  have advertised : (d.cp p).advertised = (s.cp p).advertised := at_.cp_field Coupler.advertised
  have was : (d.cp p).rateSettled = (s.cp p).rateSettled := at_.cp_field Coupler.rateSettled
  have decision := Coupler.rateDecision_settles st step (by rwa [was, rate, advertised])
  have cp : (d.modCp p fun c => c.rateDecision farMax).cp p = { d.cp p with rateSettled := true } := by
    rw [State.modCp_cp, decision]
  exact ⟨at_.alike.trans ⟨OnlyPort.modCp d p _, by simp, by rw [cp]; rfl⟩, by rw [cp, st], by rw [cp, step], by rw [cp],
    by rw [cp, at_.held]⟩

end

/-- The general part of what follows a BEAT at a settled port. -/
structure BeatMet (s k h t : State) (p : PortId) : Prop where
  at_ : BeatAt s k p
  kept : PortsKept k h
  scored : Scored h t p

namespace BeatMet
variable {s k h t : State} {p : PortId} (met : BeatMet s k h t p)
include met

theorem st : (t.cp p).st = .linked := by
  have same := congrArg Coupler.st met.scored.settled
  exact (show (t.cp p).st = (h.cp p).st from same).trans ((met.kept.st p).trans met.at_.st)

theorem step : (t.cp p).step = .none := by
  have same := congrArg Coupler.step met.scored.settled
  exact (show (t.cp p).step = (h.cp p).step from same).trans ((met.kept.step p).trans met.at_.step)

theorem rateSettled : (t.cp p).rateSettled = true := by
  have same := congrArg Coupler.rateSettled met.scored.settled
  exact (show (t.cp p).rateSettled = (h.cp p).rateSettled from same).trans ((met.kept.rateSettled p).trans met.at_.rateSettled)

theorem nm : t.nm p = k.nm p := met.scored.nm.trans (met.kept.nm p)

theorem otherNm : t.nm (other p) = s.nm (other p) :=
  (congrArg Port.nm met.scored.other).trans ((met.kept.nm (other p)).trans (congrArg Port.nm met.at_.other))

theorem lr (x : PortId) : t.lr x = h.lr x := by
  by_cases here : x = p
  · rw [here, met.scored.lr]
  · rw [eq_other_of_ne here]
    exact congrArg Port.lr met.scored.other

theorem system : sameSystem s t := (met.at_.system.trans met.kept.system).trans met.scored.system

theorem host : sameHost s t :=
  met.scored.host.trans (HostLink.still_of_raisedFrom (HostLink.raisedFrom_trans met.at_.raised met.kept.raised))

theorem tells {n : Notice} (raises : k.hl.masked n = true → told h n) (masked : s.hl.masked n = true) : told t n :=
  met.scored.tells n (raises (by rwa [met.at_.masked]))

/-- The node's answer, read off the state before the BEAT. -/
theorem called {x : PortId} {cause port : Nat} (calls : Machine.called k h x cause port) : Machine.called s t x cause port := by
  refine met.at_.toAlikeAt.called ?_
  unfold Machine.called at calls ⊢
  rw [met.lr, calls]

theorem silent {x : PortId} (silent : h.lr x = k.lr x) : t.lr x = s.lr x := by
  rw [met.lr, silent]
  by_cases here : x = p
  · rw [here, met.at_.lr]
  · rw [eq_other_of_ne here]
    exact congrArg Port.lr met.at_.other

theorem neighbourGone (taken : LossTaken k h p) : Machine.neighbourGone s t p :=
  (taken.of_same met.at_.toOnlyPort met.scored.node (met.lr _) met.scored.tells).gone

end BeatMet

end Sys2Proof.Machine
end

section
/-! O26: a delivered BEAT at the Neighbour Monitor (03 R50 to R53; 01 R14). -/

namespace Sys2Proof.Machine

/-! ### The announcement -/

theorem State.announce_rests {s : State} {p : PortId} (rests : (s.nm p).status ≠ .absent ∨ (s.cp p).step ≠ .none) :
    s.announce p = s := by
  unfold State.announce
  split
  · rfl
  · refine if_neg fun ⟨absent, _, idle, _⟩ => ?_
    exact rests.elim (fun h => h absent) fun h => h idle

/-- A state that a BEAT leads to at a settled port, with the neighbour r as the monitor then holds it, and the node's answer. -/
structure BeatTaken (s k h : State) (p : PortId) (r : NbrRecord) : Prop where
  at_ : BeatAt s k p
  kept : PortsKept k h
  timeout : (k.nm p).timeout = some 0
  status : (k.nm p).status = .present
  record : (k.nm p).record = some r
  announced : (s.nm p).status ≠ .present →
    (k.nm p).candidate = none ∧ (k.hl.masked .neighbour = true → told h .neighbour) ∧ Appeared k h p
  repeated : (s.nm p).status = .present → (s.nm p).record.any (NbrRecord.sameIdentity r) = true →
    h = k ∧ (k.nm p).changes = (s.nm p).changes
  changed : (s.nm p).status = .present → (s.nm p).record.any (NbrRecord.sameIdentity r) = false →
    (k.nm p).changes = inc16 (s.nm p).changes ∧ (k.hl.masked .neighbour = true → told h .neighbour) ∧ LossSeen k h p

section
variable {s u : State} {p : PortId} {r : NbrRecord} (at_ : BeatAt s u p)
include at_

/-- A candidate at a settled port with no neighbour is announced. -/
theorem BeatAt.announce (unannounced : (s.nm p).status ≠ .present) (timeout : (u.nm p).timeout = some 0)
    (absent : (u.nm p).status = .absent) (candidate : (u.nm p).candidate = some r) : ∃ k, BeatTaken s k (u.announce p) p r := by
  let k := u.modNm p fun n => { n with status := .present, record := some r, candidate := none }
  have nm : k.nm p = { u.nm p with status := .present, record := some r, candidate := none } := State.modNm_nm _ _ _
  have announced : u.announce p = (k.ccPresent p).raise .neighbour := by
    unfold State.announce
    rw [candidate]
    exact if_pos ⟨absent, at_.st, at_.step, at_.rateSettled⟩
  have appeared := k.ccPresent_appeared p
  have seen := appeared.raise .neighbour
  rw [announced]
  exact ⟨k, at_.modNm _, seen.toPortsKept, by rw [nm, timeout], by rw [nm], by rw [nm],
    fun _ => ⟨by rw [nm], fun masked => told_raise_self (by rwa [HostLink.masked_of_raisedFrom appeared.raised]), seen⟩,
    fun present => absurd present unannounced, fun present => absurd present unannounced⟩

/-- What the monitor makes of a BEAT at a settled port. -/
theorem BeatAt.taken (nm : u.nm p = { s.nm p with timeout := some 0 }) :
    ∃ k, BeatTaken s k ((u.farBeat p r).announce p) p r := by
  unfold State.farBeat
  split
  · next absent =>
    have absent : (s.nm p).status = .absent := by rwa [nm] at absent
    refine (at_.modNm _).announce (by simp [absent]) ?_ ?_ ?_ <;> simp [nm, absent]
  · next echo =>
    have echo : (s.nm p).status = .echoSeen := by rwa [nm] at echo
    refine ((at_.modNm _).raise _).announce (by simp [echo]) ?_ ?_ ?_ <;> simp [nm]
  · next present =>
    rw [nm] at present
    have record : (u.nm p).record = (s.nm p).record := by rw [nm]
    rw [record]
    split
    · next same =>
      rw [State.announce_rests (.inl (by simp [nm, present]))]
      refine ⟨_, at_.modNm _, .of_port (fun _ => rfl) ⟨rfl, rfl⟩ (HostLink.raisedFrom_refl _), ?_, ?_, ?_,
        fun unannounced => absurd present unannounced, fun _ _ => ⟨rfl, ?_⟩, fun _ other => ?_⟩
      · simp [nm]
      · simp [nm, present]
      · simp
      · simp [nm]
      · rw [same] at other
        cases other
    · next differs =>
      let k := u.modNm p fun n => { n with record := some r, changes := inc16 n.changes }
      have lost := k.ccGone_seen p
      have seen := lost.raise .neighbour
      rw [State.announce_rests (.inl (by rw [State.neighbourGone, seen.nm]; simp [k, nm, present]))]
      refine ⟨k, at_.modNm _, seen.toPortsKept, ?_, ?_, ?_, fun unannounced => absurd present unannounced,
        fun _ same => absurd same differs, fun _ _ => ⟨?_, fun masked => told_raise_self ?_, seen⟩⟩
      · simp [k, nm]
      · simp [k, nm, present]
      · simp [k]
      · simp [k, nm]
      · rwa [HostLink.masked_of_raisedFrom lost.raised]

end

/-! ### The obligation -/

section
variable {s d : State} {p : PortId} {q : PairId} {seq gen : Nat} {b : BeatBody} (at_ : DeliveredTo s d p seq)
include at_

theorem DeliveredTo.nmBeat_own (valid : beatInvalid b = false) (own : b.serial = s.sys.serial)
    (absent : (s.nm p).status = .absent) :
    d.nmBeat p gen b = (d.modNm p fun n => { n with status := .echoSeen, candidate := none }).raise .neighbour := by
  have status : (d.nm p).status = .absent := by rw [at_.nm, absent]
  rw [State.nmBeat, if_neg (by simp [valid]), if_pos (own.trans (by rw [at_.system.1])), State.ownBeat, status]

theorem DeliveredTo.nmBeat_far (valid : beatInvalid b = false) (far : b.serial ≠ s.sys.serial) :
    d.nmBeat p gen b = ((d.modCp p fun c => c.rateDecision b.maxRate).farBeat p (beatRecord gen b)).announce p := by
  rw [State.nmBeat, if_neg (by simp [valid]), if_neg (by rwa [at_.system.1])]

section
variable (now : deliversNow s p q seq) (idle : (s.cp p).step = .none) (unsettled : (s.cp p).rateSettled = false)
  (base : (s.cp p).rate = 0) (above : (s.cp p).rate < min (s.cp p).advertised b.maxRate)
include now idle unsettled base above

theorem DeliveredTo.farBeat_steps (absent : (s.nm p).status = .absent) (r : NbrRecord) :
    ((d.modCp p fun c => c.rateDecision b.maxRate).farBeat p r).announce p =
      (d.modCp p fun c => c.rateDecision b.maxRate).modNm p fun n => { n with candidate := some r } := by
  obtain ⟨cp, -⟩ := at_.stepping now idle unsettled base above
  have status : ((d.modCp p fun c => c.rateDecision b.maxRate).nm p).status = .absent := by
    rw [State.modCp_nm, at_.nm, absent]
  rw [State.farBeat, status]
  exact State.announce_rests (.inr (by rw [State.modNm_cp, cp]; simp))

end

end

theorem completes_beat {s : State} {p : PortId} {q : PairId} {seq gen : Nat} {b : BeatBody} {P : State → Prop}
    (now : deliversNow s p q seq)
    (h : ∀ d, DeliveredTo s d p seq →
      ((d.nmBeat p gen b).cp p).held = none ∧ ∀ t, Scored (d.nmBeat p gen b) t p → P t) :
    completes (exec (.beat p q seq gen b) s) P :=
  completes_delivered (f := { gen, body := .beat b }) now rfl h

theorem OnlyPort.scored {s h t : State} {p : PortId} (only : OnlyPort s h p) (lr : h.lr p = s.lr p) (scored : Scored h t p) :
    t.lr p = s.lr p ∧ t.port (Machine.other p) = s.port (Machine.other p) ∧ sameNode s t ∧ sameSystem s t ∧ sameHost s t :=
  ⟨scored.lr.trans lr, scored.other.trans only.other, only.node.trans scored.node, only.system.trans scored.system,
    scored.host.trans (HostLink.still_of_raisedFrom only.raised)⟩

/-- Settles O26: a BEAT that the monitor keeps off the node by cases, and one that it takes by what the node has seen. -/
theorem beatsAnnounceNeighboursAndDecideTheRate : Obligations.BeatsAnnounceNeighboursAndDecideTheRate := by
  unfold Obligations.BeatsAnnounceNeighboursAndDecideTheRate
  intro s p q seq gen b far node held now record
  refine ⟨fun invalid => ?invalid, fun serial port state maxRate rate => ?valid⟩
  case invalid =>
    refine completes_beat now fun d at_ => ?_
    have block : d.nmBeat p gen b = d.countInvalidBeat p := if_pos (beatInvalid_iff b |>.mpr invalid)
    rw [block]
    refine ⟨by simpa [State.countInvalidBeat] using at_.held, fun t scored => ⟨?_, ?_, ?_⟩⟩
    · rw [scored.nm]
      simp [State.countInvalidBeat, at_.nm, inc16]
    · rw [scored.settled]
      simpa [State.countInvalidBeat] using at_.settled
    · exact (at_.alike.trans (.modNm d p _)).toOnlyPort.scored (at_.alike.trans (.modNm d p _)).lr scored
  have valid : beatInvalid b = false := by
    simp [beatInvalid, show ¬ b.serial = 0#32 from serial, port, state, maxRate, rate]
  have said : beatRecord gen b = record := by simp [beatRecord, port, state, record]
  refine ⟨fun own absent => ?own, fun foreign idle unsettled base above absent => ?steps, fun foreign idle settles => ?settles⟩
  case own =>
    refine completes_beat now fun d at_ => ?_
    have block := at_.nmBeat_own (gen := gen) valid own absent
    rw [block]
    have alike := (at_.alike.trans (.modNm d p fun n => { n with status := .echoSeen, candidate := none })).trans
      (.raise _ p .neighbour)
    refine ⟨by simpa using at_.held, fun t scored => ⟨?_, fun masked => ?_, ?_, alike.toOnlyPort.scored alike.lr scored⟩⟩
    · rw [scored.nm]
      simp [at_.nm]
    · exact scored.tells _ (told_raise_self (by simpa [at_.hl] using masked))
    · rw [scored.settled]
      simpa using at_.settled
  case steps =>
    refine completes_beat now fun d at_ => ?_
    have block := at_.nmBeat_far (gen := gen) valid foreign
    rw [block, at_.farBeat_steps now idle unsettled base above absent]
    obtain ⟨cp, st, kept⟩ := at_.stepping now idle unsettled base above
    have only := (at_.alike.toOnlyPort.trans (.modCp d p fun c => c.rateDecision b.maxRate)).trans
      (.modNm _ p fun n => { n with candidate := some (beatRecord gen b) })
    refine ⟨by rw [State.modNm_cp, cp, at_.held], fun t scored => ?_⟩
    have same {α : Type} (read : Coupler → α) : read (t.cp p).settled = read ((d.modCp p _).cp p).settled :=
      congrArg read (scored.settled.trans (congrArg Coupler.settled (State.modNm_cp _ _ _)))
    rw [cp] at same
    refine ⟨same Coupler.step, (same Coupler.rateSettled).trans kept, (same Coupler.st).trans st, ?_,
      only.scored (by simpa using at_.lr) scored⟩
    rw [scored.nm]
    simp [at_.nm, said]
  case settles =>
    refine completes_beat now fun d at_ => ?_
    obtain ⟨k, taken⟩ := (at_.beatAt now idle settles).taken (r := record) (by simp [at_.nm])
    rw [← said, ← at_.nmBeat_far valid foreign] at taken
    refine ⟨(taken.kept.held p).trans taken.at_.held, fun t scored => ?_⟩
    rw [said] at taken
    have met : BeatMet s k (d.nmBeat p gen b) t p := ⟨taken.at_, taken.kept, scored⟩
    have cc : k.cc = s.cc := taken.at_.node.1
    refine ⟨met.rateSettled, met.step, met.st, by rw [met.nm, taken.timeout], by rw [met.nm, taken.status],
      by rw [met.nm, taken.record], met.system, met.host, met.otherNm, fun unannounced => ?announced,
      fun present heard serial port => ?repeated, fun present heard differs => ?changed⟩
    case announced =>
      obtain ⟨candidate, raises, seen⟩ := taken.announced unannounced
      have tcc : t.cc = (d.nmBeat p gen b).cc := scored.node.1
      refine ⟨by rw [met.nm, candidate], met.tells raises, fun free apart => ?_, fun free prov => ?_, fun op x => ?_,
        fun notOp notProv x => ?_, fun cab => ?_, fun rear => ?_⟩ <;> rw [← cc] at *
      · rw [tcc, seen.member free apart]
      · exact ⟨met.neighbourGone (seen.taken free prov), fun x => met.called ((seen.provisional free prov).2 x)⟩
      · exact met.called (seen.operational op x)
      · exact met.silent (seen.silent notOp notProv x)
      · rw [tcc]
        exact seen.cabEnd cab
      · rw [tcc]
        exact seen.rear rear
    case repeated =>
      obtain ⟨silent, changes⟩ := taken.repeated present (by simp [heard, NbrRecord.sameIdentity, record, serial, port])
      exact ⟨by rw [scored.node.1, silent, cc], met.silent (by rw [silent]), by rw [met.nm, changes]⟩
    case changed =>
      obtain ⟨changes, raises, seen⟩ := taken.changed present (by
        simp only [heard, Option.any_some, NbrRecord.sameIdentity, record, Bool.and_eq_false_iff, beq_eq_false_iff_ne]
        exact differs.imp Ne.symm Ne.symm)
      refine ⟨by rw [met.nm, changes]; rfl, met.tells raises, met.neighbourGone seen.taken, fun inConsist x => ?_,
        fun notOp notProv x => ?_⟩ <;> rw [← cc] at *
      · exact met.called (seen.calls inConsist x)
      · exact met.silent (seen.silent notOp notProv x)

end Sys2Proof.Machine
end

section
/-! The held copy and its slot (01 R21, R22): how a frame reaches it, how it leaves it, and what its delivery leaves. -/

namespace Sys2Proof.Machine

/-! ### Changes of a port's pairs -/

/-- Of port p's coupler block only the pairs and the held-copy timer have changed. -/
structure ReceiverTook (s t : State) (p : PortId) : Prop extends OnlyCoupler s t p where
  rest : { t.cp p with pairA := (s.cp p).pairA, pairB := (s.cp p).pairB, heldTimer := (s.cp p).heldTimer } = s.cp p

/-- Of port p's coupler block only the pairs have changed. -/
structure PairsOnly (s t : State) (p : PortId) : Prop extends ReceiverTook s t p where
  timer : (t.cp p).heldTimer = (s.cp p).heldTimer

section
variable {s t u : State} {p : PortId} {q : PairId}

theorem ReceiverTook.field (took : ReceiverTook s t p) {α : Type} (read : Coupler → α) :
    read { t.cp p with pairA := (s.cp p).pairA, pairB := (s.cp p).pairB, heldTimer := (s.cp p).heldTimer } = read (s.cp p) :=
  congrArg read took.rest

theorem ReceiverTook.portsBut (took : ReceiverTook s t p) : portsBut s t p :=
  ⟨took.field Coupler.settled, by rw [took.nm], took.lr, took.other⟩

theorem ReceiverTook.trans (h : ReceiverTook s t p) (k : ReceiverTook t u p) : ReceiverTook s u p :=
  ⟨h.toOnlyCoupler.trans k.toOnlyCoupler, (k.field fun c =>
    { c with pairA := (s.cp p).pairA, pairB := (s.cp p).pairB, heldTimer := (s.cp p).heldTimer }).trans h.rest⟩

theorem PairsOnly.trans (h : PairsOnly s t p) (k : PairsOnly t u p) : PairsOnly s u p :=
  ⟨h.toReceiverTook.trans k.toReceiverTook, k.timer.trans h.timer⟩

theorem ReceiverTook.frameTaken (s : State) (p : PortId) (q : PairId) : ReceiverTook s (s.modCp p fun c => c.frameTaken q) p :=
  ⟨OnlyCoupler.modCp s p _, by rw [State.modCp_cp, Coupler.frameTaken_rest]⟩

theorem PairsOnly.modPair (s : State) (p : PortId) (q : PairId) (f : Pair → Pair) :
    PairsOnly s (s.modCp p fun c => c.modPair q f) p :=
  ⟨⟨OnlyCoupler.modCp s p _, by rw [State.modCp_cp]; cases q <;> rfl⟩, by rw [State.modCp_cp]; cases q <;> rfl⟩

theorem PairsOnly.raiseIf (s : State) (p : PortId) (b : Bool) (k : Notice) : PairsOnly s (s.raiseIf b k) p :=
  ⟨⟨OnlyCoupler.raiseIf s p b k, by cases b <;> rfl⟩, by cases b <;> rfl⟩

theorem PairsOnly.hostKick (s : State) (p : PortId) : PairsOnly s s.hostKick p :=
  ⟨⟨OnlyCoupler.hostKick s p, by rw [State.hostKick_cp]⟩, by rw [State.hostKick_cp]⟩

/-- A pair's change that leaves the preferred pair, or a port without a held copy, delivers nothing (01 R22). -/
theorem State.changePair_pairsOnly {f : Pair → Pair}
    (stays : (s.cp p).held = none ∨ ((s.cp p).modPair q f).preferred = (s.cp p).preferred) :
    PairsOnly s (s.changePair p q f) p := by
  obtain ⟨b, e⟩ : ∃ b, s.changePair p q f = (s.modCp p fun c => c.modPair q f).raiseIf b .port := by
    rcases stays with none | same
    · exact ⟨_, State.changePair_of_none none⟩
    · exact ⟨_, if_pos (by rw [State.modCp_cp, same])⟩
  rw [e]
  exact (PairsOnly.modPair s p q f).trans (.raiseIf _ p b .port)

theorem State.scored_pairsOnly (none : (s.cp p).held = none) (q : PairId) (seq : Nat) : PairsOnly s (s.scored p q seq) p :=
  (State.changePair_pairsOnly (.inl none)).trans (.modPair _ p (otherPair q) _)

end

/-! ### The slot and what leaves it -/

/-- The lost-frame counter after a delivery (01 R21). -/
def lostAfter (last : Option Nat) (lost seq : Nat) : Nat :=
  match last with
  | none => lost
  | some l => min 65535 (lost + (seqDist seq l - 1))

theorem Coupler.deliver_slot (c : Coupler) (q : PairId) (seq : Nat) :
    (c.deliver q seq).heldTimer = c.heldTimer ∧ (c.deliver q seq).lostFrames = lostAfter c.lastDelivered c.lostFrames seq := by
  cases q <;> exact ⟨rfl, rfl⟩

/-- A node that relays the frames that come frontward at port p (02 R33). -/
structure Relays (s : State) (p : PortId) : Prop where
  claim : s.cc.claim = none
  front : s.cc.front ≠ some p

theorem State.handOn_call {s : State} {p : PortId} (relays : Relays s p) {f : Frame} {serial : Serial} {a b c : Nat}
    (call : f.body = .call serial a b c) : s.handOn p f = s.offer (other p) f := by
  obtain ⟨gen, body⟩ := f
  obtain rfl : body = .call serial a b c := call
  exact State.frontward_relayed relays.claim relays.front _ fun s => s.ccCall p gen b

/-- A state whose slot at port p is empty, as a node at s and offers at u have left it. -/
structure SlotFree (s t u : State) (p : PortId) (last : Option Nat) (lost : Nat) : Prop where
  held : (t.cp p).held = none
  heldTimer : (t.cp p).heldTimer = none
  last : (t.cp p).lastDelivered = last
  lost : (t.cp p).lostFrames = lost
  ports : portsBut u t p
  node : sameNode s t
  system : sameSystem s t
  host : sameHost s t

/-- A state whose slot at port p is empty after the delivery of a frame. -/
structure Released (s t u : State) (p : PortId) (seq lost : Nat) : Prop extends SlotFree s t u p (some seq) lost where
  timeout : (t.nm p).timeout = some 0

section
variable {s t u v : State} {p : PortId} {last : Option Nat} {seq lost : Nat}

theorem SlotFree.after (free : SlotFree s t u p last lost) (only : PairsOnly t v p) : SlotFree s v u p last lost where
  held := (only.field Coupler.held).trans free.held
  heldTimer := only.timer.trans free.heldTimer
  last := (only.field Coupler.lastDelivered).trans free.last
  lost := (only.field Coupler.lostFrames).trans free.lost
  ports := free.ports.trans only.portsBut
  node := free.node.trans only.node
  system := free.system.trans only.system
  host := only.host.trans free.host

theorem Released.after (released : Released s t u p seq lost) (only : PairsOnly t v p) : Released s v u p seq lost :=
  ⟨released.toSlotFree.after only, by rw [only.nm, released.timeout]⟩

theorem ReceiverTook.emptySlot (took : ReceiverTook s t p) :
    SlotFree s (t.emptySlot p) s p (s.cp p).lastDelivered (s.cp p).lostFrames := by
  have only := took.toOnlyCoupler.trans (.modCp t p fun c => { c with held := none, heldTimer := none })
  refine ⟨by simp [State.emptySlot], by simp [State.emptySlot], ?_, ?_,
    ⟨?_, by rw [State.emptySlot, only.nm], only.lr, only.other⟩, only.node, only.system, only.host⟩
  all_goals rw [State.emptySlot, State.modCp_cp]
  · exact took.field Coupler.lastDelivered
  · exact took.field Coupler.lostFrames
  · exact took.field Coupler.settled

/-- A delivered CALL that the node relays. -/
theorem SlotFree.deliver (free : SlotFree s t u p last lost) (relays : Relays s p) {f : Frame} {serial : Serial} {a b c : Nat}
    (call : f.body = .call serial a b c) (q : PairId) (seq : Nat) :
    Released s (t.deliver p q seq f) (u.offer (other p) f) p seq (lostAfter last lost seq) := by
  obtain ⟨settled, held, last', -⟩ := (t.cp p).deliver_kept q seq
  obtain ⟨timer, lost'⟩ := (t.cp p).deliver_slot q seq
  let d := (t.modCp p fun c => c.deliver q seq).modNm p fun n => { n with timeout := some 0 }
  have cp : d.cp p = (t.cp p).deliver q seq := by simp [d]
  have ports : portsBut t d p := ⟨by rw [cp, settled], by simp [d]; rfl, by simp [d], by simp [d]⟩
  have relays : Relays d p := by
    have cc : d.cc = s.cc := (show d.cc = t.cc by simp [d]).trans free.node.1
    exact ⟨by rw [cc, relays.claim], by rw [cc]; exact relays.front⟩
  have kept : (d.offer (other p) f).port p = d.port p := d.offer_port_of_ne (other_ne p).symm f
  have cp' : (d.offer (other p) f).cp p = d.cp p := congrArg Port.cp kept
  rw [show t.deliver p q seq f = d.handOn p f from rfl, State.handOn_call relays call]
  refine ⟨⟨?_, ?_, ?_, ?_, portsBut_offer (free.ports.trans ports) _ f, ?_, ?_, ?_⟩, ?_⟩
  · rw [cp', cp, held, free.held]
  · rw [cp', cp, timer, free.heldTimer]
  · rw [cp', cp, last']
  · rw [cp', cp, lost', free.last, free.lost]
  · exact free.node.trans ((show sameNode t d by simp [d, sameNode]).trans (by simp [sameNode]))
  · exact free.system.trans ((show sameSystem t d by simp [d, sameSystem]).trans (by simp [sameSystem]))
  · have hl : (d.offer (other p) f).hl = t.hl := by simp [d]
    exact (congrArg HostLink.still hl).trans free.host
  · rw [show (d.offer (other p) f).nm p = d.nm p from congrArg Port.nm kept]
    simp [d]

/-- A held CALL that leaves its slot by its delivery (01 R22). -/
theorem ReceiverTook.deliverHeld (took : ReceiverTook s t p) (relays : Relays s p) {h : Held} (held : (s.cp p).held = some h)
    {serial : Serial} {a b c : Nat} (call : h.frame.body = .call serial a b c) :
    Released s (t.deliverHeld p) (s.offer (other p) h.frame) p h.seq
      (lostAfter (s.cp p).lastDelivered (s.cp p).lostFrames h.seq) := by
  have heldT : (t.cp p).held = some h := (took.field Coupler.held).trans held
  rw [State.deliverHeld, heldT]
  exact took.emptySlot.deliver relays call h.pair h.seq

end

end Sys2Proof.Machine
end

section
/-! O20: old sequences, the held copy and the charges of good frames (01 R18, R19, R21, R22). -/

namespace Sys2Proof.Machine

/-! ### The charge of a good frame -/

/-- A pair's charge for its good frame, read off the port before the frame: d is c but for the frame's end and its delivery. -/
theorem goodFrameCharged_of {c d : Coupler} {q : PairId} (score : (d.pair q).score = (c.pair q).score)
    (lastGood : (d.pair q).lastGood = (c.pair q).lastGood) (badSince : (d.pair q).badSince = (c.pair q).badSince)
    (shut : (d.pair q).inFrame = false) (copies : (d.pair (otherPair q)).copies = (c.pair (otherPair q)).copies)
    (scoreOther : (d.pair (otherPair q)).score = (c.pair (otherPair q)).score) (seq : Nat) :
    goodFrameCharged c ((d.modPair q fun x => x.goodFrame (d.pair (otherPair q)).copies seq).pruneCopies q seq) q seq := by
  have mine : ((d.modPair q fun x => x.goodFrame (d.pair (otherPair q)).copies seq).pruneCopies q seq).pair q =
      (d.pair q).goodFrame (d.pair (otherPair q)).copies seq := by cases q <;> rfl
  have others : ((d.modPair q fun x => x.goodFrame (d.pair (otherPair q)).copies seq).pruneCopies q seq).pair (otherPair q) =
      { d.pair (otherPair q) with copies := (d.pair (otherPair q)).copies.filter fun k => seqNewer k seq } := by cases q <;> rfl
  obtain ⟨score', good, bad, silence, since, inFrame, -⟩ := (d.pair q).goodFrame_fields (d.pair (otherPair q)).copies seq
  refine ⟨?_, ?_, ?_, ?_, ?_, ?_, ?_, ?_⟩
  · rw [mine, score', score, Pair.missed, lastGood, badSince, copies]
    cases (c.pair q).lastGood <;> simp [missedCount]
  · rw [mine, good]
  · rw [mine, bad]
  · rw [mine, silence]
  · rw [mine, since]
  · rw [mine, inFrame, shut]
  · rw [others, copies]
  · rw [others, scoreOther]

theorem Coupler.goodFrame_copies (d : Coupler) (q : PairId) (seq : Nat) :
    (((d.modPair q fun x => x.goodFrame (d.pair (otherPair q)).copies seq).pruneCopies q seq).pair q).copies =
      (d.pair q).copies := by cases q <;> rfl

theorem Coupler.goodFrame_deliveredSince (d : Coupler) (q : PairId) (seq : Nat) :
    (((d.modPair q fun x => x.goodFrame (d.pair (otherPair q)).copies seq).pruneCopies q seq).pair (otherPair q)).deliveredSince =
      (d.pair (otherPair q)).deliveredSince := by cases q <;> rfl

theorem State.scored_cp {h : State} {p : PortId} (none : (h.cp p).held = none) (q : PairId) (seq : Nat) :
    (h.scored p q seq).cp p =
      ((h.cp p).modPair q fun x => x.goodFrame ((h.cp p).pair (otherPair q)).copies seq).pruneCopies q seq := by
  simp [State.scored_eq none]

/-! ### Good frames at a LINKED port -/

section
variable {s : State} {p : PortId} {q : PairId} (clocked : s.clocked = true) (linked : (s.cp p).st = .linked)
include clocked linked

theorem State.goodFrame_of_linked (seq : Nat) (f : Frame) :
    s.goodFrame p q seq f = ((s.modCp p fun c => c.frameTaken q).receive p q seq f).scored p q seq := by
  rw [State.goodFrame, if_pos (State.framing_of_linked clocked linked q), linked]
  rfl

theorem State.goodFrame_of_unheld (none : (s.cp p).held = none) (seq : Nat) (f : Frame) :
    s.goodFrame p q seq f = ((s.modCp p fun c => c.modPair q Pair.closeFrame).receive p q seq f).scored p q seq := by
  rw [State.goodFrame_of_linked clocked linked, State.modCp_congr (g := fun c => c.modPair q Pair.closeFrame)
    (Coupler.frameTaken_of_none none q)]

end

theorem Coupler.frameTaken_preferred (c : Coupler) (q : PairId) : (c.frameTaken q).preferred = c.preferred := by
  rw [Coupler.frameTaken_eq]
  cases q <;> rfl

/-- An old sequence reaches no block where no held copy waits (01 R21). -/
theorem State.receive_old {s : State} {p : PortId} {seq : Nat} (none : (s.cp p).held = none)
    (old : isNew (s.cp p).lastDelivered seq = false) (q : PairId) (f : Frame) : s.receive p q seq f = s := by
  have rests : ¬ isNew (s.cp p).lastDelivered seq = true := by simp [old]
  unfold State.receive
  split
  · rw [State.receivePreferred, none]
    exact if_neg rests
  · exact if_neg rests

section
variable {s : State} {p : PortId} {q : PairId} {seq : Nat} {f : Frame} (clocked : s.clocked = true)
  (linked : (s.cp p).st = .linked) (classed : f.body.cls.isSome = true)
include clocked linked classed

theorem completes_old (empty : (s.cp p).held = none) (old : isNew (s.cp p).lastDelivered seq = false) :
    completes (exec (f.command p q seq) s) fun t =>
      (t.cp p).lastDelivered = (s.cp p).lastDelivered ∧ (t.cp p).lostFrames = (s.cp p).lostFrames ∧
      (t.cp p).held = none ∧ (t.cp p).st = .linked ∧ goodFrameCharged (s.cp p) (t.cp p) q seq ∧
      ((t.cp p).pair q).copies = ((s.cp p).pair q).copies ∧ t.lr p = s.lr p ∧ t.nm p = s.nm p ∧
      t.port (other p) = s.port (other p) ∧ sameNode s t ∧ sameSystem s t ∧ sameHost s t := by
  let d := s.modCp p fun c => c.modPair q Pair.closeFrame
  have cp : d.cp p = (s.cp p).modPair q Pair.closeFrame := by simp [d]
  have unheld : (d.cp p).held = .none := by simp [cp, empty]
  have taken : s.goodFrame p q seq f = d.scored p q seq := by
    rw [State.goodFrame_of_unheld clocked linked empty, State.receive_old unheld (by simp [cp, old])]
  have only := ((PairsOnly.modPair s p q Pair.closeFrame).trans (State.scored_pairsOnly unheld q seq)).trans (.hostKick _ p)
  rw [exec_command classed, taken]
  refine completes_done ⟨only.field Coupler.lastDelivered, only.field Coupler.lostFrames, (only.field Coupler.held).trans empty,
    (only.field Coupler.st).trans linked, ?_, ?_, only.lr, only.nm, only.other, only.node, only.system, only.host⟩
  · rw [State.hostKick_cp, State.scored_cp unheld]
    apply goodFrameCharged_of <;> rw [cp] <;> cases q <;> rfl
  · rw [State.hostKick_cp, State.scored_cp unheld, Coupler.goodFrame_copies, cp]
    cases q <;> rfl

theorem completes_hold (empty : (s.cp p).held = none) (new : isNew (s.cp p).lastDelivered seq = true)
    (good : (s.cp p).pairA.degraded = false) :
    completes (exec (f.command p .b seq) s) fun t =>
      (t.cp p).held = some { seq, pair := .b, frame := f } ∧ (t.cp p).heldTimer = some 0 ∧
      (t.cp p).lastDelivered = (s.cp p).lastDelivered ∧ (t.cp p).lostFrames = (s.cp p).lostFrames ∧
      t.lr p = s.lr p ∧ t.nm p = s.nm p ∧ t.port (other p) = s.port (other p) ∧ sameNode s t ∧ sameSystem s t ∧
      sameHost s t := by
  let d := s.modCp p fun c => c.modPair .b Pair.closeFrame
  have cp : d.cp p = (s.cp p).modPair .b Pair.closeFrame := by simp [d]
  have second : (d.cp p).preferred = .a := by simp [cp, Coupler.preferred, Coupler.modPair, good]
  have receives : d.receive p .b seq f = d.hold p .b seq f := by
    rw [State.receive, second, if_neg nofun, State.receiveOther, show (d.cp p).held = .none by simp [cp, empty],
      if_pos (by simp [cp, new])]
  rw [exec_command classed, State.goodFrame_of_unheld clocked linked empty, receives]
  have held : (d.hold p .b seq f).cp p =
      { (s.cp p).modPair .b Pair.closeFrame with held := some { seq, pair := .b, frame := f }, heldTimer := some 0 } := by
    simp [State.hold, cp]
  have before := (OnlyCoupler.modCp s p fun c => c.modPair .b Pair.closeFrame).trans
    (.modCp d p fun c => { c with held := some { seq, pair := .b, frame := f }, heldTimer := some 0 })
  have after : PairsOnly (d.hold p .b seq f) ((d.hold p .b seq f).scored p .b seq).hostKick p := by
    refine ((State.changePair_pairsOnly (.inr ?_)).trans (.modPair _ p _ _)).trans (.hostKick _ p)
    simp [held, Coupler.preferred, Coupler.modPair, good]
  have only := before.trans after.toOnlyCoupler
  refine completes_done ⟨(after.field Coupler.held).trans ?_, after.timer.trans ?_, (after.field Coupler.lastDelivered).trans ?_,
    (after.field Coupler.lostFrames).trans ?_, only.lr, only.nm, only.other, only.node, only.system, only.host⟩ <;> rw [held]
  all_goals rfl

end

end Sys2Proof.Machine
end

section
/-! O20, continued: a CALL that is delivered at once, and the exits of a held CALL (01 R22). -/

namespace Sys2Proof.Machine

section
variable {s : State} {p : PortId} {q : PairId} {seq : Nat} {f : Frame} {serial : Serial} {a b c : Nat}

theorem classed_of_call (call : f.body = .call serial a b c) : f.body.cls.isSome = true := by
  rw [call]
  rfl

/-- What a delivered frame's end and its delivery leave on the pairs (01 R19, R21; log entry 15). -/
theorem Coupler.delivered_pair (x : Coupler) (q : PairId) (seq : Nat) :
    ((x.modPair q Pair.closeFrame).deliver q seq).pair q = { x.pair q with
      inFrame := false, deliveredSince := true,
      copies := if seq ∈ (x.pair q).copies then (x.pair q).copies else (x.pair q).copies ++ [seq] } ∧
    ((x.modPair q Pair.closeFrame).deliver q seq).pair (otherPair q) = { x.pair (otherPair q) with deliveredSince := true } := by
  cases q <;> exact ⟨rfl, rfl⟩

theorem completes_call (now : deliversNow s p q seq) (call : f.body = .call serial a b c) (relays : Relays s p) :
    completes (exec (f.command p q seq) s) fun t =>
      goodFrameCharged (s.cp p) (t.cp p) q seq ∧ seq ∈ ((t.cp p).pair q).copies ∧
      (t.cp p).lastDelivered = some seq ∧ ((t.cp p).pair (otherPair q)).deliveredSince = true ∧
      (t.nm p).timeout = some 0 ∧ portsBut (s.offer (other p) f) t p ∧ sameNode s t ∧ sameSystem s t ∧ sameHost s t := by
  obtain ⟨-, -, -, empty, -⟩ := id now
  have at_ := State.delivered_to empty q seq
  have cpD := s.delivered_cp p q seq
  have cc : (s.delivered p q seq).cc = s.cc := at_.node.1
  have handed := State.handOn_call (s := s.delivered p q seq) ⟨by rw [cc, relays.claim], by rw [cc]; exact relays.front⟩ call
  let h := (s.delivered p q seq).offer (other p) f
  have port : h.port p = (s.delivered p q seq).port p := State.offer_port_of_ne _ (other_ne p).symm f
  have cp : h.cp p = ((s.cp p).modPair q Pair.closeFrame).deliver q seq := (congrArg Port.cp port).trans cpD
  obtain ⟨mine, others⟩ := (s.cp p).delivered_pair q seq
  rw [← cp] at mine others
  have unheld : (h.cp p).held = none := (congrArg (fun x : Port => x.cp.held) port).trans at_.held
  have scored := State.scored_scored unheld q seq
  have kept := PortOp.offer p (other p) f
  have tcp := (State.hostKick_cp (h.scored p q seq) p).trans (State.scored_cp unheld q seq)
  rw [exec_command (classed_of_call call), State.goodFrame_delivers now, handed]
  have ports : portsBut (s.offer (other p) f) h p := kept.congr at_.portsBut
  have node : sameNode (s.delivered p q seq) h := kept.node _
  have system : sameSystem (s.delivered p q seq) h := kept.system _
  have hl : h.hl = s.hl := (kept.hl _).trans at_.hl
  change completes (h.scored p q seq).done _
  clear_value h
  refine completes_done ?_
  generalize (h.scored p q seq).hostKick = t at scored tcp ⊢
  refine ⟨?_, ?_, ?_, ?_, ?_, scored.portsBut ports, at_.node.trans (node.trans scored.node),
    at_.system.trans (system.trans scored.system), scored.host.trans (congrArg HostLink.still hl)⟩
  · rw [tcp]
    exact goodFrameCharged_of (by rw [mine]) (by rw [mine]) (by rw [mine]) (by rw [mine]) (by rw [others]) (by rw [others]) seq
  · rw [tcp, Coupler.goodFrame_copies, mine]
    split <;> simp_all
  · rw [scored.last, cp]
    rfl
  · rw [tcp, Coupler.goodFrame_deliveredSince, others]
  · rw [scored.nm, show h.nm p = _ from congrArg Port.nm port]
    exact congrArg Nbr.timeout at_.nm

end

/-! ### The exits of a held CALL -/

theorem seqNewer_self (a : Nat) : seqNewer a a = false := by
  have none : seqDist a a = 0 := by
    unfold seqDist
    omega
  simp [seqNewer, none]

/-- The preferred pair stays preferred with a good frame: a pair of score 12 or less that is GOOD stays so (01 R18). -/
theorem Coupler.goodScore_preferred {c : Coupler} {q : PairId} (preferred : q = c.preferred)
    (stays : (c.pair q).degraded = true ∨ (c.pair q).score ≤ 12) :
    (c.modPair q fun x => x.goodScore.restartSilence).preferred = c.preferred := by
  cases good : (c.pair q).degraded with
  | false =>
    have low : (c.pair q).score ≤ 12 := stays.resolve_left (by simp [good])
    refine Coupler.modPair_preferred ?_
    simp [Pair.goodScore, Pair.withScore, Pair.restartSilence, good]
    omega
  | true =>
    cases q with
    | a =>
      have both : c.pairB.degraded = true := by
        have other := c.other_degraded_of_preferred_degraded (by rwa [← preferred])
        rwa [← preferred] at other
      rw [← preferred]
      simp [Coupler.preferred, Coupler.modPair, both]
    | b => simp [Coupler.preferred, show c.pairB.degraded = true from good] at preferred

/-- The last character of a frame on the preferred pair restarts the timer of the held copy. -/
theorem Coupler.frameTaken_heldTimer {c : Coupler} {q : PairId} (preferred : q = c.preferred) (held : c.held.isSome = true) :
    (c.frameTaken q).heldTimer = some 0 := by
  rw [Coupler.frameTaken_eq]
  exact if_pos ⟨preferred, held⟩

section
variable {s : State} {p : PortId} {h : Held} {serial : Serial} {a b c : Nat} (clocked : s.clocked = true)
  (linked : (s.cp p).st = .linked) (held : (s.cp p).held = some h) (heldCall : h.frame.body = .call serial a b c)
  (relays : Relays s p)

/-- The lost-frame counter after the delivery of the held copy. -/
def State.lostHeld (s : State) (p : PortId) (h : Held) : Nat := lostAfter (s.cp p).lastDelivered (s.cp p).lostFrames h.seq

section
include held heldCall relays

theorem ReceiverTook.releases {t : State} (took : ReceiverTook s t p) :
    Released s (t.deliverHeld p) (s.offer (other p) h.frame) p h.seq (s.lostHeld p h) := took.deliverHeld relays held heldCall

/-- The timer of the held copy expires. -/
theorem completes_heldExpiry (expires : s.expires (s.cp p).heldTimer 2 = true) :
    completes (exec (.heldCopyTimerExpiry p) s) fun t => Released s t (s.offer (other p) h.frame) p h.seq (s.lostHeld p h) := by
  change completes (State.done (if s.expires (s.cp p).heldTimer 2 then s.deliverHeld p else s)) _
  rw [if_pos expires]
  have took : ReceiverTook s s p := ⟨⟨rfl, rfl, rfl, ⟨rfl, rfl, rfl, rfl⟩, ⟨rfl, rfl⟩, rfl⟩, rfl⟩
  exact completes_done ((took.releases held heldCall relays).after (.hostKick _ p))

include clocked linked

/-- The preferred pair ends a bad frame. -/
theorem completes_heldBad {q : PairId} (preferred : q = (s.cp p).preferred) (cause : BadCause) :
    completes (exec (.badFrame p q cause) s) fun t => Released s t (s.offer (other p) h.frame) p h.seq (s.lostHeld p h) := by
  have released := (PairsOnly.modPair s p q fun x => x.closeFrame.countBad cause).toReceiverTook.releases held heldCall relays
  change completes (s.badFrame p q cause).done _
  rw [State.badFrame, if_pos (State.framing_of_linked clocked linked q), linked]
  dsimp only
  rw [if_pos preferred]
  exact completes_done (released.after ((State.changePair_pairsOnly (.inl released.held)).trans (.hostKick _ p)))

/-- BREAK on the preferred pair makes the other one preferred. -/
theorem completes_heldBreak (goodA : (s.cp p).pairA.degraded = false) (goodB : (s.cp p).pairB.degraded = false)
    (wholeA : (s.cp p).pairA.brk = false) (wholeB : (s.cp p).pairB.brk = false) (shut : (s.cp p).pairA.inFrame = false) :
    completes (exec (.pairBreak p .a) s) fun t => Released s t (s.offer (other p) h.frame) p h.seq (s.lostHeld p h) := by
  have rests : s.abandonFrame p .a = s := if_neg (by simp [Coupler.pair, shut])
  rw [exec_pairBreak_linked (q := .a) clocked linked wholeA, State.breakLinked_eq, rests,
    if_neg (by simp [Coupler.pair, otherPair, wholeB])]
  have turns : ((s.modCp p fun c => c.modPair .a Pair.enterBreak).cp p).preferred ≠ (s.cp p).preferred := by
    simp [Coupler.preferred, Coupler.modPair, Pair.enterBreak, goodA, goodB]
  have took := (PairsOnly.modPair s p .a Pair.enterBreak).trans (.raiseIf _ p
    (((s.cp p).pair .a).degraded != (((s.modCp p fun c => c.modPair .a Pair.enterBreak).cp p).pair .a).degraded) .port)
  rw [State.changePair, if_neg turns]
  exact completes_done ((took.toReceiverTook.releases held heldCall relays).after (.hostKick _ p))

end

include clocked linked held

/-- A PATTERN frame on the preferred pair restarts the timer (log entry 9). -/
theorem completes_heldPattern {q : PairId} (preferred : q = (s.cp p).preferred)
    (stays : ((s.cp p).pair q).degraded = true ∨ ((s.cp p).pair q).score ≤ 12) {rate : Nat} (differs : rate ≠ (s.cp p).rate)
    (ready : Bool) : completes (exec (.pattern p q ready rate) s) fun t =>
      (t.cp p).held = some h ∧ (t.cp p).heldTimer = some 0 ∧ portsBut s t p ∧ sameNode s t ∧ sameSystem s t ∧ sameHost s t := by
  let d := s.modCp p fun c => c.frameTaken q
  have took := ReceiverTook.frameTaken s p q
  have cp : d.cp p = (s.cp p).frameTaken q := by simp [d]
  have stays : PairsOnly d (d.changePair p q fun x => x.goodScore.restartSilence) p := by
    have pair : ((s.cp p).frameTaken q).pair q = ((s.cp p).pair q).closeFrame := by
      rw [Coupler.frameTaken_eq]
      cases q <;> rfl
    refine State.changePair_pairsOnly (.inr ?_)
    rw [cp]
    exact Coupler.goodScore_preferred (by rw [Coupler.frameTaken_preferred, preferred]) (by rw [pair]; exact stays)
  have score : s.patternScore p q = d.changePair p q fun x => x.goodScore.restartSilence := by
    rw [State.patternScore, linked]
  change completes (s.goodPattern p q ready rate).done _
  rw [State.goodPattern, if_pos (State.framing_of_linked clocked linked q), linked]
  dsimp only
  rw [if_pos differs, score]
  have after := stays.trans (.hostKick _ p)
  have only := took.trans after.toReceiverTook
  refine completes_done ⟨(only.field Coupler.held).trans held, after.timer.trans ?_, only.portsBut, only.node,
    only.system, only.host⟩
  rw [cp, Coupler.frameTaken_heldTimer preferred (by simp [held])]

include relays

/-- The preferred pair's own frame of the held copy's sequence takes its place. -/
theorem completes_heldReplaced {q : PairId} (preferred : q = (s.cp p).preferred) {f : Frame}
    (call : f.body = .call serial a b c) : completes (exec (f.command p q h.seq) s) fun t =>
      Released s t (s.offer (other p) f) p h.seq (s.lostHeld p h) := by
  have took := ReceiverTook.frameTaken s p q
  have heldT := (took.field Coupler.held).trans held
  rw [exec_command (classed_of_call call), State.goodFrame_of_linked clocked linked]
  have receives : (s.modCp p fun c => c.frameTaken q).receive p q h.seq f =
      ((s.modCp p fun c => c.frameTaken q).emptySlot p).deliver p q h.seq f := by
    rw [State.receive, State.modCp_cp, Coupler.frameTaken_preferred, if_pos preferred, State.receivePreferred, heldT]
    exact if_pos rfl
  have released := took.emptySlot.deliver relays call q h.seq
  rw [receives]
  exact completes_done (released.after ((State.scored_pairsOnly released.held q h.seq).trans (.hostKick _ p)))

include heldCall

/-- A newer frame of the preferred pair lets the held copy go before it. -/
theorem completes_heldOvertaken {q : PairId} (preferred : q = (s.cp p).preferred) {f : Frame}
    (call : f.body = .call serial a b c) {seq : Nat} (newer : seqNewer seq h.seq = true) :
    completes (exec (f.command p q seq) s) fun t =>
      Released s t ((s.offer (other p) h.frame).offer (other p) f) p seq (lostAfter (some h.seq) (s.lostHeld p h) seq) := by
  have took := ReceiverTook.frameTaken s p q
  rw [exec_command (classed_of_call call), State.goodFrame_of_linked clocked linked]
  have first := took.releases held heldCall relays
  have receives : (s.modCp p fun c => c.frameTaken q).receive p q seq f =
      ((s.modCp p fun c => c.frameTaken q).deliverHeld p).deliver p q seq f := by
    have apart : seq ≠ h.seq := fun same => by simp [same, seqNewer_self] at newer
    rw [State.receive, State.modCp_cp, Coupler.frameTaken_preferred, if_pos preferred, State.receivePreferred,
      (took.field Coupler.held).trans held]
    dsimp only
    rw [if_neg apart, if_pos newer, State.deliverNew, first.last]
    exact if_pos newer
  have released := first.toSlotFree.deliver relays call q seq
  rw [receives]
  exact completes_done (released.after ((State.scored_pairsOnly released.held q seq).trans (.hostKick _ p)))

end

/-! ### The obligation -/

theorem completes_mono {i : Instr} {s : State} {P Q : State → Prop} (stands : completes (exec i s) P) (weaker : ∀ t, P t → Q t) :
    completes (exec i s) Q := by
  obtain ⟨t, runs, h⟩ := stands
  exact ⟨t, runs, weaker t h⟩

/-- Settles O20: an old sequence, a new one on the second pair, a CALL delivered at once, and the exits of a held CALL. -/
theorem oldSequencesAreNotDelivered : Obligations.OldSequencesAreNotDelivered := by
  unfold Obligations.OldSequencesAreNotDelivered
  intro s p q seq f h serial a b c cause ready rate clocked linked classed
  refine ⟨completes_old clocked linked classed, completes_hold clocked linked classed,
    fun now call claim front => completes_call now call ⟨claim, front⟩, fun held heldCall claim front => ?_⟩
  have relays : Relays s p := ⟨claim, front⟩
  intro lost released
  have lost_eq : s.lostHeld p h = lost := rfl
  have settle {t : State} (r : Released s t (s.offer (other p) h.frame) p h.seq (s.lostHeld p h)) : released t :=
    ⟨r.held, r.heldTimer, r.last, r.lost.trans lost_eq, r.timeout, r.ports, r.node, r.system, r.host⟩
  refine ⟨fun inReset due => ?_, fun preferred => ?_, fun goodA goodB wholeA wholeB shut => ?_,
    fun preferred stays differs => completes_heldPattern clocked linked held preferred stays differs ready,
    fun preferred call => ⟨fun same => ?_, fun newer => ?_⟩⟩
  · have ticks : s.ticking = true := by simp [State.ticking, inReset, clocked]
    exact completes_mono (completes_heldExpiry held heldCall relays ((s.expires_iff _ _).mpr ⟨ticks, due⟩)) fun _ => settle
  · exact completes_mono (completes_heldBad clocked linked held heldCall relays preferred cause) fun _ => settle
  · exact completes_mono (completes_heldBreak clocked linked held heldCall relays goodA goodB wholeA wholeB shut) fun _ => settle
  · subst same
    refine completes_mono (completes_heldReplaced clocked linked held relays preferred call) fun t r => ?_
    exact ⟨r.held, r.heldTimer, r.last, r.lost.trans lost_eq, r.timeout, r.ports, r.node, r.system, r.host⟩
  · refine completes_mono (completes_heldOvertaken clocked linked held heldCall relays preferred call newer) fun t r => ?_
    exact ⟨r.held, r.heldTimer, r.last, r.lost.trans (by rw [lostAfter, lost_eq]), r.timeout, r.ports, r.node, r.system, r.host⟩

end Sys2Proof.Machine
end
